-- ==== Sys2Proof/Word.lean ====
section
/-!
DEFINITION. The word types of the block: what the spec treats as bits is a bit vector; counts, addresses and
indexes are natural numbers.
-/

namespace Sys2Proof

/-- One byte of a memory, a frame or a buffer. -/
abbrev Byte := BitVec 8

/-- A 16-bit quantity. -/
abbrev U16 := BitVec 16

/-- A 32-bit quantity: one lane of the fountain, one accumulator. -/
abbrev U32 := BitVec 32

/-- A 64-bit quantity: a BAR0 register, a galley word, a general register of a press. -/
abbrev U64 := BitVec 64

/-- A Dateline count: the tick at which a command happens. Commands name it because the block takes it from the
TIME domain's clock, which no command of the table drives. -/
abbrev Tick := Nat

end Sys2Proof
end

