-- ==== Sys2Proof/Syntax.lean ====
section
/-!
DEFINITION. The commands of the block: one constructor of Instr for each row of spec/opcode_table.json, with the
operands a command carries from outside the block. Every type here is plain data.
-/

namespace Sys2Proof

/-- Which part of a 64-bit register a host write carries (R13). -/
inductive Half where
  | lower | upper | full
  deriving DecidableEq, Repr

/-- Which read of GAL_HOST_RX_DATA the host makes (R202, R203). -/
inductive RxForm where
  | full | lower | upper
  deriving DecidableEq, Repr

/-- What the SEC-DED check of a stored word finds (R187, R208). -/
inductive Ecc where
  | clean | single | double
  deriving DecidableEq, Repr

abbrev Ring := Fin 64
abbrev SeqId := Fin 1024
abbrev GalleyId := Fin 64
abbrev XingId := Fin 24
abbrev EthPort := Fin 4
abbrev CamPort := Fin 8
abbrev Press := Fin 16
abbrev Reg := Fin 32
abbrev VReg := Fin 32
abbrev Pred := Fin 8
abbrev UnitId := Fin 16

/-- A chain port: 0 west, 1 east (R659). -/
abbrev Port := Fin 2

/-- A word as a consumer receives it and as a gutter carries it, with its flags (R178, R209). -/
structure GWord where
  data     : U64
  isEnd    : Bool := false
  isAbort  : Bool := false
  isPoison : Bool := false
  deriving DecidableEq, Repr

/-- The bits of a stored galley word that an error flips while it is stored: of its data, of its check bits, and of the three copies of its
end mark (R174, R176). -/
structure Upset where
  data  : U64 := 0
  check : BitVec 8 := 0
  marks : BitVec 3 := 0
  deriving DecidableEq, Repr

/-- A word as a producer hands it to a galley, with what an error flips of it once it is stored (R176). -/
structure PushWord where
  data  : U64
  upset : Upset := {}
  deriving DecidableEq, Repr

/-- One direction or one source of a crossing of Table ARC-4: a row marked ↔ has a gutter in each direction, X19 a pair for each domain, and
X03, X05 and X20 a toggle for each strobe or notice source (R25). -/
structure XLane where
  x    : XingId
  lane : Nat := 0
  deriving DecidableEq, Repr

/-- What a crossing's source writes into its gutter: a word of its own, or the word at the head of a galley that the crossing empties (Table
GAL-1, R209). -/
inductive XSource where
  | word (w : GWord)
  | galley (g : GalleyId)
  deriving DecidableEq, Repr

/-- A fault that a built-in self-test finds in one press, by the resource of Table REP-1 or Table REP-3. -/
inductive BistFault where
  | column (press : Press) (col : Nat)
  | bankRow (press : Press) (sub row : Nat)
  | caseEntry (press : Press) (copy entry : Nat)
  | slugRow (press : Press) (row : Nat)
  | screen (screen : Nat)
  | logic (press : Press)
  deriving DecidableEq, Repr

/-- A sensor port whose enable bit the host writes. -/
inductive IngPort where
  | cam (p : CamPort) | enc (n : Fin 4) | imu (i : Fin 2) | eth (p : EthPort)
  deriving DecidableEq, Repr

/-- A frame that crosses a transparent-clock pair: its receive stamp, the sub-tick of its transmit stamp, its bytes
without FCS, and what the ingress and egress sides report (R296, R301, R302). -/
structure Forward where
  inCount : Nat
  inSub   : Nat
  outSub  : Nat
  frame   : List Byte
  fcsOk   : Bool
  linkUp  : Bool
  deriving DecidableEq, Repr

/-- The key of a two-step residence entry (R298). -/
structure TcKey where
  domain : Nat
  portId : Nat
  seq    : Nat
  deriving DecidableEq, Repr

/-- Conditions of CMP and CMPI (Table SLG-6). -/
inductive Cond where
  | eq | ne | lt | ge | ltu | geu
  deriving DecidableEq, Repr

/-- Operations of PLOG (Table SLG-6). -/
inductive LogicOp where
  | conj | disj | exor | conjNot
  deriving DecidableEq, Repr

/-- The shift amount of SHL, SHR and SAR: a register's bits [5:0] or IMM[5:0] (Table SLG-6). -/
inductive ShiftBy where
  | reg (rb : Reg) | imm (n : Fin 64)
  deriving DecidableEq, Repr

/-- Fence kinds (Table SLG-6, R694). -/
inductive FenceKind where
  | order | visible | durable
  deriving DecidableEq, Repr

/-- Modes of the ternary array (Table SLG-8). -/
inductive AryMode where
  | direct | case | planePair
  deriving DecidableEq, Repr

/-- The fields of the ARY slot (Table SLG-8). -/
structure AryFields where
  mode   : AryMode
  wslot  : Nat
  aset   : Bool := false
  sgnA   : Bool := false
  sgnB   : Bool := false
  maskB  : Bool := false
  start  : Bool := false
  drain  : Bool := false
  satEn  : Bool := false
  addrA  : Nat := 0
  addrP  : Nat := 0
  addrD  : Nat := 0
  addrS  : Nat := 0
  m      : Nat := 0
  deriving DecidableEq, Repr

/-- The fields of a CAS BUILD (Table SLG-9). -/
structure BuildFields where
  addr   : Nat
  groups : Nat
  m      : Nat
  deriving DecidableEq, Repr

/-- The fields of the HND slot (Table SLG-12). -/
structure HndFields where
  int8  : Bool
  sgnA  : Bool := false
  sgnB  : Bool := false
  acc   : Bool := false
  out   : Bool := false
  outBf : Bool := false
  addrA : Nat := 0
  addrB : Nat := 0
  addrC : Nat := 0
  m     : Nat := 0
  deriving DecidableEq, Repr

/-- The fields of the MOV slot (Table SLG-13). -/
structure MovFields where
  rd    : Reg := 0
  gs    : Reg := 0
  gb    : Reg := 0
  dest  : Press := 0
  aop   : Nat := 0
  bank  : Nat := 0
  stock : Nat := 0
  len   : Nat := 0
  ra    : Reg := 0
  rb    : Reg := 0
  deriving DecidableEq, Repr

/-- The stop causes of a launch (Table PRS-8 and the causes its STOP row lists). -/
inductive StopCause where
  | timeout | flush | retract | pfail | fence | mismatch | deadline | freeze
  | poison | partition (unit : Nat) | remote (unit : Nat) | determinism
  | badOpcode | badAlign
  deriving DecidableEq, Repr

/-- The link header of a message, without its CRC (Table CHN-2). -/
structure LinkHeader where
  seq    : Nat
  ackSeq : Nat
  crdVc  : Nat := 0
  crdN   : Nat := 0
  deriving DecidableEq, Repr

/-- A chain message: its header (Table CHN-3), INLINE and data bytes. -/
structure Msg where
  op      : Nat
  src     : Nat := 0
  dst     : Nat := 0
  tag     : Nat := 0
  cls     : Nat := 1
  prov    : Bool := false
  needAck : Bool := false
  resend  : Bool := false
  unaddr  : Bool := false
  pid     : Nat := 0
  len     : Nat := 0
  addr    : Nat := 0
  epoch   : Nat := 0
  stat    : Nat := 0
  inline  : List Byte := []
  data    : List Byte := []
  deriving DecidableEq, Repr

/-- What the FEC of a port tells of one of its lanes: the symbols it corrected there in the last second, and whether the lane has lost lock
(R614). -/
structure LaneReport where
  lane    : Nat
  symbols : Nat := 0
  lost    : Bool := false
  deriving DecidableEq, Repr

/-- The INLINE payload of ENUM_PROBE and ENUM_END (R632, R636), with the IDs taken so far and the die serials that took
them, in walk order, and whether a root has yielded to this walk (log entry 13). -/
structure EnumBody where
  used    : U16
  pos     : Nat
  serial  : Nat
  ids     : List (Nat × Nat)
  yielded : Bool := false
  deriving DecidableEq, Repr

/-- The map of a chain: MODE, the IDs eastward from the root, and the links that are open, link i lying between entries i
and i + 1 of the list, the last between its end and its start. -/
structure ChainMap where
  mode : Nat := 3
  ids  : List Nat := []
  cuts : List Nat := []
  deriving DecidableEq, Repr

/-- The payload of ENUM_DONE: the map, the root's serial and whether a root yielded (R632, R636). -/
structure EnumDoneBody where
  map      : ChainMap
  serial   : Nat
  conflict : Bool
  deriving DecidableEq, Repr

/-- What one stock access does (R665). -/
inductive AccessOp where
  | read (len : Nat)
  | write (data : List Byte)
  | fetchAdd (operand : U64)
  | compareSwap (expected new : U64)
  | swap (new : U64)
  deriving DecidableEq, Repr

/-- One access at a home unit's stock agent (R665): its source unit, its class, its address and its tags. -/
structure Access where
  src     : UnitId
  guard   : Bool := false
  host    : Bool := false
  op      : AccessOp
  addr    : Nat
  pid     : Option (Fin 64) := none
  provOk  : Bool := false
  epoch   : Nat := 0
  ecc     : Ecc := .clean
  deriving DecidableEq, Repr

/-- An error that has struck a 64-bit word of a press's slug memory or Bank, of one bit or of more (R431, R461). -/
structure MemHit where
  slug   : Bool
  word   : Nat
  double : Bool
  deriving DecidableEq, Repr

/-- One PRESS cycle of a press: its count, and the errors that have struck its memories before it. -/
structure PressCycle where
  at_  : Tick
  hits : List MemHit := []
  deriving DecidableEq, Repr

/-- A stretch of VDD_CORE below the reset level (R68): the count it has come to, the highest reading in it in mV, the count at which it
began, and how many 40 ns of the coarse counter pass until the reset is released (R272). -/
structure SupplyDip where
  at_    : Tick
  mv     : Nat
  since  : Tick
  coarse : Nat
  deriving DecidableEq, Repr

/-- What phase JOURNAL meets: the µs it took, and whether each of the two checkpoint copies was read with a matching CRC (R705). -/
structure ReplayRead where
  us     : Nat
  copy0  : Bool
  copy1  : Bool
  deriving DecidableEq, Repr

/-- The rise of RESET_n: the CHAIN_ROOT strap, and how many 40 ns of the coarse counter have passed while RESET_n was low (R44, R272). -/
structure StrapRise where
  root   : Bool
  coarse : Nat
  deriving DecidableEq, Repr

/-- The commands of the block, one constructor for each row of spec/opcode_table.json. -/
inductive Instr where
  /-- R14: A host write to a register that has no row of its own sets its RW fields, does nothing to RO fields, and sets RWL fields only before makeready completes. -/
  | registerWrite (t : Tick) (off : Nat) (half : Half) (v : BitVec 64)
  /-- R12: A BAR0 access of a wrong size or alignment is ignored if it is a write, and returns all ones if it is a read. -/
  | bar0BadAccess (write : Bool) (off size : Nat)
  /-- R34: A W1C write to ARC_NOTICE_STATUS clears bits, and sends one MSI-X message if any unmasked bit stays set. -/
  | arcNoticeStatusWrite (v : BitVec 64)
  /-- R34: A write to ARC_NOTICE_MASK sets the mask, and sends one MSI-X message if any unmasked NOTICE bit is set. -/
  | arcNoticeMaskWrite (v : BitVec 64)
  /-- R89: VDD_AON rises and clears everything, including the always-on island; the Dateline becomes UNSET. -/
  | aonPowerOn
  /-- R89: RESET_n held low for 10 us or more clears every domain except AON, and with them DRAM contents, the PCIe link and the PFAIL latch. -/
  | boardReset
  /-- R44: On the rising edge of RESET_n, the engine samples CHAIN_ROOT and SMB_ADDR and starts makeready. -/
  | resetNRise (root : StrapRise) (addr0 addr1 : Bool)
  /-- R91: When the firmware has not serviced the Foreman watchdog for 1 s, the watchdog causes a board reset with RESET_CAUSE watchdog. -/
  | watchdogExpire
  /-- R117: A WARM write with KEY 0xA5 starts a warm reset: descriptors are refused, work is abandoned, DRAM is put in self-refresh if RETAIN is 1, and the listed domains are reset. -/
  | warmReset (v : BitVec 64) (srOk : Bool)
  /-- R89: An SMBus warm-reset command starts a warm reset with RESET_CAUSE 0x5. -/
  | smbusWarmReset (srOk : Bool)
  /-- R89: PERST_n low or a Function Level Reset clears the PCIe core, the ring state and the MSI-X table, without running makeready. -/
  | pcieReset (perst : Bool)
  /-- R110: PERST_n rises and starts PCIe link training, counted for the 90 ms link-up bound. -/
  | perstNRise
  /-- R110: The PCIe link comes up, and the engine answers configuration requests from then on. -/
  | pcieLinkUp
  /-- R103: Phase ROM locks the PLLs, starts the Foreman from ROM and starts the PCIe track. -/
  | romPhase (us : Nat)
  /-- R103: Phase OTP reads the key hash, SVN floor, SKU, debug lock and repair fuses, and applies the factory repairs. -/
  | otpPhase (us : Nat) (checkOk : Bool)
  /-- R103: Phase FW_LOAD reads one firmware image from QSPI at 50 MB/s, hashing it as it reads. -/
  | fwLoad (us : Nat) (readOk : Bool)
  /-- R95: Phase FW_VERIFY checks the image header, key hash, SVN and signature; it falls back to slot 1, or halts with 0x10. -/
  | fwVerify (us : Nat)
  /-- R100: Phase CONFIG applies the configuration record entries in order, then loads and applies the soft repair table. -/
  | configPhase (us : Nat)
  /-- R751: Phase BIST_REPAIR tests presses, screens, case tables and slug memories, allocates spares, and fences presses that cannot be repaired. -/
  | bistRepairPhase (us : Nat) (faults : List BistFault)
  /-- R103: Phase TRAIN_DRAM trains the 16 LPDDR5X channels, or only recalibrates them after a retained warm reset. -/
  | trainDram (us : Nat) (ok : Bool)
  /-- R103: Phase TRAIN_FLASH trains the 8 ONFI channels. -/
  | trainFlash (us : Nat) (ok : Bool)
  /-- R705: Phase JOURNAL loads the newest valid leaf-map checkpoint, applies journal records in sequence, or halts with 0x14. -/
  | journalReplay (us : ReplayRead)
  /-- R103: Phase SERDES brings up the chain and Ethernet SerDes. -/
  | serdesPhase (us : Nat) (ok : Bool)
  /-- R632: Phase ENUM has the root run the enumeration walk, or has a non-root unit wait for its ID. -/
  | enumPhase
  /-- R104: A root with no chain link within ENUM_WAIT_MS becomes standalone, takes ID 0 and goes to READY. -/
  | enumWaitExpire (us : Nat)
  /-- R97: Makeready reaches READY; SVN fuses are blown for an image with SVN_COMMIT, and kept notices become readable. -/
  | makereadyReady (readyUs : Nat)
  /-- R637: A unit whose granted ID differs from its sticky record rewrites the record within 1 s of READY. -/
  | chainRecordRewrite
  /-- R124: Recovery-mailbox OP 0b01 reads 8 bytes of QSPI flash at ADDR into DATA. -/
  | recRead
  /-- R124: Recovery-mailbox OP 0b10 programs 8 bytes from DATA into QSPI flash at ADDR. -/
  | recProgram
  /-- R124: Recovery-mailbox OP 0b11 erases the 64 KiB QSPI sector at ADDR. -/
  | recErase
  /-- R124: A recovery-mailbox operation ends, BUSY clears, and DONE_ERR reports failure. -/
  | recOpDone (ok : Bool)
  /-- R69: VDD_CORE falls below the warning level; the 200 ns filter starts and the warning window opens at its start. -/
  | vddCoreBelowWarn (t : Tick) (mv : Nat)
  /-- R66: After 200 ns below the warning level, the warning is asserted: SUPPLY_WARN goes high, the notice is raised and flash programs are suspended. -/
  | supplyWarnAssert (t : Tick) (mv : Nat)
  /-- R67: VDD_CORE rises to the warning level plus 2 % and starts the 100 us clearing wait. -/
  | vddCoreAboveClear (t : Tick) (mv : Nat)
  /-- R67: After 100 us of stable supply, the warning clears, the window closes, and suspended programs, fences and faster steps resume. -/
  | supplyWarnClear (t : Tick)
  /-- R68: VDD_CORE below the reset level for 2 us performs a supply reset. -/
  | supplyReset (t : SupplyDip)
  /-- R61: A step to a faster point first writes VOUT_COMMAND over PMBus and then waits SETTLE_US. -/
  | dvfsStepUp (p : Fin 5)
  /-- R61: After SETTLE_US, the PRESS clock is raised to the new point. -/
  | dvfsSettleExpire
  /-- R61: A step to a slower point lowers the PRESS clock first and then writes VOUT_COMMAND. -/
  | dvfsStepDown (p : Fin 5)
  /-- R78: PFAIL_n low past its 1 us filter latches PFAIL, raises the notice, stops accepting work and starts the flush. -/
  | pfailAssert (t : Tick)
  /-- R700: The write-back of dirty KEEP leaves and the journal checkpoint end, and FLUSH_DONE is set. -/
  | pfailFlushDone (us : Nat)
  /-- R83: Every 100 us each thermal sensor is read, and the THERMAL notice is raised above WARN_C. -/
  | thermalSample (temps : List Int)
  /-- R85: Every 1 ms above TARGET_C, the thermal loop steps PRESS one point slower, overriding FLOOR if needed. -/
  | thermalStepDown
  /-- R85: After 10 ms below TARGET_C minus 3 C, the loop steps one point faster every 10 ms, up to CEIL. -/
  | thermalStepUp
  /-- R129: A BAR2 read reaches STOCK_BASE plus its offset, or returns all ones within 100 us when forbidden or unreachable. -/
  | bar2Read (x n : Nat)
  /-- R128: A BAR2 write reaches the stock, or is dropped and counted when forbidden or unreachable. -/
  | bar2Write (t : Tick) (x : Nat) (data : List Byte)
  /-- R146: A write to HST_SQ_DB_n sets the SQ tail, or puts the ring in ERROR when the value is out of range. -/
  | hstSqDbWrite (r : Ring) (v : BitVec 64)
  /-- R150: A write to HST_CQ_DB_n sets the CQ head, or keeps the old head and puts the ring in ERROR when the value is invalid. -/
  | hstCqDbWrite (r : Ring) (v : BitVec 64)
  /-- R157: The engine fetches a descriptor in ring order and checks it for DUPLICATE, BAD_OPCODE, BAD_ALIGN, PARTITION, OVERLAP, SCREEN_ALIAS and DETERMINISM. -/
  | descriptorFetch (r : Ring) (ok : Bool)
  /-- R153: A NOP descriptor completes OK at dispatch. -/
  | nop (r : Ring) (slot : Nat)
  /-- R423: A NET_LAUNCH descriptor is dispatched to run one network image on the presses of PRESS_MASK. -/
  | netLaunch (r : Ring) (slot : Nat)
  /-- R588: A launch on epoch e starts at the seal, at quorum delivery, or at finalisation, as its kind requires. -/
  | netLaunchStart (t : Tick) (r : Ring) (slot : Nat)
  /-- R524: A COPY descriptor reads a shape record, checks overlap and copies between impositions, or transposes in place in MODE 1. -/
  | copy (t : Tick) (r : Ring) (slot : Nat)
  /-- R543: A FOLIO_ALLOC descriptor appends COUNT folios to a sequence's list, pre-empting if it must. -/
  | folioAlloc (r : Ring) (slot : Nat)
  /-- R545: A FOLIO_FREE descriptor returns folio-list entries to the pool, after any holding launch completes. -/
  | folioFree (r : Ring) (slot : Nat)
  /-- R581: A FOLIO_SWAP_OUT descriptor writes a sequence's folios to HOST_ADDR and stops its holders. -/
  | folioSwapOut (r : Ring) (slot : Nat)
  /-- R582: A FOLIO_SWAP_IN descriptor reallocates folios and reads a swapped sequence back. -/
  | folioSwapIn (r : Ring) (slot : Nat)
  /-- R580: A swap-out ends: the grains return to the pool and the sequence is SWAPPED. -/
  | swapOutDone (q : SeqId)
  /-- R583: A swap-in ends: on a CRC match the sequence is RESIDENT; otherwise the new folios are freed and it stays SWAPPED. -/
  | swapInDone (q : SeqId)
  /-- R153: A POOL_READ descriptor copies LEN bytes from the stock to host memory. -/
  | poolRead (t : Tick) (r : Ring) (slot : Nat)
  /-- R153: A POOL_WRITE descriptor copies LEN bytes from host memory to the stock, completing when VISIBLE. -/
  | poolWrite (t : Tick) (r : Ring) (slot : Nat)
  /-- R670: A POOL_ATOMIC descriptor runs fetch-add, compare-swap or swap at the home unit and returns the old value. -/
  | poolAtomic (t : Tick) (r : Ring) (slot : Nat)
  /-- R260: A TRG_SCHED descriptor places a trigger schedule, cancels all schedules when COUNT is 0, or fails the lead and gap checks. -/
  | trgSched (t : Tick) (r : Ring) (slot : Nat)
  /-- R260: A waiting TRG_SCHED is placed when a schedule slot frees, or completes TIMEOUT when its lead is gone. -/
  | trgSchedPlace (t : Tick) (r : Ring) (slot : Nat)
  /-- R153: An EPOCH_MARK descriptor completes when its epoch reaches STAGE, or at once if it already has. -/
  | epochMark (t : Tick) (r : Ring) (slot : Nat)
  /-- R694: A FENCE descriptor completes when the ORDER, VISIBLE or DURABLE condition holds for its scope. -/
  | fence (r : Ring) (slot : Nat)
  /-- R158: When TIMEOUT_US expires, a NET_LAUNCH stops on every press it holds and completes TIMEOUT. -/
  | launchTimeout (r : Ring) (slot : Nat)
  /-- R154: The engine writes one 32-byte completion entry to the CQ when a slot is free, with coalescing counted. -/
  | completionWrite (t : Tick) (r : Ring) (ok : Bool)
  /-- R164: TIMER_US after the first unsignalled entry, one MSI-X message is sent for the ring. -/
  | coalTimerExpire (r : Ring)
  /-- R131: ENABLE moves a DISABLED ring to ACTIVE, or leaves it DISABLED with ERR_CAUSE 0x5 when the configuration is invalid. -/
  | ringEnable (r : Ring)
  /-- R167: DRAIN moves an ACTIVE or ERROR ring to DRAINING, and the ring finishes its in-flight work. -/
  | ringDrain (r : Ring)
  /-- R170: DRAIN with FLUSH stops running NET_LAUNCHes and completes every unstarted descriptor FLUSHED. -/
  | ringDrainFlush (r : Ring)
  /-- R167: A DRAINING ring with nothing in flight and every entry written goes to DISABLED. -/
  | ringDrainDone (r : Ring)
  /-- R180: A producer writes a word into a galley, with admission, overlong abandonment and discard-to-end applied. -/
  | galleyPush (g : GalleyId) (w : PushWord) (endMark : Bool)
  /-- R179: A consumer takes a word with its END, ABORT and POISON flags, stalling while the galley is empty. -/
  | galleyPop (g : GalleyId) (ecc : Ecc)
  /-- R182: A commit-mode producer abandons an uncommitted item; its words vanish and it counts in PKT_DROP. -/
  | galleyAbandon (g : GalleyId)
  /-- R193: A galley flush discards every stored word, queues a synthetic end word and enters discard-to-end as needed. -/
  | galleyFlush (g : GalleyId)
  /-- R191: A duplicated-pointer mismatch performs a fault reset, raises GALLEY_FAULT and records the galley in GAL_FAULT. -/
  | galleyFaultReset (g : GalleyId) (readSide : Bool)
  /-- R200: A write to GAL_HOST_TX_DATA pushes one word without an end mark into galley 48, or drops it on overrun. -/
  | galHostTxData (v : BitVec 64)
  /-- R200: A write to GAL_HOST_TX_LAST pushes one end-marked word into galley 48. -/
  | galHostTxLast (v : BitVec 64)
  /-- R202: A read of GAL_HOST_RX_DATA pops one word from galley 49 and latches its flags with VALID 1. -/
  | galHostRxData (form : RxForm)
  /-- R204: A read of an empty galley 49 that finds no word within 1 us completes with 0 and VALID 0. -/
  | hostRxEmptyTimeout
  /-- R207: An entry written to a gutter becomes readable in the destination domain with its SEC-DED checked. -/
  | gutterTransfer (x : XLane) (w : XSource) (ecc : Ecc)
  /-- R215: A pulse crosses a toggle synchroniser and is acknowledged, or is merged with a held pulse and counted. -/
  | togglePulse (x : XLane) (acked : Bool)
  /-- R227: GO latches the count and the time formed from it into DTL_CAP_COUNT, DTL_CAP_S and DTL_CAP_NS. -/
  | dtlCapture (t : Tick) (v : BitVec 64)
  /-- R228: A rate write re-bases the offset and anchor at tick N and applies the clamped new rate, unless SERVO_EN ignores it. -/
  | dtlRateWrite (t : Tick) (v : BitVec 64)
  /-- R231: A write of delta to DTL_SLEW adds it to the remaining slew, saturating at plus or minus 1 s. -/
  | dtlSlewWrite (t : Tick) (v : BitVec 64)
  /-- R237: SET with AT_PPS 0 steps the Dateline out of UNSET to DTL_SET_S and DTL_SET_NS, or is ignored when not UNSET. -/
  | dtlSet (t : Tick)
  /-- R237: SET with AT_PPS 1 arms the Dateline to take DTL_SET_S at the next stamped PPS_IN edge. -/
  | dtlSetAtPps
  /-- R239: UNSET returns the Dateline to UNSET, discards the slew and clears ARMED, unless the epoch clock runs. -/
  | dtlUnset (t : Tick)
  /-- R253: A rising edge of PPS_IN is stamped, may give a reference sample, and may step an armed SET. -/
  | ppsInEdge (t : Tick) (sub : Fin 8)
  /-- R243: A phase sample of a reference advances its qualification and, when it is selected, disciplines the Dateline. -/
  | refSample (t : Tick) (r : Fin 2) (theta : Int)
  /-- R243: A reference with no sample for LOSS_MS is lost, which may cause a switch or HOLDOVER. -/
  | refLossTimeout (t : Tick) (r : Fin 3)
  /-- R243: At the end of REF_HOLDOFF, a reference in HOLDOFF becomes QUALIFIED. -/
  | refHoldoffExpire (t : Tick) (r : Fin 3)
  /-- R246: SWITCH_MEAS after the request, the switch commits at one tick: the target is selected, LOCKED, REF_SWITCH raised, and its theta becomes a slew. -/
  | switchCommit (t : Tick)
  /-- R255: PPS_OUT rises at each whole Dateline second when enabled and allowed. -/
  | ppsOutRise (t : Tick)
  /-- R255: PPS_OUT falls after WIDTH_MS. -/
  | ppsOutFall (t : Tick)
  /-- R256: A selected edge of EVTn is stamped with a 250 ps sub-tick into its FIFO, or is lost and counted when the FIFO is full. -/
  | evtEdge (t : Tick) (n : Fin 16) (rise : Bool) (sub : Fin 8)
  /-- R259: A read of DTL_EVT_n pops one stamp, or returns VALID 0 when the FIFO is empty. -/
  | dtlEvtRead (n : Fin 16)
  /-- R263: A trigger output places an edge at the count where Dateline time reaches the edge time. -/
  | trgEdge (t : Tick) (n : Fin 8)
  /-- R269: EN 1 in DTL_EPOCH_CFG starts the epoch clock at the first opening 20 us or more ahead, unless the Dateline is UNSET. -/
  | epochClockEnable (t : Tick) (v : BitVec 64)
  /-- R266: An epoch opens, closes the previous one, and sends open and close records to registration. -/
  | epochOpen (t : Tick)
  /-- R271: At each whole Dateline second, the time, coarse count and base rate are stored in AON. -/
  | aonTimeRecord (t : Tick) (coarse : Nat)
  /-- R277: A write to DTL_CONV_COUNT converts that count to time under the segment in force at it. -/
  | dtlConv (t : Tick) (v : BitVec 64)
  /-- R288: A received PTP message addressed to the engine is stamped and delivered on its PTP galley, or dropped and counted. -/
  | ptpRxMessage (t : Tick) (p : EthPort) (sub : Nat) (frame : List Byte)
  /-- R290: The engine transmits a PTP message, queuing its transmit stamp or inserting the time one-step. -/
  | ptpTxMessage (t : Tick) (p : EthPort) (sub : Nat) (frame : List Byte)
  /-- R296: A frame crossing a TC pair is forwarded, with the residence added to Sync, Delay_Req or a matching Follow_Up. -/
  | tcForward (t : Tick) (p : EthPort) (f : Forward)
  /-- R298: A two-step residence entry without a Follow_Up after 1 s is freed and counted UNCORRECTED. -/
  | tcEntryExpire (p : EthPort) (key : TcKey)
  /-- R308: A MASTER port sends Sync every 2^SYNC_LOG s, except while UNSET. -/
  | masterSyncTx (t : Tick) (p : EthPort)
  /-- R309: A MASTER port sends Announce every 2^ANN_LOG s with the engine as grandmaster. -/
  | masterAnnounceTx (t : Tick) (p : EthPort)
  /-- R306: Setting PORT_EN enables PTP on the port, or leaves it disabled with CFG_ERR on a role conflict. -/
  | ptpPortEnable (p : EthPort)
  /-- R322: A long packet header is checked for ECC, VC_OFF, DT_SKIP, LONG and FULL, and admitted or discarded. -/
  | csi2LongHeader (t : Tick) (p : CamPort) (ecc : Ecc) (vc dt wc : Nat)
  /-- R322: At a long packet's end, the CRC-16 is checked, and the item is committed or abandoned as CRC_DROP. -/
  | csi2PacketEnd (t : Tick) (p : CamPort) (payload : List Byte) (crcOk : Bool)
  /-- R323: A D-PHY start-of-transmission sync error discards the burst. -/
  | csi2SotErr (p : CamPort)
  /-- R325: A frame start checks the frame number for gaps, and closes an open frame under SYNC_ERR. -/
  | csi2FrameStart (t : Tick) (p : CamPort) (vc : Nat) (frame : BitVec 16)
  /-- R324: A frame end closes the frame, counts missing lines as gap, and triggers pattern injection. -/
  | csi2FrameEnd (t : Tick) (p : CamPort) (vc : Nat) (frame : BitVec 16)
  /-- R328: A received Ethernet frame is length- and FCS-checked, matched against templates, and converted into a scanner item. -/
  | ethFrameRx (t : Tick) (p : EthPort) (frame : List Byte) (fcsOk : Bool)
  /-- R337: A filtered quadrature change updates the position, or counts ILLEGAL. -/
  | encEdge (t : Tick) (n : Fin 4) (a b : Bool)
  /-- R339: A filtered Z rising edge latches ZPOS, optionally zeroes the position, and emits an item. -/
  | encZEdge (t : Tick) (n : Fin 4)
  /-- R340: Every PERIOD_US, an encoder port emits a four-word item. -/
  | encPeriodItem (n : Fin 4)
  /-- R341: An active IMUn_DRDY edge is stamped and starts the SPI script, or counts OVERRUN while a script runs. -/
  | imuDrdyEdge (t : Tick) (i : Fin 2) (rise : Bool)
  /-- R341: With TRIG 1, the IMU script starts every PERIOD_US. -/
  | imuPeriod (t : Tick) (i : Fin 2)
  /-- R343: An IMU script ends and emits one item of at most 240 bytes. -/
  | imuScriptEnd (i : Fin 2) (miso : List Byte)
  /-- R361: Enabling an ingress port flushes its galley and takes it out of DISABLED. -/
  | ingPortEnable (p : IngPort)
  /-- R361: Disabling an ingress port flushes its galley, which becomes DISABLED. -/
  | ingPortDisable (p : IngPort)
  /-- R361: ING_MDIO OP 0 starts a Clause 45 address frame. -/
  | mdioAddress (v : BitVec 64)
  /-- R361: ING_MDIO OP 1 starts a Clause 45 write frame. -/
  | mdioWrite (v : BitVec 64)
  /-- R361: ING_MDIO OP 3 starts a Clause 45 read frame, returning data in DATA. -/
  | mdioRead (v : BitVec 64)
  /-- R361: An MDIO frame ends and BUSY clears. -/
  | mdioFrameDone (data : BitVec 16)
  /-- R362: Registration takes one item, re-times it, compensates motion, and applies voxel updates and late policy. -/
  | regItem (t : Tick) (g : GalleyId)
  /-- R380: LOAD in RGS_CAL_CTRL reads and checks the whole calibration table. -/
  | calLoad
  /-- R381: The calibration load ends; the table is accepted for the next opening, or rejected with CAL_ERR. -/
  | calLoadDone
  /-- R422: A write of GRID_EN 1 empties the directory and the pool and starts registration. -/
  | gridEnable
  /-- R410: RESEED re-derives the registration screens at the next opening, and each press's screens at its next launch boundary. -/
  | reseed
  /-- R396: GRACE_US after its close, an epoch is sealed, and the sweep and brick quarantine advance. -/
  | epochSeal (t : Tick) (e : Nat)
  /-- R418: An epoch is finalised: coverage becomes final, the dirty-list header is written and the epoch reaches CLOSED. -/
  | epochFinalise (t : Tick) (e : Nat)
  /-- R430: The compositor issues one slug with all its valid slots in one cycle, unless an interlock, Bank conflict or full store buffer holds it. -/
  | slugIssue (t : PressCycle) (n : Press)
  /-- R476: A slot NOP has no effect. -/
  | slotNop (n : Press) (slot : Fin 6)
  /-- R489: CTL ADD sets RD to RA plus RB, modulo 2^64. -/
  | add (n : Press) (rd ra rb : Reg)
  /-- R489: CTL ADDI sets RD to RA plus the sign-extended IMM. -/
  | addi (n : Press) (rd ra : Reg) (imm : BitVec 32)
  /-- R489: CTL SUB sets RD to RA minus RB. -/
  | sub (n : Press) (rd ra rb : Reg)
  /-- R489: CTL AND sets RD to RA AND RB. -/
  | and (n : Press) (rd ra rb : Reg)
  /-- R489: CTL OR sets RD to RA OR RB. -/
  | or (n : Press) (rd ra rb : Reg)
  /-- R489: CTL XOR sets RD to RA XOR RB. -/
  | xor (n : Press) (rd ra rb : Reg)
  /-- R489: CTL SHL shifts RA left by RB or IMM. -/
  | shl (n : Press) (rd ra : Reg) (by_ : ShiftBy)
  /-- R489: CTL SHR shifts RA right logically by RB or IMM. -/
  | shr (n : Press) (rd ra : Reg) (by_ : ShiftBy)
  /-- R489: CTL SAR shifts RA right arithmetically by RB or IMM. -/
  | sar (n : Press) (rd ra : Reg) (by_ : ShiftBy)
  /-- R489: CTL MUL sets RD to the low 64 bits of RA times RB. -/
  | mul (n : Press) (rd ra rb : Reg)
  /-- R489: CTL MOVI sets RD to the sign-extended IMM. -/
  | movi (n : Press) (rd : Reg) (imm : BitVec 32)
  /-- R489: CTL MOVHI sets RD to IMM shifted left by 32, ORed with RA[31:0]. -/
  | movhi (n : Press) (rd ra : Reg) (imm : BitVec 32)
  /-- R489: CTL CMP sets PD to a condition of RA against RB. -/
  | cmp (n : Press) (pd : Pred) (c : Cond) (ra rb : Reg)
  /-- R489: CTL CMPI sets PD to a condition of RA against the sign-extended IMM. -/
  | cmpi (n : Press) (pd : Pred) (c : Cond) (ra : Reg) (imm : BitVec 32)
  /-- R489: CTL PLOG sets PD to a logic function of two predicates. -/
  | plog (n : Press) (pd : Pred) (op : LogicOp) (pa pb : Pred)
  /-- R490: CTL BR adds IMM to the PC. -/
  | br (n : Press) (imm : BitVec 32)
  /-- R490: CTL JR sets the PC to RA[10:0]. -/
  | jr (n : Press) (ra : Reg)
  /-- R490: CTL CALL saves PC plus 1 in g31 and branches. -/
  | call (n : Press) (imm : BitVec 32)
  /-- R484: CTL LOOP decrements RD and branches while the new RD is nonzero. -/
  | loop (n : Press) (rd : Reg) (imm : BitVec 32)
  /-- R489: CTL GWAIT holds the slug until the inbound galley holds IMM words, or an END word. -/
  | gwait (n : Press) (onEnd : Bool) (words : Nat)
  /-- R489: CTL GCOUNT reads WORDS of the inbound galley into RD. -/
  | gcount (n : Press) (rd : Reg)
  /-- R493: CTL GPOP pops the next inbound word into RD with END or ABORT in PD, raising POISON on a poisoned word. -/
  | gpop (n : Press) (rd : Reg) (pd : Pred)
  /-- R694: CTL FENCE holds later stock accesses of the press until earlier ones meet ORDER, VISIBLE or DURABLE. -/
  | ctlFence (n : Press) (kind : FenceKind)
  /-- R489: CTL BWAIT holds the slug until the selected kinds of earlier streams have ended. -/
  | bwait (n : Press) (mask : BitVec 4)
  /-- R489: CTL RDSR reads a status register into RD. -/
  | rdsr (n : Press) (rd : Reg) (idx : Fin 8)
  /-- R489: CTL TRAP raises the TRAP exception, cause 0x06. -/
  | trap (n : Press)
  /-- R491: CTL RESUME leaves the handler and sets the PC to RA[10:0], or raises ILLEGAL outside the handler. -/
  | resume (n : Press) (ra : Reg)
  /-- R492: CTL END ends the launch on the press; the press lets its streams end and its store buffer drain. -/
  | endSlot (n : Press)
  /-- R494: ARY WLOAD loads one tile into a weight-store slot. -/
  | wload (n : Press) (f : AryFields)
  /-- R495: ARY RUN streams M tokens through a tile, accumulating and draining each token's set. -/
  | run (n : Press) (f : AryFields) (build : Option BuildFields)
  /-- R500: CAS BUILD forms the case tables for each token and plane of the paired case-mode RUN. -/
  | build (n : Press) (b : BuildFields)
  /-- R501: CAS PEEK writes eight copies of one case table to the Bank once the builder is idle. -/
  | peek (n : Press) (group plane : Nat) (addr : Nat)
  /-- R502: FTN VLD loads a 1 KiB vector from the Bank. -/
  | vld (n : Press) (vd : VReg) (gb : Reg) (addr : BitVec 24)
  /-- R502: FTN VST stores a vector to the Bank. -/
  | vst (n : Press) (va : VReg) (gb : Reg) (addr : BitVec 24)
  /-- R502: FTN VSTP stores 256 lanes as packed A-bit activations. -/
  | vstp (n : Press) (va : VReg) (gb : Reg) (addr : BitVec 24)
  /-- R502: FTN APOP takes the next half set from the drain queue, and its SAT bits when SATV is 1. -/
  | apop (n : Press) (vd vc : VReg) (satv : Bool)
  /-- R502: FTN SST stores lane 0 of VA and lane 0 of VB to the Bank. -/
  | sst (n : Press) (va vb : VReg) (gb : Reg) (addr : BitVec 24)
  /-- R502: FTN VMOVG broadcasts g[VA][31:0] to every lane. -/
  | vmovg (n : Press) (vd : VReg) (ga : Reg)
  /-- R502: FTN GMOVV moves lane 0 of VA into a g register. -/
  | gmovv (n : Press) (gd : Reg) (va : VReg)
  /-- R502: FTN IADD adds INT32 lanes. -/
  | iadd (n : Press) (vd va vb : VReg)
  /-- R502: FTN ISUB subtracts INT32 lanes. -/
  | isub (n : Press) (vd va vb : VReg)
  /-- R502: FTN IMUL multiplies INT32 lanes, keeping the low 32 bits. -/
  | imul (n : Press) (vd va vb : VReg)
  /-- R502: FTN IMAX takes the per-lane INT32 maximum. -/
  | imax (n : Press) (vd va vb : VReg)
  /-- R502: FTN IMIN takes the per-lane INT32 minimum. -/
  | imin (n : Press) (vd va vb : VReg)
  /-- R502: FTN FADD adds FP32 lanes or BF16 pairs. -/
  | fadd (n : Press) (vd va vb : VReg) (bf rnd : Bool)
  /-- R502: FTN FSUB subtracts FP32 lanes or BF16 pairs. -/
  | fsub (n : Press) (vd va vb : VReg) (bf rnd : Bool)
  /-- R502: FTN FMUL multiplies FP32 lanes or BF16 pairs. -/
  | fmul (n : Press) (vd va vb : VReg) (bf rnd : Bool)
  /-- R502: FTN FMA computes VA times VB plus VC with one rounding. -/
  | fma (n : Press) (vd va vb vc : VReg) (bf rnd : Bool)
  /-- R502: FTN FMAX takes the per-lane floating-point maximum. -/
  | fmax (n : Press) (vd va vb : VReg) (bf rnd : Bool)
  /-- R502: FTN FMIN takes the per-lane floating-point minimum. -/
  | fmin (n : Press) (vd va vb : VReg) (bf rnd : Bool)
  /-- R451: FTN REQ requantises INT32 lanes to A-bit activations, by round-to-nearest-even or stochastic rounding. -/
  | req (n : Press) (vd va vb : VReg) (sh : Nat) (z : BitVec 16) (sout rnd : Bool)
  /-- R502: FTN F2B converts two FP32 vectors into BF16 pairs. -/
  | f2b (n : Press) (vd va vb : VReg) (rnd : Bool)
  /-- R502: FTN B2F converts a BF16 half of each lane to FP32. -/
  | b2f (n : Press) (vd va : VReg) (high : Bool)
  /-- R502: FTN I2F converts INT32 lanes to FP32. -/
  | i2f (n : Press) (vd va : VReg)
  /-- R456: FTN EXP computes exp per lane by table and interpolation. -/
  | exp (n : Press) (vd va : VReg)
  /-- R456: FTN LOG computes log per lane by table and interpolation. -/
  | log (n : Press) (vd va : VReg)
  /-- R457: FTN FRSUM sums FP32 lanes in the fixed tree and broadcasts the result. -/
  | frsum (n : Press) (vd va : VReg)
  /-- R457: FTN FRMAX takes the FP32 maximum of the lanes in the fixed tree. -/
  | frmax (n : Press) (vd va : VReg)
  /-- R457: FTN IRSUM sums INT32 lanes in the fixed tree. -/
  | irsum (n : Press) (vd va : VReg)
  /-- R457: FTN IRMAX takes the INT32 maximum of the lanes in the fixed tree. -/
  | irmax (n : Press) (vd va : VReg)
  /-- R505: HND HLOAD loads the 32 x 32 stationary operand. -/
  | hload (n : Press) (f : HndFields)
  /-- R505: HND HRUN streams M rows through the hand press, writing results when OUT is 1. -/
  | hrun (n : Press) (f : HndFields)
  /-- R506: MOV SLOAD streams LEN bytes from the stock into the Bank. -/
  | sload (t : Tick) (n : Press) (f : MovFields) (provOk : Bool)
  /-- R462: MOV SSTORE places a Bank-to-stock store into the store buffer. -/
  | sstore (n : Press) (f : MovFields) (tagEpoch : Nat)
  /-- R670: MOV SATOM runs an atomic on a stock word and returns the old value in RD. -/
  | satom (t : Tick) (n : Press) (f : MovFields) (tagEpoch : Nat)
  /-- R506: MOV GSEND sends LEN bytes from the Bank as one item to another press's inbound galley. -/
  | gsend (n : Press) (f : MovFields)
  /-- R507: MOV GRECV receives one item from the inbound galley into the Bank and writes status to RD. -/
  | grecv (n : Press) (f : MovFields)
  /-- R509: MOV BCOPY copies within the Bank, raising ILLEGAL on overlap. -/
  | bcopy (n : Press) (f : MovFields)
  /-- R529: MOV ICOPY runs an imposition copy within the Bank and writes its outcome to RD. -/
  | icopy (n : Press) (f : MovFields)
  /-- R508: MOV BRICK reads a forme brick for the tag epoch into the Bank and writes status to RD. -/
  | brick (n : Press) (f : MovFields) (tagEpoch : Nat)
  /-- R554: MOV FWALK has the folio walker deliver keys, biases or values of a sequence into the Bank. -/
  | fwalk (t : Tick) (n : Press) (f : MovFields)
  /-- R460: A stream started by an earlier slug ends, releasing BWAIT, GPOP and END waits. -/
  | streamEnd (n : Press) (sid : Nat)
  /-- R463: A store-buffer entry leaves in program order when its crossing accepts it, or goes to the proof comparator. -/
  | storeBufferDrain (t : Tick) (n : Press)
  /-- R716: One copy reaching END without its twin within 64 us is a mismatch. -/
  | proofEndSkewTimeout (t : Tick) (k : Fin 4)
  /-- R471: A stop cause stops the launch on every press at its next slug boundary, sending store buffers and abandoning streams. -/
  | launchStop (t : Tick) (r : Ring) (slot : Nat) (cause : StopCause)
  /-- R492: A launch completes once every press of its PRESS_MASK has ended and drained. -/
  | launchEnd (t : Tick) (r : Ring) (slot : Nat)
  /-- R473: CLEAR in PRS_CTRL_n zeroes the counters of the press. -/
  | prsClear (n : Press)
  /-- R427: DROP_IMAGE in PRS_CTRL_n forces an image load at the press's next launch. -/
  | prsDropImage (n : Press)
  /-- R611: A chain link trains and exchanges port identity, coming up, or showing MISWIRED. -/
  | chainLinkUp (d : Port) (far : Port)
  /-- R614: A lane over LANE_LIMIT or out of lock moves to the spare within 1 ms and raises LANE_ERR, or takes the port down. -/
  | laneSpare (d : Port) (lane : LaneReport)
  /-- R623: A unit sends a message on a virtual channel when it holds enough credits, by the routing rule. -/
  | chainMessageTx (d : Port)
  /-- R616: A received message is CRC-checked, then released to its consumer or forwarded, and credits are returned. -/
  | chainMessageRx (d : Port) (h : LinkHeader) (m : Msg) (crcOk : Bool)
  /-- R625: A NAK link-control flit makes the sender resend every flit from NAK_SEQ, or takes the port down after 8 resends. -/
  | linkNak (d : Port) (seq : Nat)
  /-- R621: A CREDIT link-control flit returns credits to the sender. -/
  | linkCredit (d : Port) (ctrl req wdata resp : Nat)
  /-- R632: ENUM_PROBE gives the receiving unit an ID, then is forwarded onward or closes the ring at the root. -/
  | enumProbe (d : Port) (b : EnumBody)
  /-- R632: ENUM_END returns the walk to the root, which then walks west. -/
  | enumEnd (d : Port) (b : EnumBody)
  /-- R632: ENUM_DONE delivers the map and MODE, and each unit leaves ENUM for READY. -/
  | enumDone (d : Port) (b : EnumDoneBody)
  /-- R634: A unit whose onward port is not up within HOP_WAIT_MS returns ENUM_END. -/
  | hopWaitExpire
  /-- R638: The root answers an ANNOUNCE with GRANT and broadcasts the new map. -/
  | announce (d : Port) (sticky : Option Nat) (serial : Nat)
  /-- R638: GRANT gives the announcing unit its ID; every unit raises CHAIN_ATTACH. -/
  | grant (id : UnitId) (serial : Nat) (map : ChainMap)
  /-- R639: A DETACH broadcast removes a released ID, and every unit raises CHAIN_ATTACH. -/
  | detach (id : UnitId)
  /-- R639: When DETACH_MS expires for an unreachable unit, the root releases its ID and broadcasts DETACH. -/
  | detachMsExpire (id : UnitId)
  /-- R641: A port goes down and the unit folds it, sends FOLD and resends unacknowledged messages the other way. -/
  | chainPortDown (d : Port)
  /-- R641: A received FOLD switches the unit to line routing and raises CHAIN_FOLD. -/
  | fold (u : UnitId) (d : Port)
  /-- R645: A folded port free of replays for HEAL_HOLD_MS heals, exchanges HEAL and broadcasts it. -/
  | healHoldExpire (d : Port)
  /-- R645: A received HEAL returns the unit to ring routing and raises CHAIN_FOLD. -/
  | heal (u : UnitId) (d : Port)
  /-- R643: A request without a response within REMOTE_TO_US is resent once after a fold, or completes REMOTE_DOWN. -/
  | remoteTimeout (tag : Nat) (op : Nat)
  /-- R646: A chain READ request is served at the home unit. -/
  | read (t : Tick) (m : Msg)
  /-- R646: A chain WRITE request writes LEN bytes at the home unit. -/
  | write (t : Tick) (m : Msg)
  /-- R648: A chain ATOMIC executes at the home unit, or is answered from the replay cache. -/
  | atomic (t : Tick) (m : Msg)
  /-- R696: A chain FLUSH makes the home unit write back every leaf with the source's DURA bit, then answer ACK. -/
  | flush (m : Msg)
  /-- R646: An RDATA response completes the outstanding read with a matching TAG, or is discarded as a duplicate. -/
  | rdata (m : Msg)
  /-- R693: An ACK response acknowledges a write or flush to the source. -/
  | ack (m : Msg)
  /-- R648: An ATOM_RESULT response returns an atomic's old value to the source. -/
  | atomResult (m : Msg)
  /-- R619: A NACK response completes a request with the status in STAT. -/
  | nack (m : Msg)
  /-- R650: A proxy REG_READ reads a BAR0 register on the target unit and answers REG_RESULT. -/
  | regRead (m : Msg)
  /-- R650: A proxy REG_WRITE is applied on the target unit as a local write. -/
  | regWrite (t : Tick) (m : Msg) (srOk : Bool)
  /-- R651: REG_RESULT returns proxy data to the root and clears BUSY. -/
  | regResult (m : Msg)
  /-- R654: IRQ_FWD sets a vector bit in CHN_PROXY_IRQ_u on the root, which sends MSI-X on PROXY_VEC. -/
  | irqFwd (u : UnitId) (vec : Fin 64)
  /-- R599: A broadcast DECISION applies a run-ahead decision to the unit's page tables and dependents. -/
  | decision (u : UnitId) (pid : Nat) (confirm : Bool) (lateRoi : Nat)
  /-- R651: CHN_PROXY_CMD OP 1 sends a 64-bit REG_READ to the target unit. -/
  | proxyRead
  /-- R651: CHN_PROXY_CMD OP 2 sends a 64-bit REG_WRITE to the target unit. -/
  | proxyWrite
  /-- R651: A REG_RESULT not returned within 2 x REMOTE_TO_US sets ERR. -/
  | proxyTimeout
  /-- R654: A W1C write to CHN_PROXY_IRQ_u clears forwarded vector bits, with messages under the notice rules. -/
  | chnProxyIrqWrite (u : UnitId) (v : BitVec 64)
  /-- R655: At the end of each 2^20-flit window, a port in automatic mode or forced FULL downshifts to HALF after two windows over REPLAY_LIMIT. -/
  | replayWindowEnd (d : Port) (resent : Nat)
  /-- R656: After UPSHIFT_S clean seconds at HALF, the port retrains at FULL. -/
  | upshiftTimerExpire (d : Port)
  /-- R657: A rate change completes within 2 ms, or takes the port down. -/
  | retrainDone (d : Port) (ok : Bool)
  /-- R665: The home unit's stock agent performs one access at the serialisation point after the permission checks. -/
  | stockAccess (t : Tick) (a : Access)
  /-- R593: A load of a provisional line without an effective PROV_OK waits for that PID's decision. -/
  | provisionalLoadWait (n : Press) (addr : Nat)
  /-- R667: A write-combining line leaves the buffer 2 us after its first store. -/
  | wcLineTimeout (t : Tick) (line : Nat)
  /-- R682: A leaf fill from flash completes and the leaf is resident. -/
  | leafFillDone (leaf : Nat) (bad : List (Fin 256))
  /-- R704: A leaf write-back ends when its flash location and journal record are programmed, and the map entry moves. -/
  | leafWritebackDone (leaf : Nat) (programOk : Bool)
  /-- R687: In idle flash time, a leaf dirty for 1 s is written back, oldest first. -/
  | idleWriteback
  /-- R689: Enabling a pin range fills HOT leaves in the background, or writes back and invalidates COLD leaves. -/
  | pinRangeEnable (r : Fin 16)
  /-- R692: Disabling a pin range returns its leaves to ordinary use, without filling or evicting them. -/
  | pinRangeDisable (r : Fin 16)
  /-- R782: At the end of each 10 us window, a busy memory controller caps BEST_EFFORT grants in the next window. -/
  | dramBusyWindow (busyPct : Nat)
  /-- R783: At the end of each 1 ms window, busy flash channels defer miss-count fills in the next window. -/
  | flashBusyWindow (busyPct : Nat)
  /-- R719: In each 1 us window, GUARD-class requests are granted at least BW_PCT of DRAM data cycles. -/
  | guardBwWindow (waiting : Bool) (share : Nat)
  /-- R710: Setting EN on a guard pair enables it, or leaves it disabled with REFUSED on a bad pairing. -/
  | grdPairEnable (k : Fin 4) (v : BitVec 64)
  /-- R718: The zeroing of guard partitions with valid check bits ends, and INIT_BUSY clears. -/
  | inlineEccInitDone
  /-- R720: SLOT_US after the seal, the press time slot ends and non-guard launches may start on pair presses. -/
  | guardSlotEnd
  /-- R727: The guard controller publishes an epoch once it is finalised and its guard launches are done, writing final entries and judging validity. -/
  | guardPublish (t : Tick) (e : Nat)
  /-- R734: At the deadline of an unpublished epoch, DEADLINE_MISS is raised, the pins go safe, and guard launches stop and complete DEADLINE. -/
  | guardDeadline (t : Tick) (e : Nat)
  /-- R737: REARM with KEY 0xC3 clears LATCHED. -/
  | grdRearm (v : BitVec 64)
  /-- R755: A host write of BIST_MASK requests a field BIST pass on each named press at its next idle window. -/
  | bistRequest (mask : BitVec 16)
  /-- R755: PERIODIC_S after its previous pass, a press is due a field BIST pass. -/
  | periodicBistTimer (n : Press)
  /-- R753: A field BIST segment starts on a press in an idle window that fits before its next guard slot. -/
  | bistSegmentStart (n : Press)
  /-- R752: A BIST segment ends, allocates spares, records repairs or fences, and raises REPAIR_DONE at the end of a pass. -/
  | bistSegmentEnd (t : Tick) (n : Press) (faults : List BistFault)
  /-- R759: FENCE_NOW with KEY 0x5C fences FENCE_PRESS at once and stops its running launch. -/
  | fenceNow (t : Tick) (v : BitVec 64)
  /-- R750: CLEAR_SOFT with KEY 0x5C makes the Foreman write an empty soft repair table. -/
  | clearSoft (v : BitVec 64)
  /-- R749: Within 1 s of a field repair or fence, the Foreman writes the whole soft table to the other copy with SEQ + 1. -/
  | softTableWrite
  /-- R762: Every HB_US, each unit of an enabled pair sends HEARTBEAT to its peer. -/
  | heartbeatSend
  /-- R777: A received HEARTBEAT refreshes peer liveness, and sets PEER_ACTIVE if the peer reports TAKEN_OVER. -/
  | heartbeat (src : UnitId) (role lastN epoch : Nat)
  /-- R763: HB_LOSS_US after the last heartbeat, a unit loses its peer. -/
  | peerLoss (t : Tick) (us : Nat)
  /-- R766: GO starts checkpoint N: the commit record is zeroed, sections copied, records captured and the commit record written. -/
  | ckptGo (t : Tick)
  /-- R767: Every PERIOD_MS, a checkpoint starts, or the trigger is counted SKIPPED while one runs. -/
  | ckptPeriod (t : Tick)
  /-- R773: REP_ADOPT GO copies the adopted slot's sections, restores sequences, recounts the brick pool and writes the epoch settings. -/
  | adopt
  /-- R773: Adoption ends and sets DONE, or ERR when a destination is invalid. -/
  | adoptDone
  /-- R792: FREEZE_n held low past its filter requests a freeze, broadcast over X22 to every non-AON domain. -/
  | freezeNAssert (t : Tick)
  /-- R792: GO with KEY 0x3D and REG_EN 1 requests a freeze; otherwise the write counts in REFUSED. -/
  | dbgFreezeGo (t : Tick) (v : BitVec 64)
  /-- R794: On the freeze, MEM finishes bursts, suspends flash, enters self-refresh and stops, and FROZEN is set. -/
  | memFreeze (srOk : Bool)
  /-- R794: A channel not in self-refresh within 10 us sets SR_FAIL, and MEM stops anyway. -/
  | selfRefreshTimeout
  /-- R807: TAP EXTEST drives the boundary register while RESET_n is low, otherwise acts as BYPASS and sets EXTEST_BLOCKED. -/
  | extest
  /-- R805: TAP IDCODE selects the 32-bit identification register. -/
  | idcode
  /-- R804: TAP SAMPLE/PRELOAD samples or preloads the boundary register. -/
  | samplePreload (load : List Bool)
  /-- R808: TAP DBG_STATUS reads FROZEN, UNLOCKED, LOCKOUT, SR_FAIL, EXTEST_BLOCKED, ROTATED and SCAN_LEN. -/
  | dbgStatus
  /-- R800: Each read of DBG_CHALLENGE returns a new 32-byte challenge. -/
  | dbgChallenge
  /-- R801: TAP DBG_RESPONSE checks a signed response and unlocks debug, or counts a failure toward LOCKOUT. -/
  | dbgResponse (data : List Byte)
  /-- R809: TAP SCAN_SEL names a scan chain by domain and segment. -/
  | scanSel (v : BitVec 16)
  /-- R809: TAP SCAN_READ shifts the selected chain circularly while unlocked and frozen. -/
  | scanRead (bits : Nat)
  /-- R810: TAP SRAM_ADDR sets the region and address for SRAM read-out. -/
  | sramAddr (v : BitVec 48)
  /-- R810: TAP SRAM_DATA returns 64 uncorrected bits and advances the address by 8. -/
  | sramData
  /-- R812: TAP THAW restarts a frozen engine in place when its conditions hold, with the re-bases and losses of R813. -/
  | thaw (freezeCount : Nat)
  /-- R814: TAP STOP_RESET ends a freeze as a board reset with RESET_CAUSE 0x7. -/
  | stopReset
  /-- R804: TAP BYPASS, and every unlisted code, selects the 1-bit bypass register. -/
  | bypass
  /-- R66: VDD_CORE rises back to or above the warning level, ending a 200 ns filter that has not yet asserted the warning, or leaving an asserted warning holding. -/
  | vddCoreAboveWarn (t : Tick) (mv : Nat)
  /-- R67: VDD_CORE falls below the warning level plus 2 % of the set point during the 100 us clearing wait, restarting the wait. -/
  | vddCoreBelowClear (t : Tick) (mv : Nat)
  /-- R323: The D-PHY high-speed transmission ends, so a camera receiver that was discarding a burst after ECC_DROP or SOT_ERR regains its footing for the next burst. -/
  | highSpeedTransmissionEnd (p : CamPort)
  /-- R614: The move of a failed lane's traffic to the spare completes within 1 ms, and the port's held traffic resumes with its replay buffer kept. -/
  | laneSpareSwapDone (d : Port)
  /-- R804: A TAP reset, by TRST_n or the TAP controller, selects the IDCODE instruction. -/
  | tapReset
  deriving DecidableEq, Repr

end Sys2Proof
end

