-- ==== Sys2Proof/Decode.lean ====
section
/-!
DEFINITION. The word decoder that the host asks for. spec/opcode_table.json gives no row any bits: the block takes its
commands from outside and decodes none, so no word spells a command. The one encoding that the spec gives the block, the
slug of its presses (R474 to R509), is read in Machine/Slug.lean.
-/

namespace Sys2Proof

/-- The command that a word spells by the table's bits: no row of the table has any. -/
def decodeTableWord (_nbits _w : Nat) : Option Instr := none

end Sys2Proof
end

