-- ==== Sys2Proof/Config.lean ====
section
/-!
DEFINITION. What an implementation fixes and what the spec leaves open. Every free value is an opaque constant with
no body, so nothing in Lean can evaluate it or prove a value of it; the step applies it to operands or to the
model's own counter State.free. The assumption log names each (notes/assumptions).
-/

namespace Sys2Proof

/-- The byte at an address that the spec calls undefined, for each generation of lost contents (log entry 1). -/
opaque Config.freeByte : Nat → Nat → Byte

/-- A free 64-bit value, one for each tick of State.free (log entry 1). -/
opaque Config.freeWord : Nat → U64

/-- Which of the two neighbouring whole numbers a quotient takes where the spec gives a formula and no rounding
(numerator, denominator; log entry 1). -/
opaque Config.roundsUp : Int → Int → Bool

/-- The PTP identity of a port that its own messages carry, which the spec does not give (log entry 4). -/
opaque Config.portIdentity : Nat → Nat

/-- The bytes of an Announce message that the spec does not give, by their offset (log entry 4). -/
opaque Config.announceByte : Nat → Byte

/-- Whether A leading B counts up with DIR = 0, by port (R337; log entry 7). -/
opaque Config.encALeadsUp : Nat → Bool

/-- Whether bit [49] of an encoder item is 1 for an edge that counted up (R340; log entry 7). -/
opaque Config.encUpBit : Nat → Bool

/-- A byte of a field that reaches past the end of what was received, by its offset (log entry 7). -/
opaque Config.pastEnd : Nat → Byte

/-- What a fixed-point quantity becomes whose exact value lies outside its format (R367; log entry 10). -/
opaque Config.outOfRange : Int → Int

/-- The normal of a sample point that lies at the sensor origin (R404; log entry 10). -/
opaque Config.originNormal : Bool → Int

/-- Whether the result of FMAX or FMIN is its second operand, where the text does not say which one it is (R502; log
entry 14). -/
opaque Config.pickSecond : U32 → U32 → Bool

/-- Which of the words within the error bound exp yields (R456; log entry 14). -/
opaque Config.expPick : U32 → Nat

/-- Which of the words within the error bound log yields (R456; log entry 14). -/
opaque Config.logPick : U32 → Nat

/-- Which of the contents a Bank line may have a read returns while streams write it, by generation and line (R483; log entry 21). -/
opaque Config.pickLine : Nat → Nat → Nat

/-- Eongovel's JEP106 manufacturer identity: the continuation count over the identity code (R805; log entry 27). -/
opaque Config.manufacturer : BitVec 11

/-- The length of a scan chain, by the value of SCAN_SEL (R809; log entry 27). -/
opaque Config.scanLen : Nat → Nat

/-- Eongovel's PCI-SIG vendor ID (Table HST-1; log entry 33). -/
opaque Config.vendorId : BitVec 16

/-- A word of configuration space that the text does not lay out, by its offset (log entry 33). -/
opaque Config.pciWord : Nat → U32

end Sys2Proof
end

