-- ==== Sys2Proof/Machine/Maps.lean ====
section
/-!
DEFINITION. The named operations over sparse tables and memories. A table lists only the keys whose value differs
from what an unlisted key reads as, in rising order, so that equal tables are equal data; a memory adds the extents
whose bytes the spec calls undefined. Laws/Maps.lean says what each operation does.
-/

namespace Sys2Proof.Machine

/-- A sparse table with natural-number keys. -/
abbrev FMap (α : Type) := List (Nat × α)

/-- The value at key k; d gives what an unlisted key reads as. -/
def FMap.get {α : Type} (d : Nat → α) : FMap α → Nat → α
  | [], k => d k
  | (k', v) :: m, k => if k' = k then v else FMap.get d m k

/-- The listed entries of a run of values that starts at key a. -/
def FMap.listed {α : Type} [DecidableEq α] (d : Nat → α) : Nat → List α → FMap α
  | _, [] => []
  | a, v :: vs => if v = d a then FMap.listed d (a + 1) vs else (a, v) :: FMap.listed d (a + 1) vs

/-- Write a run of values at keys a, a + 1, …. -/
def FMap.setRun {α : Type} [DecidableEq α] (d : Nat → α) (m : FMap α) (a : Nat) (vs : List α) : FMap α :=
  m.filter (fun e => decide (e.1 < a)) ++ FMap.listed d a vs ++ m.filter (fun e => decide (a + vs.length ≤ e.1))

/-- Write one value. -/
def FMap.set {α : Type} [DecidableEq α] (d : Nat → α) (m : FMap α) (k : Nat) (v : α) : FMap α :=
  FMap.setRun d m k [v]

/-- Drop the entries of n keys from a on: they read as unlisted again. -/
def FMap.clearRun {α : Type} (m : FMap α) (a n : Nat) : FMap α :=
  m.filter (fun e => decide (e.1 < a)) ++ m.filter (fun e => decide (a + n ≤ e.1))

/-- The keys rise strictly. -/
def FMap.rising {α : Type} : FMap α → Bool
  | [] => true
  | (k, _) :: m => m.all (fun e => decide (k < e.1)) && FMap.rising m

/-- The canonical form: rising keys, and no entry equal to what its key reads as unlisted. -/
def FMap.wf {α : Type} [DecidableEq α] (d : Nat → α) (m : FMap α) : Bool :=
  FMap.rising m && m.all (fun e => decide (e.2 ≠ d e.1))

/-! ### Tables of records: entries stay listed once written -/

/-- The record at key k, or the given one where none is listed. -/
def tabGet {α : Type} (d : α) (m : FMap α) (k : Nat) : α := FMap.get (fun _ => d) m k

/-- Write the record at key k. -/
def tabSet {α : Type} (m : FMap α) (k : Nat) (v : α) : FMap α :=
  m.filter (fun e => decide (e.1 < k)) ++ (k, v) :: m.filter (fun e => decide (k < e.1))

/-- Remove the record at key k. -/
def tabDel {α : Type} (m : FMap α) (k : Nat) : FMap α := m.filter (fun e => decide (e.1 ≠ k))

/-- Whether a record is listed at key k. -/
def tabHas {α : Type} (m : FMap α) (k : Nat) : Bool := m.any (fun e => decide (e.1 = k))

/-- Change the first entry of a list that a test picks out. -/
def modFirst {α : Type} (p : α → Bool) (f : α → α) : List α → List α
  | [] => []
  | x :: xs => if p x then f x :: xs else x :: modFirst p f xs

/-! ### Byte order: little-endian everywhere but for the two exceptions of R9 -/

/-- The number that bytes spell, least significant first (R9). -/
def leNat : List Byte → Nat
  | [] => 0
  | b :: bs => b.toNat + 256 * leNat bs

/-- n bytes of a number, least significant first (R9). -/
def leBytes : Nat → Nat → List Byte
  | 0, _ => []
  | n + 1, v => BitVec.ofNat 8 v :: leBytes n (v / 256)

/-- The number that bytes spell, most significant first (the two exceptions of R9). -/
def beNat (bs : List Byte) : Nat := leNat bs.reverse

/-- n bytes of a number, most significant first (the two exceptions of R9). -/
def beBytes (n v : Nat) : List Byte := (leBytes n v).reverse

/-! ### Memories -/

/-- A run of bytes whose contents the spec calls undefined; gen tells one loss of contents from another. -/
structure Extent where
  lo  : Nat
  len : Nat
  gen : Nat
  deriving DecidableEq, Repr

/-- A byte memory: what an unlisted byte reads as, the listed bytes in canonical form, and the undefined extents. -/
structure Mem where
  fill  : Byte := 0
  cells : List Host.Cell := []
  undef : List Extent := []
  deriving DecidableEq, Repr

/-- The part of the undefined extents outside [a, a + n). -/
def Extent.carve (a n : Nat) (e : Extent) : List Extent :=
  if n = 0 ∨ e.lo + e.len ≤ a ∨ a + n ≤ e.lo then [e]
  else
    (if e.lo < a then [{ e with len := a - e.lo }] else []) ++
    (if a + n < e.lo + e.len then [{ e with lo := a + n, len := e.lo + e.len - (a + n) }] else [])

/-- The extent that holds address a, if its contents are undefined. -/
def Mem.undefAt (m : Mem) (a : Nat) : Option Extent :=
  m.undef.find? (fun e => decide (e.lo ≤ a) && decide (a < e.lo + e.len))

/-- Read one byte; a byte the spec calls undefined reads a free value. -/
def Mem.byte (m : Mem) (a : Nat) : Byte :=
  match m.undefAt a with
  | some e => Config.freeByte e.gen a
  | none => FMap.get (fun _ => m.fill) m.cells a

/-- Read n bytes from a on. -/
def Mem.read (m : Mem) (a : Nat) : Nat → List Byte
  | 0 => []
  | n + 1 => m.byte a :: Mem.read m (a + 1) n

/-- Write bytes from a on. -/
def Mem.write (m : Mem) (a : Nat) (bs : List Byte) : Mem :=
  { m with
    cells := FMap.setRun (fun _ => m.fill) m.cells a bs
    undef := m.undef.flatMap (Extent.carve a bs.length) }

/-- Make n bytes from a on undefined. -/
def Mem.lose (m : Mem) (a n gen : Nat) : Mem :=
  { m with
    cells := FMap.clearRun m.cells a n
    undef := ⟨a, n, gen⟩ :: m.undef.flatMap (Extent.carve a n) }

/-- Return n bytes from a on to what an unlisted byte reads as. -/
def Mem.erase (m : Mem) (a n : Nat) : Mem :=
  { m with
    cells := FMap.clearRun m.cells a n
    undef := m.undef.flatMap (Extent.carve a n) }

/-- The part of an extent inside [a, a + n). -/
def Extent.within (a n : Nat) (e : Extent) : List Extent :=
  let lo := max e.lo a
  let hi := min (e.lo + e.len) (a + n)
  if lo < hi then [{ e with lo := lo, len := hi - lo }] else []

/-- Take n bytes from a on out of another memory of the same fill, undefined bytes as they are. -/
def Mem.copyFrom (m src : Mem) (a n : Nat) : Mem :=
  { m with
    cells := m.cells.filter (fun e => decide (e.1 < a)) ++
      src.cells.filter (fun e => decide (a ≤ e.1) && decide (e.1 < a + n)) ++
      m.cells.filter (fun e => decide (a + n ≤ e.1))
    undef := src.undef.flatMap (Extent.within a n) ++ m.undef.flatMap (Extent.carve a n) }

/-- Read an n-byte little-endian number. -/
def Mem.readNat (m : Mem) (a n : Nat) : Nat := leNat (m.read a n)

/-- Write an n-byte little-endian number. -/
def Mem.writeNat (m : Mem) (a n v : Nat) : Mem := m.write a (leBytes n v)

/-- The canonical form of a memory. -/
def Memory.wf (m : Mem) : Bool := FMap.wf (fun _ => m.fill) m.cells

end Sys2Proof.Machine
end

