-- ==== Sys2Proof/Machine/Bits.lean ====
section
/-!
DEFINITION. Bit and byte helpers: cyclic redundancy checks, patching of frames and records, and words of byte lists.
-/

namespace Sys2Proof.Machine

/-- One bit of a reflected CRC. -/
def crcBit (poly c : Nat) : Nat := if c % 2 = 1 then (c / 2) ^^^ poly else c / 2

/-- n bits of a reflected CRC. -/
def crcBits (poly : Nat) : Nat → Nat → Nat
  | 0, c => c
  | n + 1, c => crcBits poly n (crcBit poly c)

/-- A reflected 32-bit CRC over bytes: initial value and final exclusive-or all ones. -/
def crcReflected (poly : Nat) (bs : List Byte) : Nat :=
  (bs.foldl (fun c b => crcBits poly 8 (c ^^^ b.toNat)) 0xFFFFFFFF) ^^^ 0xFFFFFFFF

/-- CRC-32 with the IEEE 802.3 polynomial. -/
def crc32 (bs : List Byte) : Nat := crcReflected 0xEDB88320 bs

/-- CRC-32C, polynomial 0x1EDC_6F41 (Table CHN-2). -/
def crc32c (bs : List Byte) : Nat := crcReflected 0x82F63B78 bs

/-- Bytes with those from offset o on replaced. -/
def patch (bs : List Byte) (o : Nat) (new : List Byte) : List Byte := bs.take o ++ new ++ bs.drop (o + new.length)

/-- n bytes from offset o; bytes beyond the end read 0. -/
def slice (bs : List Byte) (o n : Nat) : List Byte :=
  let x := (bs.drop o).take n
  x ++ List.replicate (n - x.length) 0

/-- A byte at an offset, 0 beyond the end. -/
def byteAt (bs : List Byte) (o : Nat) : Nat := (bs.getD o 0).toNat

/-- A little-endian number of n bytes at an offset. -/
def leAt (bs : List Byte) (o n : Nat) : Nat := leNat (slice bs o n)

/-- A big-endian number of n bytes at an offset. -/
def beAt (bs : List Byte) (o n : Nat) : Nat := beNat (slice bs o n)

/-- Bytes as 64-bit words, the last one filled up with zeros (R9). -/
def toWords : Nat → List Byte → List U64
  | 0, _ => []
  | n + 1, bs => BitVec.ofNat 64 (leAt bs 0 8) :: toWords n (bs.drop 8)

/-- All of a byte list as 64-bit words. -/
def wordsOf (bs : List Byte) : List U64 := toWords ((bs.length + 7) / 8) bs

/-- The bytes of 64-bit words. -/
def bytesOf (ws : List U64) : List Byte := ws.flatMap (fun w => leBytes 8 w.toNat)

/-- The bits [hi:lo] of a number. -/
def bitsOf (v hi lo : Nat) : Nat := v / 2 ^ lo % 2 ^ (hi + 1 - lo)

/-- Change entry n of a list. -/
def listModify {α : Type} (xs : List α) (n : Nat) (f : α → α) : List α := xs.modify n f

end Sys2Proof.Machine
end

