-- ==== Sys2Proof/Machine/RegMap.lean ====
section
/-!
DEFINITION. The register table of BAR0: every register the spec lays out, its offset, its copies, its fields with
their types (Table SCP-3) and reset values. A field whose reset the spec does not give is named in log entry 2.
-/

namespace Sys2Proof.Machine

/-- Register types (Table SCP-3). -/
inductive RegKind where
  | ro | rw | w1c | wo | rwl
  deriving DecidableEq, Repr

/-- A field of a register: bits [hi:lo], its type and its reset value. -/
structure FieldDef where
  hi    : Nat
  lo    : Nat
  kind  : RegKind
  reset : Nat
  deriving DecidableEq, Repr

/-- A register or a family of registers: the copies are lo to hi of each dimension, stride bytes apart. -/
structure RegDef where
  name   : String
  base   : Nat
  dims   : List (Nat × Nat × Nat)
  fields : List FieldDef
  deriving DecidableEq, Repr

/-- The SCP registers. -/
def regsScp : List RegDef := [
  ⟨"SCP_ID", 0x0, [],
    [⟨15, 0, .ro, 0x5a16⟩, ⟨19, 16, .ro, 1⟩, ⟨23, 20, .ro, 0xb⟩, ⟨27, 24, .ro, 0⟩, ⟨31, 28, .ro, 0⟩, ⟨47, 32, .ro, 0xffff⟩]⟩]

/-- The ARC registers. -/
def regsArc : List RegDef := [
  ⟨"ARC_NOTICE_STATUS", 0x10, [],
    [⟨17, 0, .w1c, 0⟩]⟩,
  ⟨"ARC_NOTICE_MASK", 0x18, [],
    [⟨17, 0, .rw, 0x3ffff⟩]⟩,
  ⟨"ARC_NOTICE_VECTOR", 0x20, [],
    [⟨5, 0, .rw, 0⟩]⟩]

/-- The LIM registers. -/
def regsLim : List RegDef := [
  ⟨"LIM_CONFLICT", 0x40, [],
    [⟨15, 0, .ro, 0⟩, ⟨31, 16, .ro, 0⟩, ⟨47, 32, .ro, 0⟩]⟩,
  ⟨"LIM_CONFLICT_LAST", 0x48, [],
    [⟨3, 0, .ro, 0⟩, ⟨63, 32, .ro, 0⟩]⟩,
  ⟨"LIM_CFG", 0x50, [],
    [⟨6, 0, .rw, 0x5a⟩, ⟨14, 8, .rw, 0xa⟩, ⟨22, 16, .rw, 0x5a⟩]⟩,
  ⟨"LIM_THROTTLE", 0x58, [],
    [⟨31, 0, .ro, 0⟩, ⟨63, 32, .ro, 0⟩]⟩]

/-- The MKR registers. -/
def regsMkr : List RegDef := [
  ⟨"MKR_STATUS", 0x1000, [],
    [⟨7, 0, .ro, 1⟩, ⟨15, 8, .ro, 0⟩, ⟨19, 16, .ro, 0⟩, ⟨20, 20, .ro, 0⟩, ⟨21, 21, .ro, 0⟩, ⟨22, 22, .ro, 0⟩, ⟨23, 23, .ro, 0⟩, ⟨24, 24, .ro, 0⟩, ⟨25, 25, .ro, 0⟩, ⟨63, 32, .ro, 0⟩]⟩,
  ⟨"MKR_RESET_CTRL", 0x1008, [],
    [⟨0, 0, .rw, 0⟩, ⟨15, 8, .wo, 0⟩, ⟨16, 16, .wo, 0⟩]⟩,
  ⟨"MKR_FW_STATUS", 0x1010, [],
    [⟨3, 0, .ro, 0xf⟩, ⟨7, 4, .ro, 0xf⟩, ⟨15, 8, .ro, 0⟩, ⟨63, 32, .ro, 0⟩]⟩,
  ⟨"MKR_CFG_STATUS", 0x1018, [],
    [⟨15, 0, .ro, 0⟩, ⟨31, 16, .ro, 0⟩]⟩,
  ⟨"MKR_BOOT_CFG", 0x1020, [],
    [⟨7, 0, .rwl, 0x14⟩, ⟨8, 8, .rwl, 1⟩]⟩,
  ⟨"MKR_PHASE_TIME", 0x1040, [(1, 11, 8)],
    [⟨31, 0, .ro, 0⟩]⟩,
  ⟨"MKR_REC_ADDR", 0x1100, [],
    [⟨27, 0, .rw, 0⟩]⟩,
  ⟨"MKR_REC_DATA", 0x1108, [],
    [⟨63, 0, .rw, 0⟩]⟩,
  ⟨"MKR_REC_CMD", 0x1110, [],
    [⟨1, 0, .wo, 0⟩, ⟨8, 8, .ro, 0⟩, ⟨9, 9, .ro, 0⟩]⟩]

/-- The PKG registers. -/
def regsPkg : List RegDef := [
  ⟨"PKG_SMON_CFG", 0x2000, [],
    [⟨7, 0, .rw, 0xb8⟩, ⟨8, 8, .rw, 1⟩]⟩,
  ⟨"PKG_SMON_STATUS", 0x2008, [],
    [⟨0, 0, .ro, 0⟩, ⟨1, 1, .ro, 0⟩, ⟨2, 2, .ro, 0⟩, ⟨63, 32, .ro, 0⟩]⟩,
  ⟨"PKG_SMON_START", 0x2010, [],
    [⟨63, 0, .ro, 0⟩]⟩,
  ⟨"PKG_SMON_END", 0x2018, [],
    [⟨63, 0, .ro, 0⟩]⟩,
  ⟨"PKG_SMON_MIN", 0x2020, [],
    [⟨15, 0, .ro, 0⟩]⟩,
  ⟨"PKG_THERM_CFG", 0x2040, [],
    [⟨7, 0, .rw, 0x5f⟩, ⟨15, 8, .rw, 0x64⟩]⟩,
  ⟨"PKG_THERM_STATUS", 0x2048, [],
    [⟨7, 0, .ro, 0⟩, ⟨12, 8, .ro, 0⟩, ⟨16, 16, .ro, 0⟩, ⟨17, 17, .ro, 0⟩]⟩,
  ⟨"PKG_DVFS_CFG", 0x2100, [],
    [⟨6, 0, .rwl, 0x40⟩, ⟨7, 7, .rwl, 0⟩, ⟨15, 8, .rwl, 0x32⟩]⟩,
  ⟨"PKG_DVFS_CTRL", 0x2108, [],
    [⟨2, 0, .rw, 0⟩, ⟨5, 3, .rw, 4⟩]⟩,
  ⟨"PKG_DVFS_STATUS", 0x2110, [],
    [⟨2, 0, .ro, 4⟩, ⟨3, 3, .ro, 0⟩, ⟨63, 32, .ro, 0⟩]⟩,
  ⟨"PKG_PFAIL_STATUS", 0x2120, [],
    [⟨0, 0, .ro, 0⟩, ⟨1, 1, .ro, 0⟩, ⟨2, 2, .ro, 0⟩]⟩,
  ⟨"PKG_THERM", 0x2200, [(0, 19, 8)],
    [⟨7, 0, .ro, 0⟩]⟩]

/-- The HST registers. -/
def regsHst : List RegDef := [
  ⟨"HST_SQ_BASE", 0x4000, [(0, 63, 64)],
    [⟨63, 12, .rw, 0⟩]⟩,
  ⟨"HST_CQ_BASE", 0x4008, [(0, 63, 64)],
    [⟨63, 12, .rw, 0⟩]⟩,
  ⟨"HST_RING_CFG", 0x4010, [(0, 63, 64)],
    [⟨4, 0, .rw, 4⟩, ⟨12, 8, .rw, 4⟩, ⟨17, 16, .rw, 1⟩, ⟨18, 18, .rw, 0⟩, ⟨29, 24, .rw, 0⟩, ⟨31, 31, .rw, 0⟩]⟩,
  ⟨"HST_COAL", 0x4018, [(0, 63, 64)],
    [⟨7, 0, .rw, 1⟩, ⟨25, 16, .rw, 0⟩]⟩,
  ⟨"HST_RING_CTRL", 0x4020, [(0, 63, 64)],
    [⟨0, 0, .wo, 0⟩, ⟨1, 1, .wo, 0⟩, ⟨2, 2, .wo, 0⟩]⟩,
  ⟨"HST_RING_STATUS", 0x4028, [(0, 63, 64)],
    [⟨15, 0, .ro, 0⟩, ⟨31, 16, .ro, 0⟩, ⟨33, 32, .ro, 0⟩, ⟨43, 40, .ro, 0⟩, ⟨54, 48, .ro, 0⟩]⟩,
  ⟨"HST_RING_COUNT", 0x4030, [(0, 63, 64)],
    [⟨31, 0, .ro, 0⟩, ⟨47, 32, .ro, 0⟩, ⟨63, 48, .ro, 0⟩]⟩,
  ⟨"HST_SQ_DB", 0x5000, [(0, 63, 8)],
    [⟨15, 0, .wo, 0⟩]⟩,
  ⟨"HST_CQ_DB", 0x5200, [(0, 63, 8)],
    [⟨15, 0, .wo, 0⟩]⟩,
  ⟨"HST_ARB", 0x5400, [],
    [⟨7, 0, .rw, 4⟩, ⟨15, 8, .rw, 1⟩]⟩,
  ⟨"HST_BAR2_MAP", 0x5408, [],
    [⟨63, 0, .rw, 0⟩]⟩,
  ⟨"HST_BAR2_ERR", 0x5410, [],
    [⟨31, 0, .ro, 0⟩, ⟨63, 32, .ro, 0⟩]⟩]

/-- The GAL registers. -/
def regsGal : List RegDef := [
  ⟨"GAL_COUNT", 0x6000, [(0, 63, 32)],
    [⟨15, 0, .ro, 0⟩, ⟨17, 16, .ro, 0⟩, ⟨63, 32, .ro, 0⟩]⟩,
  ⟨"GAL_PKT", 0x6008, [(0, 63, 32)],
    [⟨31, 0, .ro, 0⟩, ⟨63, 32, .ro, 0⟩]⟩,
  ⟨"GAL_CTRL", 0x6010, [(0, 63, 32)],
    [⟨0, 0, .wo, 0⟩]⟩,
  ⟨"GAL_CFG", 0x6018, [(0, 63, 32)],
    [⟨15, 0, .rw, 0⟩, ⟨16, 16, .ro, 0⟩, ⟨47, 32, .ro, 0⟩]⟩,
  ⟨"GAL_FAULT", 0x6800, [],
    [⟨15, 0, .ro, 0⟩, ⟨21, 16, .ro, 0⟩, ⟨22, 22, .ro, 0⟩]⟩,
  ⟨"GAL_CHECK", 0x6808, [],
    [⟨31, 0, .ro, 0⟩, ⟨63, 32, .ro, 0⟩]⟩,
  ⟨"GAL_HOST_TX_DATA", 0x6900, [],
    [⟨63, 0, .wo, 0⟩]⟩,
  ⟨"GAL_HOST_TX_LAST", 0x6908, [],
    [⟨63, 0, .wo, 0⟩]⟩,
  ⟨"GAL_HOST_RX_DATA", 0x6910, [],
    [⟨63, 0, .ro, 0⟩]⟩,
  ⟨"GAL_HOST_RX_FLAGS", 0x6918, [],
    [⟨0, 0, .ro, 0⟩, ⟨1, 1, .ro, 0⟩, ⟨2, 2, .ro, 0⟩, ⟨3, 3, .ro, 0⟩, ⟨63, 32, .ro, 0⟩]⟩,
  ⟨"GAL_XING", 0x6A00, [(1, 23, 8)],
    [⟨31, 0, .ro, 0⟩, ⟨47, 32, .ro, 0⟩, ⟨63, 48, .ro, 0⟩]⟩]

/-- The DTL registers. -/
def regsDtl : List RegDef := [
  ⟨"DTL_COUNT", 0x7000, [],
    [⟨63, 0, .ro, 0⟩]⟩,
  ⟨"DTL_ANCHOR", 0x7008, [],
    [⟨63, 0, .ro, 0⟩]⟩,
  ⟨"DTL_RATE", 0x7010, [],
    [⟨63, 0, .rw, 0x200000000⟩]⟩,
  ⟨"DTL_OFFSET_S", 0x7018, [],
    [⟨47, 0, .ro, 0⟩, ⟨63, 63, .ro, 1⟩]⟩,
  ⟨"DTL_OFFSET_NS", 0x7020, [],
    [⟨15, 0, .ro, 0⟩, ⟨47, 16, .ro, 0⟩]⟩,
  ⟨"DTL_CAPTURE", 0x7028, [],
    [⟨0, 0, .wo, 0⟩]⟩,
  ⟨"DTL_CAP_COUNT", 0x7030, [],
    [⟨63, 0, .ro, 0⟩]⟩,
  ⟨"DTL_CAP_S", 0x7038, [],
    [⟨47, 0, .ro, 0⟩, ⟨63, 63, .ro, 1⟩]⟩,
  ⟨"DTL_CAP_NS", 0x7040, [],
    [⟨15, 0, .ro, 0⟩, ⟨47, 16, .ro, 0⟩]⟩,
  ⟨"DTL_SET_S", 0x7048, [],
    [⟨47, 0, .rw, 0⟩]⟩,
  ⟨"DTL_SET_NS", 0x7050, [],
    [⟨29, 0, .rw, 0⟩]⟩,
  ⟨"DTL_CTRL", 0x7058, [],
    [⟨0, 0, .wo, 0⟩, ⟨1, 1, .wo, 0⟩, ⟨2, 2, .wo, 0⟩]⟩,
  ⟨"DTL_SLEW", 0x7060, [],
    [⟨63, 0, .wo, 0⟩]⟩,
  ⟨"DTL_SLEW_CFG", 0x7068, [],
    [⟨9, 0, .rw, 0x64⟩, ⟨19, 16, .rw, 3⟩, ⟨20, 20, .rw, 1⟩]⟩,
  ⟨"DTL_SLEW_REMAIN", 0x7070, [],
    [⟨63, 0, .ro, 0⟩]⟩,
  ⟨"DTL_STATE", 0x7078, [],
    [⟨1, 0, .ro, 0⟩, ⟨3, 2, .ro, 3⟩, ⟨5, 4, .ro, 3⟩, ⟨6, 6, .ro, 0⟩, ⟨7, 7, .ro, 0⟩, ⟨47, 32, .ro, 0⟩, ⟨63, 48, .ro, 0⟩]⟩,
  ⟨"DTL_SEL_CFG", 0x7080, [],
    [⟨1, 0, .rw, 0⟩, ⟨3, 2, .rw, 1⟩, ⟨5, 4, .rw, 2⟩, ⟨8, 6, .rw, 7⟩, ⟨31, 16, .rw, 0x7d0⟩, ⟨47, 32, .rw, 0x3e8⟩]⟩,
  ⟨"DTL_REF_CFG", 0x7088, [(0, 2, 8)],
    [⟨7, 0, .rw, 8⟩, ⟨31, 16, .rw, 0x3e8⟩, ⟨47, 32, .rw, 0x5dc⟩]⟩,
  ⟨"DTL_REF_STAT", 0x70A0, [(0, 2, 8)],
    [⟨1, 0, .ro, 0⟩, ⟨15, 8, .ro, 0⟩, ⟨63, 32, .ro, 0⟩]⟩,
  ⟨"DTL_RATE_STAT", 0x70C0, [],
    [⟨31, 0, .ro, 0⟩, ⟨63, 32, .ro, 0⟩]⟩,
  ⟨"DTL_PPS_OUT", 0x7100, [],
    [⟨0, 0, .rw, 0⟩, ⟨1, 1, .rw, 1⟩, ⟨17, 8, .rw, 0x64⟩]⟩,
  ⟨"DTL_PPS_IN", 0x7108, [],
    [⟨2, 0, .ro, 0⟩, ⟨60, 3, .ro, 0⟩, ⟨61, 61, .ro, 0⟩, ⟨62, 62, .ro, 0⟩, ⟨63, 63, .ro, 0⟩]⟩,
  ⟨"DTL_EVT_CFG", 0x7200, [(0, 15, 8)],
    [⟨1, 0, .rw, 0⟩, ⟨63, 32, .ro, 0⟩]⟩,
  ⟨"DTL_EVT", 0x7300, [(0, 15, 8)],
    [⟨2, 0, .ro, 0⟩, ⟨60, 3, .ro, 0⟩, ⟨61, 61, .ro, 0⟩, ⟨62, 62, .ro, 0⟩, ⟨63, 63, .ro, 0⟩]⟩,
  ⟨"DTL_TRG_STAT", 0x7400, [(0, 7, 8)],
    [⟨2, 0, .ro, 0⟩, ⟨3, 3, .ro, 0⟩, ⟨63, 32, .ro, 0⟩]⟩,
  ⟨"DTL_EPOCH_CFG", 0x7480, [],
    [⟨16, 0, .rw, 0x2710⟩, ⟨48, 32, .rw, 0⟩, ⟨63, 63, .rw, 0⟩]⟩,
  ⟨"DTL_EPOCH_START_S", 0x7488, [],
    [⟨47, 0, .rw, 0⟩]⟩,
  ⟨"DTL_EPOCH_START_NS", 0x7490, [],
    [⟨29, 0, .rw, 0⟩]⟩,
  ⟨"DTL_EPOCH_FIRST", 0x7498, [],
    [⟨31, 0, .rw, 0⟩]⟩,
  ⟨"DTL_EPOCH_NOW", 0x74A0, [],
    [⟨31, 0, .ro, 0⟩, ⟨32, 32, .ro, 0⟩, ⟨63, 48, .ro, 0⟩]⟩,
  ⟨"DTL_CONV_COUNT", 0x74A8, [],
    [⟨63, 0, .rw, 0⟩]⟩,
  ⟨"DTL_CONV_S", 0x74B0, [],
    [⟨47, 0, .ro, 0⟩, ⟨63, 63, .ro, 0⟩]⟩,
  ⟨"DTL_CONV_NS", 0x74B8, [],
    [⟨15, 0, .ro, 0⟩, ⟨47, 16, .ro, 0⟩]⟩]

/-- The PTP registers. -/
def regsPtp : List RegDef := [
  ⟨"PTP_PORT_CFG", 0x8000, [(0, 3, 256)],
    [⟨0, 0, .rw, 0⟩, ⟨2, 1, .rw, 0⟩, ⟨3, 3, .rw, 1⟩, ⟨4, 4, .rw, 1⟩, ⟨5, 5, .rw, 0⟩, ⟨15, 8, .rw, 0⟩, ⟨19, 16, .rw, 0xd⟩, ⟨23, 20, .rw, 1⟩, ⟨31, 24, .rw, 0xf8⟩, ⟨39, 32, .rw, 0xf8⟩]⟩,
  ⟨"PTP_LAT", 0x8008, [(0, 3, 256)],
    [⟨19, 0, .rw, 0⟩, ⟨51, 32, .rw, 0⟩]⟩,
  ⟨"PTP_STAT", 0x8010, [(0, 3, 256)],
    [⟨31, 0, .ro, 0⟩, ⟨63, 32, .ro, 0⟩]⟩,
  ⟨"PTP_ERR", 0x8018, [(0, 3, 256)],
    [⟨11, 0, .ro, 0⟩, ⟨23, 12, .ro, 0⟩, ⟨35, 24, .ro, 0⟩, ⟨47, 36, .ro, 0⟩, ⟨48, 48, .ro, 0⟩]⟩,
  ⟨"PTP_PAIR_CFG", 0x8400, [(0, 1, 64)],
    [⟨0, 0, .rw, 0⟩]⟩,
  ⟨"PTP_PAIR_STAT", 0x8408, [(0, 1, 64)],
    [⟨31, 0, .ro, 0⟩, ⟨47, 32, .ro, 0⟩, ⟨63, 48, .ro, 0⟩]⟩,
  ⟨"PTP_PAIR_RES", 0x8410, [(0, 1, 64)],
    [⟨31, 0, .ro, 0⟩]⟩]

/-- The ING registers. -/
def regsIng : List RegDef := [
  ⟨"ING_CAM_CFG", 0xA000, [(0, 7, 64)],
    [⟨0, 0, .rw, 0⟩, ⟨3, 1, .rw, 4⟩]⟩,
  ⟨"ING_CAM_VC", 0xA008, [(0, 7, 64), (0, 3, 8)],
    [⟨0, 0, .rw, 0⟩, ⟨13, 8, .rw, 0x2b⟩, ⟨14, 14, .rw, 0⟩, ⟨31, 16, .rw, 0⟩]⟩,
  ⟨"ING_CAM_ERR", 0xA028, [(0, 7, 64)],
    [⟨15, 0, .ro, 0⟩, ⟨31, 16, .ro, 0⟩, ⟨47, 32, .ro, 0⟩, ⟨63, 48, .ro, 0⟩]⟩,
  ⟨"ING_CAM_ERR2", 0xA030, [(0, 7, 64)],
    [⟨9, 0, .ro, 0⟩, ⟨19, 10, .ro, 0⟩, ⟨29, 20, .ro, 0⟩, ⟨39, 30, .ro, 0⟩, ⟨51, 40, .ro, 0⟩, ⟨63, 52, .ro, 0⟩]⟩,
  ⟨"ING_CAM_PAT", 0xA038, [(0, 7, 64)],
    [⟨31, 0, .ro, 0⟩, ⟨47, 32, .ro, 0⟩, ⟨63, 48, .ro, 0⟩]⟩,
  ⟨"ING_ENC_CFG", 0xA200, [(0, 3, 32)],
    [⟨0, 0, .rw, 0⟩, ⟨1, 1, .rw, 0⟩, ⟨2, 2, .rw, 0⟩, ⟨3, 3, .rw, 0⟩, ⟨7, 4, .rw, 8⟩, ⟨29, 16, .rw, 0x64⟩]⟩,
  ⟨"ING_ENC_POS", 0xA208, [(0, 3, 32)],
    [⟨31, 0, .ro, 0⟩]⟩,
  ⟨"ING_ENC_ZPOS", 0xA210, [(0, 3, 32)],
    [⟨31, 0, .ro, 0⟩]⟩,
  ⟨"ING_ENC_ERR", 0xA218, [(0, 3, 32)],
    [⟨31, 0, .ro, 0⟩, ⟨63, 32, .ro, 0⟩]⟩,
  ⟨"ING_IMU_CFG", 0xA300, [(0, 1, 256)],
    [⟨0, 0, .rw, 0⟩, ⟨1, 1, .rw, 0⟩, ⟨2, 2, .rw, 0⟩, ⟨3, 3, .rw, 0⟩, ⟨15, 8, .rw, 4⟩, ⟨29, 16, .rw, 0x3e8⟩]⟩,
  ⟨"ING_IMU_STAT", 0xA308, [(0, 1, 256)],
    [⟨15, 0, .ro, 0⟩, ⟨31, 16, .ro, 0⟩, ⟨47, 32, .ro, 0⟩, ⟨48, 48, .ro, 0⟩]⟩,
  ⟨"ING_IMU_SCRIPT", 0xA380, [(0, 1, 256), (0, 15, 8)],
    [⟨63, 0, .rw, 0⟩]⟩,
  ⟨"ING_ETH_CFG", 0xA600, [(0, 3, 64)],
    [⟨0, 0, .rw, 0⟩, ⟨1, 1, .rw, 1⟩]⟩,
  ⟨"ING_ETH_MAC", 0xA608, [(0, 3, 64)],
    [⟨47, 0, .rw, 0⟩]⟩,
  ⟨"ING_ETH_ERR", 0xA610, [(0, 3, 64)],
    [⟨15, 0, .ro, 0⟩, ⟨31, 16, .ro, 0⟩, ⟨47, 32, .ro, 0⟩, ⟨63, 48, .ro, 0⟩]⟩,
  ⟨"ING_ETH_ERR2", 0xA618, [(0, 3, 64)],
    [⟨15, 0, .ro, 0⟩, ⟨31, 16, .ro, 0⟩, ⟨47, 32, .ro, 0⟩, ⟨63, 48, .ro, 0⟩]⟩,
  ⟨"ING_MDIO", 0xA700, [],
    [⟨15, 0, .rw, 0⟩, ⟨20, 16, .rw, 0⟩, ⟨25, 21, .rw, 0⟩, ⟨27, 26, .wo, 0⟩, ⟨31, 31, .ro, 0⟩]⟩,
  ⟨"ING_SENSOR", 0xA800, [(0, 59, 8)],
    [⟨13, 0, .rw, 0⟩, ⟨23, 16, .rw, 4⟩, ⟨31, 31, .ro, 0⟩]⟩,
  ⟨"ING_COV_BASE", 0xA9E0, [],
    [⟨63, 0, .rw, 0⟩]⟩,
  ⟨"ING_COV_CFG", 0xA9E8, [],
    [⟨0, 0, .rw, 0⟩, ⟨11, 8, .rw, 8⟩]⟩,
  ⟨"ING_COV_LAST", 0xA9F0, [],
    [⟨31, 0, .ro, 0⟩]⟩,
  ⟨"ING_PAT_CFG", 0xA9F8, [],
    [⟨8, 0, .rw, 0x40⟩]⟩,
  ⟨"ING_TPL", 0xB000, [(0, 15, 256), (0, 15, 8)],
    [⟨63, 0, .rw, 0⟩]⟩]

/-- The RGS registers. -/
def regsRgs : List RegDef := [
  ⟨"RGS_GRID_CFG", 0xC000, [],
    [⟨2, 0, .rw, 2⟩, ⟨11, 8, .rw, 0xc⟩, ⟨20, 16, .rw, 0x12⟩, ⟨27, 24, .rw, 4⟩, ⟨63, 63, .rw, 0⟩]⟩,
  ⟨"RGS_ORIGIN_XY", 0xC008, [],
    [⟨31, 0, .rw, 0⟩, ⟨63, 32, .rw, 0⟩]⟩,
  ⟨"RGS_ORIGIN_Z", 0xC010, [],
    [⟨31, 0, .rw, 0⟩]⟩,
  ⟨"RGS_DIR_BASE", 0xC018, [],
    [⟨63, 0, .rw, 0⟩]⟩,
  ⟨"RGS_POOL_BASE", 0xC020, [],
    [⟨63, 0, .rw, 0⟩]⟩,
  ⟨"RGS_POOL_CFG", 0xC028, [],
    [⟨20, 0, .rw, 0⟩, ⟨52, 32, .ro, 0⟩]⟩,
  ⟨"RGS_DIRTY_BASE", 0xC030, [],
    [⟨63, 0, .rw, 0⟩]⟩,
  ⟨"RGS_CAL_BASE", 0xC038, [],
    [⟨63, 0, .rw, 0⟩]⟩,
  ⟨"RGS_CAL_CTRL", 0xC040, [],
    [⟨0, 0, .wo, 0⟩, ⟨1, 1, .ro, 0⟩, ⟨2, 2, .ro, 0⟩, ⟨13, 8, .ro, 0⟩, ⟨18, 16, .ro, 0⟩, ⟨63, 32, .ro, 0⟩]⟩,
  ⟨"RGS_POSE_BASE", 0xC048, [],
    [⟨63, 0, .rw, 0⟩]⟩,
  ⟨"RGS_POSE_HEAD", 0xC050, [],
    [⟨3, 0, .rw, 0⟩, ⟨7, 4, .rw, 0⟩]⟩,
  ⟨"RGS_UPDATE_CFG", 0xC058, [],
    [⟨3, 0, .rw, 2⟩, ⟨15, 8, .rw, 0xc0⟩, ⟨23, 16, .rw, 0x64⟩, ⟨26, 24, .rw, 2⟩, ⟨30, 28, .rw, 2⟩, ⟨47, 32, .rw, 0x1388⟩]⟩,
  ⟨"RGS_MOTION_CFG", 0xC060, [],
    [⟨15, 0, .rw, 0xccd⟩, ⟨31, 16, .rw, 0x4e20⟩, ⟨47, 32, .rw, 0x3e8⟩]⟩,
  ⟨"RGS_CLOSE_CFG", 0xC068, [],
    [⟨9, 0, .rw, 0xa⟩, ⟨31, 16, .rw, 0x7d0⟩, ⟨47, 32, .rw, 0⟩]⟩,
  ⟨"RGS_POLICY_LO", 0xC070, [],
    [⟨63, 0, .rw, 0⟩]⟩,
  ⟨"RGS_POLICY_HI", 0xC078, [],
    [⟨55, 0, .rw, 0⟩]⟩,
  ⟨"RGS_SEED", 0xC080, [],
    [⟨63, 0, .rw, 1⟩]⟩,
  ⟨"RGS_SCREEN_CTRL", 0xC088, [],
    [⟨0, 0, .wo, 0⟩, ⟨63, 32, .ro, 0⟩]⟩,
  ⟨"RGS_EPOCH_STAT", 0xC090, [],
    [⟨31, 0, .ro, 0⟩, ⟨50, 32, .ro, 0⟩]⟩,
  ⟨"RGS_UPD_STAT", 0xC098, [],
    [⟨31, 0, .ro, 0⟩, ⟨63, 32, .ro, 0⟩]⟩,
  ⟨"RGS_DROP_0", 0xC0A0, [],
    [⟨15, 0, .ro, 0⟩, ⟨31, 16, .ro, 0⟩, ⟨47, 32, .ro, 0⟩, ⟨63, 48, .ro, 0⟩]⟩,
  ⟨"RGS_DROP_1", 0xC0A8, [],
    [⟨15, 0, .ro, 0⟩, ⟨31, 16, .ro, 0⟩, ⟨47, 32, .ro, 0⟩, ⟨63, 48, .ro, 0⟩]⟩,
  ⟨"RGS_DROP_2", 0xC0B0, [],
    [⟨15, 0, .ro, 0⟩, ⟨31, 16, .ro, 0⟩, ⟨47, 32, .ro, 0⟩]⟩]

/-- The PRS registers. -/
def regsPrs : List RegDef := [
  ⟨"PRS_STATUS", 0x10000, [(0, 15, 4096)],
    [⟨2, 0, .ro, 0⟩, ⟨26, 16, .ro, 0⟩, ⟨63, 32, .ro, 0⟩]⟩,
  ⟨"PRS_EXC", 0x10008, [(0, 15, 4096)],
    [⟨7, 0, .ro, 0⟩, ⟨18, 8, .ro, 0⟩, ⟨22, 20, .ro, 7⟩, ⟨47, 32, .ro, 0⟩]⟩,
  ⟨"PRS_EXC_ADDR", 0x10010, [(0, 15, 4096)],
    [⟨63, 0, .ro, 0⟩]⟩,
  ⟨"PRS_ECC", 0x10018, [(0, 15, 4096)],
    [⟨23, 0, .ro, 0⟩, ⟨39, 24, .ro, 0⟩, ⟨55, 40, .ro, 0⟩, ⟨63, 56, .ro, 0⟩]⟩,
  ⟨"PRS_SAT", 0x10020, [(0, 15, 4096)],
    [⟨31, 0, .ro, 0⟩, ⟨47, 32, .ro, 0⟩, ⟨63, 48, .ro, 0⟩]⟩,
  ⟨"PRS_RETIRED", 0x10028, [(0, 15, 4096)],
    [⟨63, 0, .ro, 0⟩]⟩,
  ⟨"PRS_STALL", 0x10030, [(0, 15, 4096)],
    [⟨31, 0, .ro, 0⟩, ⟨63, 32, .ro, 0⟩]⟩,
  ⟨"PRS_ARRAY", 0x10038, [(0, 15, 4096)],
    [⟨63, 0, .ro, 0⟩]⟩,
  ⟨"PRS_IMAGE", 0x10040, [(0, 15, 4096)],
    [⟨63, 0, .ro, 0⟩]⟩,
  ⟨"PRS_IMAGE_CRC", 0x10048, [(0, 15, 4096)],
    [⟨31, 0, .ro, 0⟩]⟩,
  ⟨"PRS_CTRL", 0x10080, [(0, 15, 4096)],
    [⟨0, 0, .wo, 0⟩, ⟨1, 1, .wo, 0⟩]⟩]

/-- The SCN registers. -/
def regsScn : List RegDef := [
  ⟨"SCN_GEOM", 0x20000, [],
    [⟨4, 0, .rw, 8⟩, ⟨11, 8, .rw, 7⟩, ⟨15, 12, .rw, 4⟩, ⟨49, 32, .ro, 0x4000⟩]⟩,
  ⟨"SCN_POOL_BASE", 0x20008, [],
    [⟨63, 0, .rw, 0⟩]⟩,
  ⟨"SCN_POOL_CFG", 0x20010, [],
    [⟨30, 0, .rw, 0⟩]⟩,
  ⟨"SCN_POOL_FREE", 0x20018, [],
    [⟨30, 0, .ro, 0⟩]⟩,
  ⟨"SCN_LIST_BASE", 0x20020, [],
    [⟨63, 0, .rw, 0⟩]⟩,
  ⟨"SCN_INDEX_BASE", 0x20028, [],
    [⟨63, 0, .rw, 0⟩]⟩,
  ⟨"SCN_FRISKET_BASE", 0x20030, [],
    [⟨63, 0, .rw, 0⟩]⟩,
  ⟨"SCN_INDEX_CFG", 0x20038, [],
    [⟨15, 0, .rw, 0x3e80⟩]⟩,
  ⟨"SCN_SWAP_BASE", 0x20040, [],
    [⟨63, 0, .rw, 0⟩]⟩,
  ⟨"SCN_SWAP_CFG", 0x20048, [],
    [⟨0, 0, .rw, 0⟩, ⟨63, 32, .rw, 0⟩]⟩,
  ⟨"SCN_SEQ_SEL", 0x20050, [],
    [⟨9, 0, .rw, 0⟩]⟩,
  ⟨"SCN_SEQ_INFO", 0x20058, [],
    [⟨2, 0, .ro, 0⟩, ⟨7, 4, .ro, 0⟩, ⟨15, 8, .ro, 0⟩, ⟨28, 16, .ro, 0⟩, ⟨63, 32, .ro, 0⟩]⟩,
  ⟨"SCN_SEQ_CFG", 0x20060, [],
    [⟨7, 0, .rw, 0⟩]⟩,
  ⟨"SCN_STAT", 0x20068, [],
    [⟨15, 0, .ro, 0⟩, ⟨31, 16, .ro, 0⟩, ⟨47, 32, .ro, 0⟩, ⟨63, 48, .ro, 0⟩]⟩,
  ⟨"SCN_SWAP_BYTES", 0x20070, [],
    [⟨31, 0, .ro, 0⟩, ⟨63, 32, .ro, 0⟩]⟩]

/-- The RUN registers. -/
def regsRun : List RegDef := [
  ⟨"RUN_QUORUM", 0x21000, [(0, 7, 32)],
    [⟨59, 0, .rw, 0⟩]⟩,
  ⟨"RUN_ROI_MIN", 0x21008, [(0, 7, 32)],
    [⟨8, 0, .rw, 0⟩, ⟨17, 9, .rw, 0⟩, ⟨26, 18, .rw, 0⟩, ⟨63, 63, .rw, 0⟩]⟩,
  ⟨"RUN_ROI_MAX", 0x21010, [(0, 7, 32)],
    [⟨8, 0, .rw, 0x1ff⟩, ⟨17, 9, .rw, 0x1ff⟩, ⟨26, 18, .rw, 0x1ff⟩]⟩,
  ⟨"RUN_CFG", 0x21018, [(0, 7, 32)],
    [⟨17, 0, .rw, 0⟩, ⟨31, 31, .rw, 0⟩]⟩,
  ⟨"RUN_RING_SEL", 0x21100, [(0, 3, 8)],
    [⟨63, 0, .rw, 0⟩]⟩,
  ⟨"RUN_STAT", 0x21200, [],
    [⟨15, 0, .ro, 0⟩, ⟨31, 16, .ro, 0⟩, ⟨47, 32, .ro, 0⟩, ⟨63, 48, .ro, 0⟩]⟩,
  ⟨"RUN_WAIT", 0x21208, [],
    [⟨15, 0, .ro, 0⟩, ⟨31, 16, .ro, 0⟩, ⟨47, 32, .ro, 0⟩, ⟨63, 48, .ro, 0⟩]⟩,
  ⟨"RUN_PPT", 0x21210, [],
    [⟨12, 0, .ro, 0⟩, ⟨22, 16, .ro, 0⟩]⟩,
  ⟨"RUN_LAST", 0x21220, [(0, 7, 8)],
    [⟨31, 0, .ro, 0⟩, ⟨50, 32, .ro, 0⟩, ⟨63, 63, .ro, 0⟩]⟩]

/-- The CHN registers. -/
def regsChn : List RegDef := [
  ⟨"CHN_ID", 0x22000, [],
    [⟨3, 0, .ro, 0⟩, ⟨4, 4, .ro, 0⟩, ⟨5, 5, .ro, 0⟩, ⟨7, 6, .ro, 3⟩, ⟨12, 8, .ro, 0⟩, ⟨19, 16, .ro, 0⟩, ⟨20, 20, .ro, 0⟩, ⟨21, 21, .ro, 0⟩, ⟨22, 22, .ro, 0⟩, ⟨47, 32, .ro, 0⟩]⟩,
  ⟨"CHN_CFG", 0x22008, [],
    [⟨7, 0, .rwl, 0x1e⟩, ⟨23, 8, .rwl, 0x3e8⟩, ⟨31, 24, .rwl, 0x64⟩, ⟨37, 32, .rwl, 0x28⟩, ⟨40, 40, .rwl, 0⟩]⟩,
  ⟨"CHN_PORT_CFG", 0x22040, [(0, 1, 64)],
    [⟨1, 0, .rw, 0⟩, ⟨15, 8, .rw, 0x10⟩, ⟨31, 16, .rw, 0x3c⟩, ⟨47, 32, .rw, 0x400⟩]⟩,
  ⟨"CHN_PORT_STAT", 0x22048, [(0, 1, 64)],
    [⟨2, 0, .ro, 0⟩, ⟨3, 3, .ro, 0⟩, ⟨4, 4, .ro, 0⟩, ⟨9, 5, .ro, 0⟩, ⟨10, 10, .ro, 0⟩, ⟨47, 32, .ro, 0⟩, ⟨63, 48, .ro, 0⟩]⟩,
  ⟨"CHN_PORT_TX", 0x22050, [(0, 1, 64)],
    [⟨63, 0, .ro, 0⟩]⟩,
  ⟨"CHN_PORT_RX", 0x22058, [(0, 1, 64)],
    [⟨63, 0, .ro, 0⟩]⟩,
  ⟨"CHN_PORT_ERR", 0x22060, [(0, 1, 64)],
    [⟨31, 0, .ro, 0⟩, ⟨47, 32, .ro, 0⟩, ⟨63, 48, .ro, 0⟩]⟩,
  ⟨"CHN_PORT_FEC", 0x22068, [(0, 1, 64)],
    [⟨39, 0, .ro, 0⟩, ⟨63, 40, .ro, 0⟩]⟩,
  ⟨"CHN_PORT_LANE", 0x22070, [(0, 1, 64)],
    [⟨4, 0, .ro, 0⟩, ⟨47, 16, .ro, 0⟩]⟩,
  ⟨"CHN_FOLD_STAT", 0x22100, [],
    [⟨15, 0, .ro, 0⟩, ⟨31, 16, .ro, 0⟩, ⟨32, 32, .ro, 0⟩, ⟨33, 33, .ro, 0⟩]⟩,
  ⟨"CHN_E2E_STAT", 0x22108, [],
    [⟨23, 0, .ro, 0⟩, ⟨47, 24, .ro, 0⟩, ⟨63, 48, .ro, 0⟩]⟩,
  ⟨"CHN_ATOM_STAT", 0x22110, [],
    [⟨31, 0, .ro, 0⟩, ⟨63, 32, .ro, 0⟩]⟩,
  ⟨"CHN_PROXY_TARGET", 0x22200, [],
    [⟨3, 0, .rw, 0⟩, ⟨49, 32, .rw, 0⟩]⟩,
  ⟨"CHN_PROXY_DATA", 0x22208, [],
    [⟨63, 0, .rw, 0⟩]⟩,
  ⟨"CHN_PROXY_CMD", 0x22210, [],
    [⟨1, 0, .wo, 0⟩, ⟨8, 8, .ro, 0⟩, ⟨9, 9, .ro, 0⟩]⟩,
  ⟨"CHN_PROXY_VEC", 0x22218, [],
    [⟨5, 0, .rw, 0⟩]⟩,
  ⟨"CHN_PROXY_IRQ", 0x22280, [(0, 15, 8)],
    [⟨63, 0, .w1c, 0⟩]⟩]

/-- The STK registers. -/
def regsStk : List RegDef := [
  ⟨"STK_CFG", 0x23000, [],
    [⟨2, 0, .rwl, 4⟩, ⟨11, 8, .rwl, 2⟩]⟩,
  ⟨"STK_FLAT", 0x23008, [],
    [⟨63, 0, .ro, 0⟩]⟩,
  ⟨"STK_FLASH", 0x23010, [],
    [⟨63, 0, .ro, 0⟩]⟩,
  ⟨"STK_SETS", 0x23018, [],
    [⟨31, 0, .ro, 0⟩]⟩,
  ⟨"STK_DIRTY_CFG", 0x23020, [],
    [⟨12, 0, .rw, 0x100⟩, ⟨47, 32, .ro, 0⟩]⟩,
  ⟨"STK_DIRTY", 0x23028, [],
    [⟨31, 0, .ro, 0⟩, ⟨63, 32, .ro, 0⟩]⟩,
  ⟨"STK_HOSTWIN", 0x23030, [],
    [⟨15, 0, .rw, 0⟩]⟩,
  ⟨"STK_PART_BASE", 0x23040, [(0, 7, 16)],
    [⟨63, 0, .rw, 0⟩]⟩,
  ⟨"STK_PART_CFG", 0x23048, [(0, 7, 16)],
    [⟨22, 0, .rw, 0⟩, ⟨47, 32, .rw, 0⟩, ⟨48, 48, .rw, 0⟩, ⟨49, 49, .rw, 0⟩, ⟨50, 50, .rw, 0⟩]⟩,
  ⟨"STK_REG_BASE", 0x23100, [(0, 31, 32)],
    [⟨63, 0, .rw, 0⟩]⟩,
  ⟨"STK_REG_CFG", 0x23108, [(0, 31, 32)],
    [⟨22, 0, .rw, 0⟩, ⟨48, 48, .rw, 0⟩, ⟨49, 49, .rw, 0⟩, ⟨50, 50, .rw, 0⟩]⟩,
  ⟨"STK_REG_MASK", 0x23110, [(0, 31, 32)],
    [⟨15, 0, .rw, 0⟩, ⟨31, 16, .rw, 0⟩]⟩,
  ⟨"STK_PIN_BASE", 0x23500, [(0, 15, 16)],
    [⟨57, 0, .rw, 0⟩]⟩,
  ⟨"STK_PIN_CFG", 0x23508, [(0, 15, 16)],
    [⟨23, 0, .rw, 0⟩, ⟨24, 24, .rw, 0⟩, ⟨25, 25, .rw, 0⟩, ⟨26, 26, .ro, 0⟩]⟩,
  ⟨"STK_HITS", 0x23600, [],
    [⟨63, 0, .ro, 0⟩]⟩,
  ⟨"STK_MISSES", 0x23608, [],
    [⟨63, 0, .ro, 0⟩]⟩,
  ⟨"STK_LEAF_STAT", 0x23610, [],
    [⟨31, 0, .ro, 0⟩, ⟨63, 32, .ro, 0⟩]⟩,
  ⟨"STK_PIN_STAT", 0x23618, [],
    [⟨31, 0, .ro, 0⟩, ⟨47, 32, .ro, 0⟩, ⟨63, 48, .ro, 0⟩]⟩,
  ⟨"STK_DENY", 0x23620, [],
    [⟨31, 0, .ro, 0⟩, ⟨35, 32, .ro, 0⟩, ⟨36, 36, .ro, 0⟩, ⟨37, 37, .ro, 0⟩]⟩,
  ⟨"STK_ERR", 0x23628, [],
    [⟨15, 0, .ro, 0⟩, ⟨31, 16, .ro, 0⟩, ⟨47, 32, .ro, 0⟩, ⟨63, 48, .ro, 0⟩]⟩,
  ⟨"STK_JOURNAL", 0x23630, [],
    [⟨31, 0, .ro, 0⟩, ⟨63, 32, .ro, 0⟩]⟩,
  ⟨"STK_FLUSH", 0x23638, [],
    [⟨31, 0, .ro, 0⟩, ⟨63, 32, .ro, 0⟩]⟩]

/-- The GRD registers. -/
def regsGrd : List RegDef := [
  ⟨"GRD_CFG", 0x24000, [],
    [⟨0, 0, .rwl, 0⟩, ⟨1, 1, .rwl, 0⟩, ⟨2, 2, .rwl, 0⟩, ⟨7, 4, .rwl, 1⟩, ⟨11, 8, .rwl, 8⟩, ⟨21, 16, .rwl, 0x14⟩, ⟨45, 32, .rwl, 0x2648⟩]⟩,
  ⟨"GRD_TIME", 0x24008, [],
    [⟨16, 0, .rwl, 0x1f40⟩, ⟨48, 32, .rwl, 0x1f40⟩]⟩,
  ⟨"GRD_SENSORS", 0x24010, [],
    [⟨59, 0, .rwl, 0⟩]⟩,
  ⟨"GRD_PAIR", 0x24020, [(0, 3, 8)],
    [⟨3, 0, .rw, 0⟩, ⟨11, 8, .rw, 0⟩, ⟨16, 16, .rw, 0⟩, ⟨17, 17, .ro, 0⟩, ⟨18, 18, .ro, 0⟩]⟩,
  ⟨"GRD_KAT_ADDR", 0x24040, [],
    [⟨63, 0, .rw, 0⟩]⟩,
  ⟨"GRD_CTRL", 0x24048, [],
    [⟨0, 0, .wo, 0⟩, ⟨15, 8, .wo, 0⟩]⟩,
  ⟨"GRD_STATUS", 0x24050, [],
    [⟨0, 0, .ro, 0⟩, ⟨1, 1, .ro, 0⟩, ⟨2, 2, .ro, 0⟩, ⟨3, 3, .ro, 0⟩, ⟨15, 8, .ro, 0⟩, ⟨63, 32, .ro, 0⟩]⟩,
  ⟨"GRD_LAST", 0x24058, [],
    [⟨31, 0, .ro, 0⟩, ⟨39, 32, .ro, 0⟩, ⟨40, 40, .ro, 0⟩, ⟨41, 41, .ro, 0⟩, ⟨42, 42, .ro, 0⟩]⟩,
  ⟨"GRD_COUNT", 0x24060, [],
    [⟨15, 0, .ro, 0⟩, ⟨31, 16, .ro, 0⟩, ⟨47, 32, .ro, 0⟩, ⟨63, 48, .ro, 0⟩]⟩,
  ⟨"GRD_MISMATCH", 0x24068, [],
    [⟨3, 0, .ro, 0⟩, ⟨7, 4, .ro, 0⟩, ⟨8, 8, .ro, 0⟩, ⟨31, 16, .ro, 0⟩, ⟨63, 32, .ro, 0⟩]⟩,
  ⟨"GRD_PATTERN", 0x24070, [],
    [⟨31, 0, .ro, 0⟩, ⟨37, 32, .ro, 0⟩, ⟨42, 40, .ro, 0⟩, ⟨63, 48, .ro, 0⟩]⟩,
  ⟨"GRD_ECC", 0x24078, [],
    [⟨31, 0, .ro, 0⟩, ⟨63, 32, .ro, 0⟩]⟩]

/-- The REP registers. -/
def regsRep : List RegDef := [
  ⟨"REP_STATUS", 0x25000, [],
    [⟨15, 0, .ro, 0⟩, ⟨31, 16, .ro, 0⟩, ⟨47, 32, .ro, 0⟩, ⟨48, 48, .ro, 0⟩]⟩,
  ⟨"REP_CTRL", 0x25008, [],
    [⟨15, 0, .wo, 0⟩, ⟨19, 16, .wo, 0⟩, ⟨20, 20, .wo, 0⟩, ⟨21, 21, .wo, 0⟩, ⟨31, 24, .wo, 0⟩]⟩,
  ⟨"REP_BIST_CFG", 0x25010, [],
    [⟨15, 0, .rw, 0xe10⟩, ⟨19, 16, .rw, 3⟩, ⟨20, 20, .rw, 1⟩]⟩,
  ⟨"REP_SOFT_STAT", 0x25018, [],
    [⟨11, 0, .ro, 0⟩, ⟨23, 12, .ro, 0⟩, ⟨24, 24, .ro, 0⟩, ⟨63, 32, .ro, 0⟩]⟩,
  ⟨"REP_SCREEN", 0x25020, [],
    [⟨15, 0, .ro, 0⟩, ⟨31, 16, .ro, 0⟩]⟩,
  ⟨"REP_PRESS", 0x25100, [(0, 15, 8)],
    [⟨3, 0, .ro, 0⟩, ⟨12, 4, .ro, 0⟩, ⟨20, 16, .ro, 0⟩, ⟨24, 21, .ro, 0⟩, ⟨25, 25, .ro, 0⟩, ⟨26, 26, .ro, 0⟩, ⟨27, 27, .ro, 0⟩, ⟨31, 28, .ro, 0⟩, ⟨39, 32, .ro, 0⟩, ⟨47, 40, .ro, 0xff⟩, ⟨63, 48, .ro, 0⟩]⟩,
  ⟨"REP_PAIR_CFG", 0x25200, [],
    [⟨3, 0, .rw, 0⟩, ⟨5, 4, .rw, 0⟩, ⟨6, 6, .rw, 0⟩, ⟨7, 7, .rw, 1⟩, ⟨8, 8, .ro, 0⟩, ⟨31, 16, .rw, 0x3e8⟩, ⟨47, 32, .rw, 0x1388⟩, ⟨51, 48, .rw, 0⟩]⟩,
  ⟨"REP_SLOT_A", 0x25208, [],
    [⟨63, 0, .rw, 0⟩]⟩,
  ⟨"REP_SLOT_B", 0x25210, [],
    [⟨63, 0, .rw, 0⟩]⟩,
  ⟨"REP_SLOT_SIZE", 0x25218, [],
    [⟨15, 0, .rw, 0⟩]⟩,
  ⟨"REP_CKPT_CTRL", 0x25220, [],
    [⟨0, 0, .wo, 0⟩, ⟨31, 16, .rw, 0⟩]⟩,
  ⟨"REP_CKPT_STAT", 0x25228, [],
    [⟨31, 0, .ro, 0⟩, ⟨32, 32, .ro, 0⟩, ⟨34, 33, .ro, 0⟩, ⟨35, 35, .ro, 0⟩, ⟨47, 36, .ro, 0⟩, ⟨63, 48, .ro, 0⟩]⟩,
  ⟨"REP_TAKEOVER", 0x25230, [],
    [⟨31, 0, .ro, 0⟩, ⟨32, 32, .ro, 0⟩, ⟨33, 33, .ro, 0⟩, ⟨34, 34, .ro, 0⟩, ⟨63, 40, .ro, 0⟩]⟩,
  ⟨"REP_ADOPT", 0x25238, [],
    [⟨0, 0, .wo, 0⟩, ⟨1, 1, .ro, 0⟩, ⟨2, 2, .ro, 0⟩, ⟨3, 3, .ro, 0⟩, ⟨25, 16, .ro, 0⟩]⟩,
  ⟨"REP_SECT_SRC", 0x25300, [(0, 15, 32)],
    [⟨63, 0, .rw, 0⟩]⟩,
  ⟨"REP_SECT_DST", 0x25308, [(0, 15, 32)],
    [⟨63, 0, .rw, 0⟩]⟩,
  ⟨"REP_SECT_LEN", 0x25310, [(0, 15, 32)],
    [⟨39, 0, .rw, 0⟩]⟩]

/-- The DBG registers. -/
def regsDbg : List RegDef := [
  ⟨"DBG_CFG", 0x26000, [],
    [⟨0, 0, .rwl, 0⟩]⟩,
  ⟨"DBG_FREEZE_CTRL", 0x26008, [],
    [⟨0, 0, .wo, 0⟩, ⟨15, 8, .wo, 0⟩]⟩,
  ⟨"DBG_FREEZE_LAST", 0x26010, [],
    [⟨47, 0, .ro, 0⟩, ⟨51, 48, .ro, 0⟩, ⟨55, 52, .ro, 0⟩]⟩,
  ⟨"DBG_STAT", 0x26018, [],
    [⟨15, 0, .ro, 0⟩, ⟨31, 16, .ro, 0⟩]⟩]

/-- The registers of the block that an offset lies in (Table SCP-5). -/
def regBlock (off : Nat) : List RegDef :=
  match off / 0x1000 with
  | 0x00 => regsScp ++ regsArc ++ regsLim
  | 0x01 => regsMkr
  | 0x02 | 0x03 => regsPkg
  | 0x04 | 0x05 => regsHst
  | 0x06 => regsGal
  | 0x07 => regsDtl
  | 0x08 | 0x09 => regsPtp
  | 0x0A | 0x0B => regsIng
  | 0x20 => regsScn
  | 0x21 => regsRun
  | 0x22 => regsChn
  | 0x23 => regsStk
  | 0x24 => regsGrd
  | 0x25 => regsRep
  | 0x26 => regsDbg
  | b => if 0x0C ≤ b ∧ b < 0x10 then regsRgs else if 0x10 ≤ b ∧ b < 0x20 then regsPrs else []

/-- Whether a register's copies, over the remaining dimensions, include the byte distance d from its base: an inner dimension lies within
one stride of the outer one. -/
def RegDef.covers : List (Nat × Nat × Nat) → Nat → Bool
  | [], d => d = 0
  | (lo, hi, st) :: ds, d => decide (lo ≤ d / st) && decide (d / st ≤ hi) && RegDef.covers ds (d % st)

/-- The register that lies at an 8-byte-aligned offset. -/
def regAt (off : Nat) : Option RegDef :=
  (regBlock off).find? (fun r => decide (r.base ≤ off) && RegDef.covers r.dims (off - r.base))

/-- A word with value v in bits [hi:lo] and 0 elsewhere. -/
def FieldDef.place (f : FieldDef) (v : Nat) : U64 :=
  BitVec.ofNat 64 ((v % 2 ^ (f.hi + 1 - f.lo)) * 2 ^ f.lo)

/-- The reset word of a register's fields. -/
def resetWord (fs : List FieldDef) : U64 := fs.foldl (fun w f => w ||| f.place f.reset) 0#64

/-- The mask of the fields of a register whose type satisfies p. -/
def kindMask (p : RegKind → Bool) (fs : List FieldDef) : U64 :=
  fs.foldl (fun w f => if p f.kind then w ||| f.place (2 ^ (f.hi + 1 - f.lo) - 1) else w) 0#64

/-- The galleys of Table GAL-1: depth in words, commit mode, and the reset value of MAX_ITEM. -/
def galTable (g : Nat) : Option (Nat × Bool × Nat) :=
  if g ≤ 7 then some (8192, true, 2048)
  else if g ≤ 11 then some (256, true, 4)
  else if g ≤ 13 then some (256, true, 32)
  else if 16 ≤ g ∧ g ≤ 19 then some (4096, true, 1216)
  else if 20 ≤ g ∧ g ≤ 23 then some (64, true, 32)
  else if 32 ≤ g ∧ g ≤ 47 then some (1024, false, 0)
  else if g = 48 then some (512, true, 512)
  else if g = 49 then some (512, false, 0)
  else none

/-- The reset word of GAL_CFG_g (Table GAL-1). -/
def galCfgReset (g : Nat) : U64 :=
  match galTable g with
  | some (depth, commit, maxItem) => BitVec.ofNat 64 (maxItem + 0x10000 * commit.toNat + 0x100000000 * depth)
  | none => 0#64

/-- What an 8-byte register of BAR0 holds at reset; an offset that no register has reads 0 (R10, R16). -/
def regReset (off : Nat) : U64 :=
  if 0x6000 ≤ off ∧ off < 0x6800 ∧ off % 0x20 = 0x18 then galCfgReset ((off - 0x6000) / 0x20)
  else
    match regAt off with
    | some r => resetWord r.fields
    | none => 0#64

end Sys2Proof.Machine
end

