-- ==== Sys2Proof/Machine/Fields.lean ====
section
/-!
DEFINITION. The named fields of the registers, each as the offset of its register and its bits; generated from the
register tables of the spec beside RegMap.lean. A field of a register with copies takes the copy's index.
-/

namespace Sys2Proof.Machine

/-- A field: its register's offset, its lowest bit and its width. -/
structure Fld where
  off : Nat
  lo  : Nat
  w   : Nat
  deriving DecidableEq, Repr

/-- SCP_ID (R5). -/
def SCP_ID : Nat := 0x0
def SCP_ID.DIE : Fld := ⟨0x0, 0, 16⟩
def SCP_ID.VERSION : Fld := ⟨0x0, 16, 4⟩
def SCP_ID.STEP_MAJOR : Fld := ⟨0x0, 20, 4⟩
def SCP_ID.STEP_MINOR : Fld := ⟨0x0, 24, 4⟩
def SCP_ID.SKU : Fld := ⟨0x0, 28, 4⟩
def SCP_ID.PRESS_MAP : Fld := ⟨0x0, 32, 16⟩

/-- ARC_NOTICE_STATUS (R31). -/
def ARC_NOTICE_STATUS : Nat := 0x10
def ARC_NOTICE_STATUS.NOTICE : Fld := ⟨0x10, 0, 18⟩

/-- ARC_NOTICE_MASK (R31). -/
def ARC_NOTICE_MASK : Nat := 0x18
def ARC_NOTICE_MASK.MASK : Fld := ⟨0x18, 0, 18⟩

/-- ARC_NOTICE_VECTOR (R31). -/
def ARC_NOTICE_VECTOR : Nat := 0x20
def ARC_NOTICE_VECTOR.VECTOR : Fld := ⟨0x20, 0, 6⟩

/-- LIM_CONFLICT (R791). -/
def LIM_CONFLICT : Nat := 0x40
def LIM_CONFLICT.THERMAL_FLOOR : Fld := ⟨0x40, 0, 16⟩
def LIM_CONFLICT.LANE_WEST : Fld := ⟨0x40, 16, 16⟩
def LIM_CONFLICT.LANE_EAST : Fld := ⟨0x40, 32, 16⟩

/-- LIM_CONFLICT_LAST (R791). -/
def LIM_CONFLICT_LAST : Nat := 0x48
def LIM_CONFLICT_LAST.SOURCE : Fld := ⟨0x48, 0, 4⟩
def LIM_CONFLICT_LAST.EPOCH : Fld := ⟨0x48, 32, 32⟩

/-- LIM_CFG (R791). -/
def LIM_CFG : Nat := 0x50
def LIM_CFG.BUSY_PCT : Fld := ⟨0x50, 0, 7⟩
def LIM_CFG.BE_CAP_PCT : Fld := ⟨0x50, 8, 7⟩
def LIM_CFG.FLASH_BUSY_PCT : Fld := ⟨0x50, 16, 7⟩

/-- LIM_THROTTLE (R791). -/
def LIM_THROTTLE : Nat := 0x58
def LIM_THROTTLE.BE_WINDOWS : Fld := ⟨0x58, 0, 32⟩
def LIM_THROTTLE.PROMO_DEFERRED : Fld := ⟨0x58, 32, 32⟩

/-- MKR_STATUS (R123). -/
def MKR_STATUS : Nat := 0x1000
def MKR_STATUS.PHASE : Fld := ⟨0x1000, 0, 8⟩
def MKR_STATUS.ERROR : Fld := ⟨0x1000, 8, 8⟩
def MKR_STATUS.RESET_CAUSE : Fld := ⟨0x1000, 16, 4⟩
def MKR_STATUS.READY : Fld := ⟨0x1000, 20, 1⟩
def MKR_STATUS.RETAINED : Fld := ⟨0x1000, 21, 1⟩
def MKR_STATUS.FW_SLOT : Fld := ⟨0x1000, 22, 1⟩
def MKR_STATUS.ENUM_DONE : Fld := ⟨0x1000, 23, 1⟩
def MKR_STATUS.STANDALONE : Fld := ⟨0x1000, 24, 1⟩
def MKR_STATUS.CFG_BAD : Fld := ⟨0x1000, 25, 1⟩
def MKR_STATUS.READY_US : Fld := ⟨0x1000, 32, 32⟩

/-- MKR_RESET_CTRL (R123). -/
def MKR_RESET_CTRL : Nat := 0x1008
def MKR_RESET_CTRL.RETAIN : Fld := ⟨0x1008, 0, 1⟩
def MKR_RESET_CTRL.KEY : Fld := ⟨0x1008, 8, 8⟩
def MKR_RESET_CTRL.WARM : Fld := ⟨0x1008, 16, 1⟩

/-- MKR_FW_STATUS (R123). -/
def MKR_FW_STATUS : Nat := 0x1010
def MKR_FW_STATUS.SLOT0_RESULT : Fld := ⟨0x1010, 0, 4⟩
def MKR_FW_STATUS.SLOT1_RESULT : Fld := ⟨0x1010, 4, 4⟩
def MKR_FW_STATUS.SVN_FLOOR : Fld := ⟨0x1010, 8, 8⟩
def MKR_FW_STATUS.IMAGE_VERSION : Fld := ⟨0x1010, 32, 32⟩

/-- MKR_CFG_STATUS (R123). -/
def MKR_CFG_STATUS : Nat := 0x1018
def MKR_CFG_STATUS.APPLIED : Fld := ⟨0x1018, 0, 16⟩
def MKR_CFG_STATUS.REJECTED : Fld := ⟨0x1018, 16, 16⟩

/-- MKR_BOOT_CFG (R123). -/
def MKR_BOOT_CFG : Nat := 0x1020
def MKR_BOOT_CFG.ENUM_WAIT_MS : Fld := ⟨0x1020, 0, 8⟩
def MKR_BOOT_CFG.WDOG_EN : Fld := ⟨0x1020, 8, 1⟩

/-- MKR_PHASE_TIME (R123). -/
def MKR_PHASE_TIME (n : Nat) : Nat := 0x1040 + 0x8 * n
def MKR_PHASE_TIME.TIME_US (n : Nat) : Fld := ⟨0x1040 + 0x8 * n, 0, 32⟩

/-- MKR_REC_ADDR (R123). -/
def MKR_REC_ADDR : Nat := 0x1100
def MKR_REC_ADDR.ADDR : Fld := ⟨0x1100, 0, 28⟩

/-- MKR_REC_DATA (R123). -/
def MKR_REC_DATA : Nat := 0x1108
def MKR_REC_DATA.DATA : Fld := ⟨0x1108, 0, 64⟩

/-- MKR_REC_CMD (R123). -/
def MKR_REC_CMD : Nat := 0x1110
def MKR_REC_CMD.OP : Fld := ⟨0x1110, 0, 2⟩
def MKR_REC_CMD.BUSY : Fld := ⟨0x1110, 8, 1⟩
def MKR_REC_CMD.DONE_ERR : Fld := ⟨0x1110, 9, 1⟩

/-- PKG_SMON_CFG (R88). -/
def PKG_SMON_CFG : Nat := 0x2000
def PKG_SMON_CFG.WARN_LEVEL : Fld := ⟨0x2000, 0, 8⟩
def PKG_SMON_CFG.PIN_EN : Fld := ⟨0x2000, 8, 1⟩

/-- PKG_SMON_STATUS (R88). -/
def PKG_SMON_STATUS : Nat := 0x2008
def PKG_SMON_STATUS.WARN : Fld := ⟨0x2008, 0, 1⟩
def PKG_SMON_STATUS.CLEARING : Fld := ⟨0x2008, 1, 1⟩
def PKG_SMON_STATUS.OPEN : Fld := ⟨0x2008, 2, 1⟩
def PKG_SMON_STATUS.WINDOW_COUNT : Fld := ⟨0x2008, 32, 32⟩

/-- PKG_SMON_START (R88). -/
def PKG_SMON_START : Nat := 0x2010
def PKG_SMON_START.COUNT : Fld := ⟨0x2010, 0, 64⟩

/-- PKG_SMON_END (R88). -/
def PKG_SMON_END : Nat := 0x2018
def PKG_SMON_END.COUNT : Fld := ⟨0x2018, 0, 64⟩

/-- PKG_SMON_MIN (R88). -/
def PKG_SMON_MIN : Nat := 0x2020
def PKG_SMON_MIN.MIN_MV : Fld := ⟨0x2020, 0, 16⟩

/-- PKG_THERM_CFG (R88). -/
def PKG_THERM_CFG : Nat := 0x2040
def PKG_THERM_CFG.WARN_C : Fld := ⟨0x2040, 0, 8⟩
def PKG_THERM_CFG.TARGET_C : Fld := ⟨0x2040, 8, 8⟩

/-- PKG_THERM_STATUS (R88). -/
def PKG_THERM_STATUS : Nat := 0x2048
def PKG_THERM_STATUS.HOTTEST : Fld := ⟨0x2048, 0, 8⟩
def PKG_THERM_STATUS.HOTTEST_ID : Fld := ⟨0x2048, 8, 5⟩
def PKG_THERM_STATUS.ABOVE_WARN : Fld := ⟨0x2048, 16, 1⟩
def PKG_THERM_STATUS.THROTTLING : Fld := ⟨0x2048, 17, 1⟩

/-- PKG_DVFS_CFG (R88). -/
def PKG_DVFS_CFG : Nat := 0x2100
def PKG_DVFS_CFG.PMB_ADDR : Fld := ⟨0x2100, 0, 7⟩
def PKG_DVFS_CFG.PMB_EN : Fld := ⟨0x2100, 7, 1⟩
def PKG_DVFS_CFG.SETTLE_US : Fld := ⟨0x2100, 8, 8⟩

/-- PKG_DVFS_CTRL (R88). -/
def PKG_DVFS_CTRL : Nat := 0x2108
def PKG_DVFS_CTRL.CEIL : Fld := ⟨0x2108, 0, 3⟩
def PKG_DVFS_CTRL.FLOOR : Fld := ⟨0x2108, 3, 3⟩

/-- PKG_DVFS_STATUS (R88). -/
def PKG_DVFS_STATUS : Nat := 0x2110
def PKG_DVFS_STATUS.POINT : Fld := ⟨0x2110, 0, 3⟩
def PKG_DVFS_STATUS.STEPPING : Fld := ⟨0x2110, 3, 1⟩
def PKG_DVFS_STATUS.THROTTLE_STEPS : Fld := ⟨0x2110, 32, 32⟩

/-- PKG_PFAIL_STATUS (R88). -/
def PKG_PFAIL_STATUS : Nat := 0x2120
def PKG_PFAIL_STATUS.PFAIL : Fld := ⟨0x2120, 0, 1⟩
def PKG_PFAIL_STATUS.FLUSH_ACTIVE : Fld := ⟨0x2120, 1, 1⟩
def PKG_PFAIL_STATUS.FLUSH_DONE : Fld := ⟨0x2120, 2, 1⟩

/-- PKG_THERM (R88). -/
def PKG_THERM (n : Nat) : Nat := 0x2200 + 0x8 * n
def PKG_THERM.TEMP (n : Nat) : Fld := ⟨0x2200 + 0x8 * n, 0, 8⟩

/-- HST_SQ_BASE (R173). -/
def HST_SQ_BASE (n : Nat) : Nat := 0x4000 + 0x40 * n
def HST_SQ_BASE.BASE (n : Nat) : Fld := ⟨0x4000 + 0x40 * n, 12, 52⟩

/-- HST_CQ_BASE (R173). -/
def HST_CQ_BASE (n : Nat) : Nat := 0x4008 + 0x40 * n
def HST_CQ_BASE.BASE (n : Nat) : Fld := ⟨0x4008 + 0x40 * n, 12, 52⟩

/-- HST_RING_CFG (R173). -/
def HST_RING_CFG (n : Nat) : Nat := 0x4010 + 0x40 * n
def HST_RING_CFG.SQ_LOG2 (n : Nat) : Fld := ⟨0x4010 + 0x40 * n, 0, 5⟩
def HST_RING_CFG.CQ_LOG2 (n : Nat) : Fld := ⟨0x4010 + 0x40 * n, 8, 5⟩
def HST_RING_CFG.CLASS (n : Nat) : Fld := ⟨0x4010 + 0x40 * n, 16, 2⟩
def HST_RING_CFG.PREVIEW (n : Nat) : Fld := ⟨0x4010 + 0x40 * n, 18, 1⟩
def HST_RING_CFG.VECTOR (n : Nat) : Fld := ⟨0x4010 + 0x40 * n, 24, 6⟩
def HST_RING_CFG.IRQ_EN (n : Nat) : Fld := ⟨0x4010 + 0x40 * n, 31, 1⟩

/-- HST_COAL (R173). -/
def HST_COAL (n : Nat) : Nat := 0x4018 + 0x40 * n
def HST_COAL.COUNT (n : Nat) : Fld := ⟨0x4018 + 0x40 * n, 0, 8⟩
def HST_COAL.TIMER_US (n : Nat) : Fld := ⟨0x4018 + 0x40 * n, 16, 10⟩

/-- HST_RING_CTRL (R173). -/
def HST_RING_CTRL (n : Nat) : Nat := 0x4020 + 0x40 * n
def HST_RING_CTRL.ENABLE (n : Nat) : Fld := ⟨0x4020 + 0x40 * n, 0, 1⟩
def HST_RING_CTRL.DRAIN (n : Nat) : Fld := ⟨0x4020 + 0x40 * n, 1, 1⟩
def HST_RING_CTRL.FLUSH (n : Nat) : Fld := ⟨0x4020 + 0x40 * n, 2, 1⟩

/-- HST_RING_STATUS (R173). -/
def HST_RING_STATUS (n : Nat) : Nat := 0x4028 + 0x40 * n
def HST_RING_STATUS.SQ_HEAD (n : Nat) : Fld := ⟨0x4028 + 0x40 * n, 0, 16⟩
def HST_RING_STATUS.CQ_TAIL (n : Nat) : Fld := ⟨0x4028 + 0x40 * n, 16, 16⟩
def HST_RING_STATUS.STATE (n : Nat) : Fld := ⟨0x4028 + 0x40 * n, 32, 2⟩
def HST_RING_STATUS.ERR_CAUSE (n : Nat) : Fld := ⟨0x4028 + 0x40 * n, 40, 4⟩
def HST_RING_STATUS.IN_FLIGHT (n : Nat) : Fld := ⟨0x4028 + 0x40 * n, 48, 7⟩

/-- HST_RING_COUNT (R173). -/
def HST_RING_COUNT (n : Nat) : Nat := 0x4030 + 0x40 * n
def HST_RING_COUNT.COMPLETED (n : Nat) : Fld := ⟨0x4030 + 0x40 * n, 0, 32⟩
def HST_RING_COUNT.DUPLICATES (n : Nat) : Fld := ⟨0x4030 + 0x40 * n, 32, 16⟩
def HST_RING_COUNT.REJECTED (n : Nat) : Fld := ⟨0x4030 + 0x40 * n, 48, 16⟩

/-- HST_SQ_DB (R173). -/
def HST_SQ_DB (n : Nat) : Nat := 0x5000 + 0x8 * n
def HST_SQ_DB.TAIL (n : Nat) : Fld := ⟨0x5000 + 0x8 * n, 0, 16⟩

/-- HST_CQ_DB (R173). -/
def HST_CQ_DB (n : Nat) : Nat := 0x5200 + 0x8 * n
def HST_CQ_DB.HEAD (n : Nat) : Fld := ⟨0x5200 + 0x8 * n, 0, 16⟩

/-- HST_ARB (R173). -/
def HST_ARB : Nat := 0x5400
def HST_ARB.OP_WEIGHT : Fld := ⟨0x5400, 0, 8⟩
def HST_ARB.BE_WEIGHT : Fld := ⟨0x5400, 8, 8⟩

/-- HST_BAR2_MAP (R173). -/
def HST_BAR2_MAP : Nat := 0x5408
def HST_BAR2_MAP.STOCK_BASE : Fld := ⟨0x5408, 0, 64⟩

/-- HST_BAR2_ERR (R173). -/
def HST_BAR2_ERR : Nat := 0x5410
def HST_BAR2_ERR.DROPPED_WRITES : Fld := ⟨0x5410, 0, 32⟩
def HST_BAR2_ERR.FAILED_READS : Fld := ⟨0x5410, 32, 32⟩

/-- GAL_COUNT (R218). -/
def GAL_COUNT (g : Nat) : Nat := 0x6000 + 0x20 * g
def GAL_COUNT.WORDS (g : Nat) : Fld := ⟨0x6000 + 0x20 * g, 0, 16⟩
def GAL_COUNT.STATE (g : Nat) : Fld := ⟨0x6000 + 0x20 * g, 16, 2⟩
def GAL_COUNT.PKT_IN (g : Nat) : Fld := ⟨0x6000 + 0x20 * g, 32, 32⟩

/-- GAL_PKT (R218). -/
def GAL_PKT (g : Nat) : Nat := 0x6008 + 0x20 * g
def GAL_PKT.PKT_OUT (g : Nat) : Fld := ⟨0x6008 + 0x20 * g, 0, 32⟩
def GAL_PKT.PKT_DROP (g : Nat) : Fld := ⟨0x6008 + 0x20 * g, 32, 32⟩

/-- GAL_CTRL (R218). -/
def GAL_CTRL (g : Nat) : Nat := 0x6010 + 0x20 * g
def GAL_CTRL.FLUSH (g : Nat) : Fld := ⟨0x6010 + 0x20 * g, 0, 1⟩

/-- GAL_CFG (R218). -/
def GAL_CFG (g : Nat) : Nat := 0x6018 + 0x20 * g
def GAL_CFG.MAX_ITEM (g : Nat) : Fld := ⟨0x6018 + 0x20 * g, 0, 16⟩
def GAL_CFG.MODE (g : Nat) : Fld := ⟨0x6018 + 0x20 * g, 16, 1⟩
def GAL_CFG.DEPTH (g : Nat) : Fld := ⟨0x6018 + 0x20 * g, 32, 16⟩

/-- GAL_FAULT (R218). -/
def GAL_FAULT : Nat := 0x6800
def GAL_FAULT.FAULTS : Fld := ⟨0x6800, 0, 16⟩
def GAL_FAULT.LAST_ID : Fld := ⟨0x6800, 16, 6⟩
def GAL_FAULT.LAST_SIDE : Fld := ⟨0x6800, 22, 1⟩

/-- GAL_CHECK (R218). -/
def GAL_CHECK : Nat := 0x6808
def GAL_CHECK.CORRECTED : Fld := ⟨0x6808, 0, 32⟩
def GAL_CHECK.UNCORRECTED : Fld := ⟨0x6808, 32, 32⟩

/-- GAL_HOST_TX_DATA (R218). -/
def GAL_HOST_TX_DATA : Nat := 0x6900
def GAL_HOST_TX_DATA.DATA : Fld := ⟨0x6900, 0, 64⟩

/-- GAL_HOST_TX_LAST (R218). -/
def GAL_HOST_TX_LAST : Nat := 0x6908
def GAL_HOST_TX_LAST.DATA : Fld := ⟨0x6908, 0, 64⟩

/-- GAL_HOST_RX_DATA (R218). -/
def GAL_HOST_RX_DATA : Nat := 0x6910
def GAL_HOST_RX_DATA.DATA : Fld := ⟨0x6910, 0, 64⟩

/-- GAL_HOST_RX_FLAGS (R218). -/
def GAL_HOST_RX_FLAGS : Nat := 0x6918
def GAL_HOST_RX_FLAGS.VALID : Fld := ⟨0x6918, 0, 1⟩
def GAL_HOST_RX_FLAGS.END : Fld := ⟨0x6918, 1, 1⟩
def GAL_HOST_RX_FLAGS.ABORT : Fld := ⟨0x6918, 2, 1⟩
def GAL_HOST_RX_FLAGS.POISON : Fld := ⟨0x6918, 3, 1⟩
def GAL_HOST_RX_FLAGS.TX_OVERRUN : Fld := ⟨0x6918, 32, 32⟩

/-- GAL_XING (R218). -/
def GAL_XING (x : Nat) : Nat := 0x6A00 + 0x8 * x
def GAL_XING.CORRECTED (x : Nat) : Fld := ⟨0x6A00 + 0x8 * x, 0, 32⟩
def GAL_XING.UNCORRECTED (x : Nat) : Fld := ⟨0x6A00 + 0x8 * x, 32, 16⟩
def GAL_XING.MERGED (x : Nat) : Fld := ⟨0x6A00 + 0x8 * x, 48, 16⟩

/-- DTL_COUNT (R278). -/
def DTL_COUNT : Nat := 0x7000
def DTL_COUNT.COUNT : Fld := ⟨0x7000, 0, 64⟩

/-- DTL_ANCHOR (R278). -/
def DTL_ANCHOR : Nat := 0x7008
def DTL_ANCHOR.ANCHOR : Fld := ⟨0x7008, 0, 64⟩

/-- DTL_RATE (R278). -/
def DTL_RATE : Nat := 0x7010
def DTL_RATE.RATE : Fld := ⟨0x7010, 0, 64⟩

/-- DTL_OFFSET_S (R278). -/
def DTL_OFFSET_S : Nat := 0x7018
def DTL_OFFSET_S.SEC : Fld := ⟨0x7018, 0, 48⟩
def DTL_OFFSET_S.VALID : Fld := ⟨0x7018, 63, 1⟩

/-- DTL_OFFSET_NS (R278). -/
def DTL_OFFSET_NS : Nat := 0x7020
def DTL_OFFSET_NS.FRAC : Fld := ⟨0x7020, 0, 16⟩
def DTL_OFFSET_NS.NS : Fld := ⟨0x7020, 16, 32⟩

/-- DTL_CAPTURE (R278). -/
def DTL_CAPTURE : Nat := 0x7028
def DTL_CAPTURE.GO : Fld := ⟨0x7028, 0, 1⟩

/-- DTL_CAP_COUNT (R278). -/
def DTL_CAP_COUNT : Nat := 0x7030
def DTL_CAP_COUNT.COUNT : Fld := ⟨0x7030, 0, 64⟩

/-- DTL_CAP_S (R278). -/
def DTL_CAP_S : Nat := 0x7038
def DTL_CAP_S.SEC : Fld := ⟨0x7038, 0, 48⟩
def DTL_CAP_S.VALID : Fld := ⟨0x7038, 63, 1⟩

/-- DTL_CAP_NS (R278). -/
def DTL_CAP_NS : Nat := 0x7040
def DTL_CAP_NS.FRAC : Fld := ⟨0x7040, 0, 16⟩
def DTL_CAP_NS.NS : Fld := ⟨0x7040, 16, 32⟩

/-- DTL_SET_S (R278). -/
def DTL_SET_S : Nat := 0x7048
def DTL_SET_S.SEC : Fld := ⟨0x7048, 0, 48⟩

/-- DTL_SET_NS (R278). -/
def DTL_SET_NS : Nat := 0x7050
def DTL_SET_NS.NS : Fld := ⟨0x7050, 0, 30⟩

/-- DTL_CTRL (R278). -/
def DTL_CTRL : Nat := 0x7058
def DTL_CTRL.SET : Fld := ⟨0x7058, 0, 1⟩
def DTL_CTRL.AT_PPS : Fld := ⟨0x7058, 1, 1⟩
def DTL_CTRL.UNSET : Fld := ⟨0x7058, 2, 1⟩

/-- DTL_SLEW (R278). -/
def DTL_SLEW : Nat := 0x7060
def DTL_SLEW.DELTA : Fld := ⟨0x7060, 0, 64⟩

/-- DTL_SLEW_CFG (R278). -/
def DTL_SLEW_CFG : Nat := 0x7068
def DTL_SLEW_CFG.SLEW_MAX : Fld := ⟨0x7068, 0, 10⟩
def DTL_SLEW_CFG.FGAIN : Fld := ⟨0x7068, 16, 4⟩
def DTL_SLEW_CFG.SERVO_EN : Fld := ⟨0x7068, 20, 1⟩

/-- DTL_SLEW_REMAIN (R278). -/
def DTL_SLEW_REMAIN : Nat := 0x7070
def DTL_SLEW_REMAIN.REMAIN : Fld := ⟨0x7070, 0, 64⟩

/-- DTL_STATE (R278). -/
def DTL_STATE : Nat := 0x7078
def DTL_STATE.STATE : Fld := ⟨0x7078, 0, 2⟩
def DTL_STATE.SELECTED : Fld := ⟨0x7078, 2, 2⟩
def DTL_STATE.TARGET : Fld := ⟨0x7078, 4, 2⟩
def DTL_STATE.REBASED : Fld := ⟨0x7078, 6, 1⟩
def DTL_STATE.ARMED : Fld := ⟨0x7078, 7, 1⟩
def DTL_STATE.COMMITS : Fld := ⟨0x7078, 32, 16⟩
def DTL_STATE.CANCELS : Fld := ⟨0x7078, 48, 16⟩

/-- DTL_SEL_CFG (R278). -/
def DTL_SEL_CFG : Nat := 0x7080
def DTL_SEL_CFG.PRIO_0 : Fld := ⟨0x7080, 0, 2⟩
def DTL_SEL_CFG.PRIO_1 : Fld := ⟨0x7080, 2, 2⟩
def DTL_SEL_CFG.PRIO_2 : Fld := ⟨0x7080, 4, 2⟩
def DTL_SEL_CFG.REF_EN : Fld := ⟨0x7080, 6, 3⟩
def DTL_SEL_CFG.REF_HOLDOFF : Fld := ⟨0x7080, 16, 16⟩
def DTL_SEL_CFG.SWITCH_MEAS : Fld := ⟨0x7080, 32, 16⟩

/-- DTL_REF_CFG (R278). -/
def DTL_REF_CFG (r : Nat) : Nat := 0x7088 + 0x8 * r
def DTL_REF_CFG.QUAL_N (r : Nat) : Fld := ⟨0x7088 + 0x8 * r, 0, 8⟩
def DTL_REF_CFG.QUAL_NS (r : Nat) : Fld := ⟨0x7088 + 0x8 * r, 16, 16⟩
def DTL_REF_CFG.LOSS_MS (r : Nat) : Fld := ⟨0x7088 + 0x8 * r, 32, 16⟩

/-- DTL_REF_STAT (R278). -/
def DTL_REF_STAT (r : Nat) : Nat := 0x70A0 + 0x8 * r
def DTL_REF_STAT.RSTATE (r : Nat) : Fld := ⟨0x70A0 + 0x8 * r, 0, 2⟩
def DTL_REF_STAT.GOOD (r : Nat) : Fld := ⟨0x70A0 + 0x8 * r, 8, 8⟩
def DTL_REF_STAT.THETA (r : Nat) : Fld := ⟨0x70A0 + 0x8 * r, 32, 32⟩

/-- DTL_RATE_STAT (R278). -/
def DTL_RATE_STAT : Nat := 0x70C0
def DTL_RATE_STAT.CLAMPED : Fld := ⟨0x70C0, 0, 32⟩
def DTL_RATE_STAT.HOST_IGNORED : Fld := ⟨0x70C0, 32, 32⟩

/-- DTL_PPS_OUT (R278). -/
def DTL_PPS_OUT : Nat := 0x7100
def DTL_PPS_OUT.EN : Fld := ⟨0x7100, 0, 1⟩
def DTL_PPS_OUT.LOCKED_ONLY : Fld := ⟨0x7100, 1, 1⟩
def DTL_PPS_OUT.WIDTH_MS : Fld := ⟨0x7100, 8, 10⟩

/-- DTL_PPS_IN (R278). -/
def DTL_PPS_IN : Nat := 0x7108
def DTL_PPS_IN.SUB : Fld := ⟨0x7108, 0, 3⟩
def DTL_PPS_IN.COUNT : Fld := ⟨0x7108, 3, 58⟩
def DTL_PPS_IN.RISE : Fld := ⟨0x7108, 61, 1⟩
def DTL_PPS_IN.OVF : Fld := ⟨0x7108, 62, 1⟩
def DTL_PPS_IN.VALID : Fld := ⟨0x7108, 63, 1⟩

/-- DTL_EVT_CFG (R278). -/
def DTL_EVT_CFG (n : Nat) : Nat := 0x7200 + 0x8 * n
def DTL_EVT_CFG.EDGE (n : Nat) : Fld := ⟨0x7200 + 0x8 * n, 0, 2⟩
def DTL_EVT_CFG.LOST (n : Nat) : Fld := ⟨0x7200 + 0x8 * n, 32, 32⟩

/-- DTL_EVT (R278). -/
def DTL_EVT (n : Nat) : Nat := 0x7300 + 0x8 * n
def DTL_EVT.SUB (n : Nat) : Fld := ⟨0x7300 + 0x8 * n, 0, 3⟩
def DTL_EVT.COUNT (n : Nat) : Fld := ⟨0x7300 + 0x8 * n, 3, 58⟩
def DTL_EVT.RISE (n : Nat) : Fld := ⟨0x7300 + 0x8 * n, 61, 1⟩
def DTL_EVT.OVF (n : Nat) : Fld := ⟨0x7300 + 0x8 * n, 62, 1⟩
def DTL_EVT.VALID (n : Nat) : Fld := ⟨0x7300 + 0x8 * n, 63, 1⟩

/-- DTL_TRG_STAT (R278). -/
def DTL_TRG_STAT (t : Nat) : Nat := 0x7400 + 0x8 * t
def DTL_TRG_STAT.HELD (t : Nat) : Fld := ⟨0x7400 + 0x8 * t, 0, 3⟩
def DTL_TRG_STAT.LEVEL (t : Nat) : Fld := ⟨0x7400 + 0x8 * t, 3, 1⟩
def DTL_TRG_STAT.SKIPPED (t : Nat) : Fld := ⟨0x7400 + 0x8 * t, 32, 32⟩

/-- DTL_EPOCH_CFG (R278). -/
def DTL_EPOCH_CFG : Nat := 0x7480
def DTL_EPOCH_CFG.PERIOD_US : Fld := ⟨0x7480, 0, 17⟩
def DTL_EPOCH_CFG.REF_OFS_US : Fld := ⟨0x7480, 32, 17⟩
def DTL_EPOCH_CFG.EN : Fld := ⟨0x7480, 63, 1⟩

/-- DTL_EPOCH_START_S (R278). -/
def DTL_EPOCH_START_S : Nat := 0x7488
def DTL_EPOCH_START_S.SEC : Fld := ⟨0x7488, 0, 48⟩

/-- DTL_EPOCH_START_NS (R278). -/
def DTL_EPOCH_START_NS : Nat := 0x7490
def DTL_EPOCH_START_NS.NS : Fld := ⟨0x7490, 0, 30⟩

/-- DTL_EPOCH_FIRST (R278). -/
def DTL_EPOCH_FIRST : Nat := 0x7498
def DTL_EPOCH_FIRST.FIRST : Fld := ⟨0x7498, 0, 32⟩

/-- DTL_EPOCH_NOW (R278). -/
def DTL_EPOCH_NOW : Nat := 0x74A0
def DTL_EPOCH_NOW.NUMBER : Fld := ⟨0x74A0, 0, 32⟩
def DTL_EPOCH_NOW.RUNNING : Fld := ⟨0x74A0, 32, 1⟩
def DTL_EPOCH_NOW.SKIPPED : Fld := ⟨0x74A0, 48, 16⟩

/-- DTL_CONV_COUNT (R278). -/
def DTL_CONV_COUNT : Nat := 0x74A8
def DTL_CONV_COUNT.COUNT : Fld := ⟨0x74A8, 0, 64⟩

/-- DTL_CONV_S (R278). -/
def DTL_CONV_S : Nat := 0x74B0
def DTL_CONV_S.SEC : Fld := ⟨0x74B0, 0, 48⟩
def DTL_CONV_S.VALID : Fld := ⟨0x74B0, 63, 1⟩

/-- DTL_CONV_NS (R278). -/
def DTL_CONV_NS : Nat := 0x74B8
def DTL_CONV_NS.FRAC : Fld := ⟨0x74B8, 0, 16⟩
def DTL_CONV_NS.NS : Fld := ⟨0x74B8, 16, 32⟩

/-- PTP_PORT_CFG (R311). -/
def PTP_PORT_CFG (p : Nat) : Nat := 0x8000 + 0x100 * p
def PTP_PORT_CFG.PORT_EN (p : Nat) : Fld := ⟨0x8000 + 0x100 * p, 0, 1⟩
def PTP_PORT_CFG.ROLE (p : Nat) : Fld := ⟨0x8000 + 0x100 * p, 1, 2⟩
def PTP_PORT_CFG.L2_EN (p : Nat) : Fld := ⟨0x8000 + 0x100 * p, 3, 1⟩
def PTP_PORT_CFG.IPV4_EN (p : Nat) : Fld := ⟨0x8000 + 0x100 * p, 4, 1⟩
def PTP_PORT_CFG.IPV6_EN (p : Nat) : Fld := ⟨0x8000 + 0x100 * p, 5, 1⟩
def PTP_PORT_CFG.DOMAIN (p : Nat) : Fld := ⟨0x8000 + 0x100 * p, 8, 8⟩
def PTP_PORT_CFG.SYNC_LOG (p : Nat) : Fld := ⟨0x8000 + 0x100 * p, 16, 4⟩
def PTP_PORT_CFG.ANN_LOG (p : Nat) : Fld := ⟨0x8000 + 0x100 * p, 20, 4⟩
def PTP_PORT_CFG.CLASS_LOCKED (p : Nat) : Fld := ⟨0x8000 + 0x100 * p, 24, 8⟩
def PTP_PORT_CFG.CLASS_OTHER (p : Nat) : Fld := ⟨0x8000 + 0x100 * p, 32, 8⟩

/-- PTP_LAT (R311). -/
def PTP_LAT (p : Nat) : Nat := 0x8008 + 0x100 * p
def PTP_LAT.TX_LAT_PS (p : Nat) : Fld := ⟨0x8008 + 0x100 * p, 0, 20⟩
def PTP_LAT.RX_LAT_PS (p : Nat) : Fld := ⟨0x8008 + 0x100 * p, 32, 20⟩

/-- PTP_STAT (R311). -/
def PTP_STAT (p : Nat) : Nat := 0x8010 + 0x100 * p
def PTP_STAT.RX_STAMPED (p : Nat) : Fld := ⟨0x8010 + 0x100 * p, 0, 32⟩
def PTP_STAT.TX_STAMPED (p : Nat) : Fld := ⟨0x8010 + 0x100 * p, 32, 32⟩

/-- PTP_ERR (R311). -/
def PTP_ERR (p : Nat) : Nat := 0x8018 + 0x100 * p
def PTP_ERR.ONESTEP_REFUSED (p : Nat) : Fld := ⟨0x8018 + 0x100 * p, 0, 12⟩
def PTP_ERR.DROPPED (p : Nat) : Fld := ⟨0x8018 + 0x100 * p, 12, 12⟩
def PTP_ERR.TOO_LONG (p : Nat) : Fld := ⟨0x8018 + 0x100 * p, 24, 12⟩
def PTP_ERR.TX_STAMP_LOST (p : Nat) : Fld := ⟨0x8018 + 0x100 * p, 36, 12⟩
def PTP_ERR.CFG_ERR (p : Nat) : Fld := ⟨0x8018 + 0x100 * p, 48, 1⟩

/-- PTP_PAIR_CFG (R311). -/
def PTP_PAIR_CFG (q : Nat) : Nat := 0x8400 + 0x40 * q
def PTP_PAIR_CFG.TC_EN (q : Nat) : Fld := ⟨0x8400 + 0x40 * q, 0, 1⟩

/-- PTP_PAIR_STAT (R311). -/
def PTP_PAIR_STAT (q : Nat) : Nat := 0x8408 + 0x40 * q
def PTP_PAIR_STAT.CORRECTED (q : Nat) : Fld := ⟨0x8408 + 0x40 * q, 0, 32⟩
def PTP_PAIR_STAT.UNCORRECTED (q : Nat) : Fld := ⟨0x8408 + 0x40 * q, 32, 16⟩
def PTP_PAIR_STAT.FWD_DROP (q : Nat) : Fld := ⟨0x8408 + 0x40 * q, 48, 16⟩

/-- PTP_PAIR_RES (R311). -/
def PTP_PAIR_RES (q : Nat) : Nat := 0x8410 + 0x40 * q
def PTP_PAIR_RES.MAX_RES_NS (q : Nat) : Fld := ⟨0x8410 + 0x40 * q, 0, 32⟩

/-- ING_CAM_CFG (R361). -/
def ING_CAM_CFG (p : Nat) : Nat := 0xA000 + 0x40 * p
def ING_CAM_CFG.EN (p : Nat) : Fld := ⟨0xA000 + 0x40 * p, 0, 1⟩
def ING_CAM_CFG.LANES (p : Nat) : Fld := ⟨0xA000 + 0x40 * p, 1, 3⟩

/-- ING_CAM_VC (R361). -/
def ING_CAM_VC (p : Nat) (v : Nat) : Nat := 0xA008 + 0x40 * p + 0x8 * v
def ING_CAM_VC.EN (p : Nat) (v : Nat) : Fld := ⟨0xA008 + 0x40 * p + 0x8 * v, 0, 1⟩
def ING_CAM_VC.DT (p : Nat) (v : Nat) : Fld := ⟨0xA008 + 0x40 * p + 0x8 * v, 8, 6⟩
def ING_CAM_VC.PAT_EN (p : Nat) (v : Nat) : Fld := ⟨0xA008 + 0x40 * p + 0x8 * v, 14, 1⟩
def ING_CAM_VC.LINES (p : Nat) (v : Nat) : Fld := ⟨0xA008 + 0x40 * p + 0x8 * v, 16, 16⟩

/-- ING_CAM_ERR (R361). -/
def ING_CAM_ERR (p : Nat) : Nat := 0xA028 + 0x40 * p
def ING_CAM_ERR.ECC_FIXED (p : Nat) : Fld := ⟨0xA028 + 0x40 * p, 0, 16⟩
def ING_CAM_ERR.ECC_DROP (p : Nat) : Fld := ⟨0xA028 + 0x40 * p, 16, 16⟩
def ING_CAM_ERR.CRC_DROP (p : Nat) : Fld := ⟨0xA028 + 0x40 * p, 32, 16⟩
def ING_CAM_ERR.SOT_ERR (p : Nat) : Fld := ⟨0xA028 + 0x40 * p, 48, 16⟩

/-- ING_CAM_ERR2 (R361). -/
def ING_CAM_ERR2 (p : Nat) : Nat := 0xA030 + 0x40 * p
def ING_CAM_ERR2.SYNC_ERR (p : Nat) : Fld := ⟨0xA030 + 0x40 * p, 0, 10⟩
def ING_CAM_ERR2.FRAME_GAP (p : Nat) : Fld := ⟨0xA030 + 0x40 * p, 10, 10⟩
def ING_CAM_ERR2.VC_OFF (p : Nat) : Fld := ⟨0xA030 + 0x40 * p, 20, 10⟩
def ING_CAM_ERR2.DT_SKIP (p : Nat) : Fld := ⟨0xA030 + 0x40 * p, 30, 10⟩
def ING_CAM_ERR2.LONG (p : Nat) : Fld := ⟨0xA030 + 0x40 * p, 40, 12⟩
def ING_CAM_ERR2.FULL (p : Nat) : Fld := ⟨0xA030 + 0x40 * p, 52, 12⟩

/-- ING_CAM_PAT (R361). -/
def ING_CAM_PAT (p : Nat) : Nat := 0xA038 + 0x40 * p
def ING_CAM_PAT.PAT_SENT (p : Nat) : Fld := ⟨0xA038 + 0x40 * p, 0, 32⟩
def ING_CAM_PAT.PAT_CUT (p : Nat) : Fld := ⟨0xA038 + 0x40 * p, 32, 16⟩
def ING_CAM_PAT.PAT_SKIP (p : Nat) : Fld := ⟨0xA038 + 0x40 * p, 48, 16⟩

/-- ING_ENC_CFG (R361). -/
def ING_ENC_CFG (n : Nat) : Nat := 0xA200 + 0x20 * n
def ING_ENC_CFG.EN (n : Nat) : Fld := ⟨0xA200 + 0x20 * n, 0, 1⟩
def ING_ENC_CFG.DIR (n : Nat) : Fld := ⟨0xA200 + 0x20 * n, 1, 1⟩
def ING_ENC_CFG.Z_RESET (n : Nat) : Fld := ⟨0xA200 + 0x20 * n, 2, 1⟩
def ING_ENC_CFG.Z_GATE (n : Nat) : Fld := ⟨0xA200 + 0x20 * n, 3, 1⟩
def ING_ENC_CFG.FILT (n : Nat) : Fld := ⟨0xA200 + 0x20 * n, 4, 4⟩
def ING_ENC_CFG.PERIOD_US (n : Nat) : Fld := ⟨0xA200 + 0x20 * n, 16, 14⟩

/-- ING_ENC_POS (R361). -/
def ING_ENC_POS (n : Nat) : Nat := 0xA208 + 0x20 * n
def ING_ENC_POS.POS (n : Nat) : Fld := ⟨0xA208 + 0x20 * n, 0, 32⟩

/-- ING_ENC_ZPOS (R361). -/
def ING_ENC_ZPOS (n : Nat) : Nat := 0xA210 + 0x20 * n
def ING_ENC_ZPOS.ZPOS (n : Nat) : Fld := ⟨0xA210 + 0x20 * n, 0, 32⟩

/-- ING_ENC_ERR (R361). -/
def ING_ENC_ERR (n : Nat) : Nat := 0xA218 + 0x20 * n
def ING_ENC_ERR.ILLEGAL (n : Nat) : Fld := ⟨0xA218 + 0x20 * n, 0, 32⟩
def ING_ENC_ERR.FULL (n : Nat) : Fld := ⟨0xA218 + 0x20 * n, 32, 32⟩

/-- ING_IMU_CFG (R361). -/
def ING_IMU_CFG (i : Nat) : Nat := 0xA300 + 0x100 * i
def ING_IMU_CFG.EN (i : Nat) : Fld := ⟨0xA300 + 0x100 * i, 0, 1⟩
def ING_IMU_CFG.MODE3 (i : Nat) : Fld := ⟨0xA300 + 0x100 * i, 1, 1⟩
def ING_IMU_CFG.TRIG (i : Nat) : Fld := ⟨0xA300 + 0x100 * i, 2, 1⟩
def ING_IMU_CFG.DRDY_FALL (i : Nat) : Fld := ⟨0xA300 + 0x100 * i, 3, 1⟩
def ING_IMU_CFG.DIV (i : Nat) : Fld := ⟨0xA300 + 0x100 * i, 8, 8⟩
def ING_IMU_CFG.PERIOD_US (i : Nat) : Fld := ⟨0xA300 + 0x100 * i, 16, 14⟩

/-- ING_IMU_STAT (R361). -/
def ING_IMU_STAT (i : Nat) : Nat := 0xA308 + 0x100 * i
def ING_IMU_STAT.OVERRUN (i : Nat) : Fld := ⟨0xA308 + 0x100 * i, 0, 16⟩
def ING_IMU_STAT.FULL (i : Nat) : Fld := ⟨0xA308 + 0x100 * i, 16, 16⟩
def ING_IMU_STAT.LONG (i : Nat) : Fld := ⟨0xA308 + 0x100 * i, 32, 16⟩
def ING_IMU_STAT.BUSY (i : Nat) : Fld := ⟨0xA308 + 0x100 * i, 48, 1⟩

/-- ING_IMU_SCRIPT (R361). -/
def ING_IMU_SCRIPT (i : Nat) (k : Nat) : Nat := 0xA380 + 0x100 * i + 0x8 * k
def ING_IMU_SCRIPT.STEP (i : Nat) (k : Nat) : Fld := ⟨0xA380 + 0x100 * i + 0x8 * k, 0, 64⟩

/-- ING_ETH_CFG (R361). -/
def ING_ETH_CFG (p : Nat) : Nat := 0xA600 + 0x40 * p
def ING_ETH_CFG.EN (p : Nat) : Fld := ⟨0xA600 + 0x40 * p, 0, 1⟩
def ING_ETH_CFG.SPEED (p : Nat) : Fld := ⟨0xA600 + 0x40 * p, 1, 1⟩

/-- ING_ETH_MAC (R361). -/
def ING_ETH_MAC (p : Nat) : Nat := 0xA608 + 0x40 * p
def ING_ETH_MAC.MAC (p : Nat) : Fld := ⟨0xA608 + 0x40 * p, 0, 48⟩

/-- ING_ETH_ERR (R361). -/
def ING_ETH_ERR (p : Nat) : Nat := 0xA610 + 0x40 * p
def ING_ETH_ERR.FCS_DROP (p : Nat) : Fld := ⟨0xA610 + 0x40 * p, 0, 16⟩
def ING_ETH_ERR.BAD_LEN (p : Nat) : Fld := ⟨0xA610 + 0x40 * p, 16, 16⟩
def ING_ETH_ERR.NO_MATCH (p : Nat) : Fld := ⟨0xA610 + 0x40 * p, 32, 16⟩
def ING_ETH_ERR.TIME_ERR (p : Nat) : Fld := ⟨0xA610 + 0x40 * p, 48, 16⟩

/-- ING_ETH_ERR2 (R361). -/
def ING_ETH_ERR2 (p : Nat) : Nat := 0xA618 + 0x40 * p
def ING_ETH_ERR2.FULL (p : Nat) : Fld := ⟨0xA618 + 0x40 * p, 0, 16⟩
def ING_ETH_ERR2.LONG (p : Nat) : Fld := ⟨0xA618 + 0x40 * p, 16, 16⟩
def ING_ETH_ERR2.CLAMPED (p : Nat) : Fld := ⟨0xA618 + 0x40 * p, 32, 16⟩
def ING_ETH_ERR2.PAT_SKIP (p : Nat) : Fld := ⟨0xA618 + 0x40 * p, 48, 16⟩

/-- ING_MDIO (R361). -/
def ING_MDIO : Nat := 0xA700
def ING_MDIO.DATA : Fld := ⟨0xA700, 0, 16⟩
def ING_MDIO.DEVAD : Fld := ⟨0xA700, 16, 5⟩
def ING_MDIO.PRTAD : Fld := ⟨0xA700, 21, 5⟩
def ING_MDIO.OP : Fld := ⟨0xA700, 26, 2⟩
def ING_MDIO.BUSY : Fld := ⟨0xA700, 31, 1⟩

/-- ING_SENSOR (R361). -/
def ING_SENSOR (s : Nat) : Nat := 0xA800 + 0x8 * s
def ING_SENSOR.COV_MIN (s : Nat) : Fld := ⟨0xA800 + 0x8 * s, 0, 14⟩
def ING_SENSOR.SILENT_N (s : Nat) : Fld := ⟨0xA800 + 0x8 * s, 16, 8⟩
def ING_SENSOR.ENABLED (s : Nat) : Fld := ⟨0xA800 + 0x8 * s, 31, 1⟩

/-- ING_COV_BASE (R361). -/
def ING_COV_BASE : Nat := 0xA9E0
def ING_COV_BASE.BASE : Fld := ⟨0xA9E0, 0, 64⟩

/-- ING_COV_CFG (R361). -/
def ING_COV_CFG : Nat := 0xA9E8
def ING_COV_CFG.EN : Fld := ⟨0xA9E8, 0, 1⟩
def ING_COV_CFG.LOG2 : Fld := ⟨0xA9E8, 8, 4⟩

/-- ING_COV_LAST (R361). -/
def ING_COV_LAST : Nat := 0xA9F0
def ING_COV_LAST.LAST : Fld := ⟨0xA9F0, 0, 32⟩

/-- ING_PAT_CFG (R361). -/
def ING_PAT_CFG : Nat := 0xA9F8
def ING_PAT_CFG.PAT_WORDS : Fld := ⟨0xA9F8, 0, 9⟩

/-- ING_TPL (R361). -/
def ING_TPL (t : Nat) (k : Nat) : Nat := 0xB000 + 0x100 * t + 0x8 * k
def ING_TPL.WORD (t : Nat) (k : Nat) : Fld := ⟨0xB000 + 0x100 * t + 0x8 * k, 0, 64⟩

/-- RGS_GRID_CFG (R422). -/
def RGS_GRID_CFG : Nat := 0xC000
def RGS_GRID_CFG.VOX_LOG2 : Fld := ⟨0xC000, 0, 3⟩
def RGS_GRID_CFG.EXTENT_LOG2 : Fld := ⟨0xC000, 8, 4⟩
def RGS_GRID_CFG.HASH_LOG2 : Fld := ⟨0xC000, 16, 5⟩
def RGS_GRID_CFG.PROBE_MAX : Fld := ⟨0xC000, 24, 4⟩
def RGS_GRID_CFG.GRID_EN : Fld := ⟨0xC000, 63, 1⟩

/-- RGS_ORIGIN_XY (R422). -/
def RGS_ORIGIN_XY : Nat := 0xC008
def RGS_ORIGIN_XY.X : Fld := ⟨0xC008, 0, 32⟩
def RGS_ORIGIN_XY.Y : Fld := ⟨0xC008, 32, 32⟩

/-- RGS_ORIGIN_Z (R422). -/
def RGS_ORIGIN_Z : Nat := 0xC010
def RGS_ORIGIN_Z.Z : Fld := ⟨0xC010, 0, 32⟩

/-- RGS_DIR_BASE (R422). -/
def RGS_DIR_BASE : Nat := 0xC018
def RGS_DIR_BASE.BASE : Fld := ⟨0xC018, 0, 64⟩

/-- RGS_POOL_BASE (R422). -/
def RGS_POOL_BASE : Nat := 0xC020
def RGS_POOL_BASE.BASE : Fld := ⟨0xC020, 0, 64⟩

/-- RGS_POOL_CFG (R422). -/
def RGS_POOL_CFG : Nat := 0xC028
def RGS_POOL_CFG.POOL_BRICKS : Fld := ⟨0xC028, 0, 21⟩
def RGS_POOL_CFG.FREE : Fld := ⟨0xC028, 32, 21⟩

/-- RGS_DIRTY_BASE (R422). -/
def RGS_DIRTY_BASE : Nat := 0xC030
def RGS_DIRTY_BASE.BASE : Fld := ⟨0xC030, 0, 64⟩

/-- RGS_CAL_BASE (R422). -/
def RGS_CAL_BASE : Nat := 0xC038
def RGS_CAL_BASE.BASE : Fld := ⟨0xC038, 0, 64⟩

/-- RGS_CAL_CTRL (R422). -/
def RGS_CAL_CTRL : Nat := 0xC040
def RGS_CAL_CTRL.LOAD : Fld := ⟨0xC040, 0, 1⟩
def RGS_CAL_CTRL.BUSY : Fld := ⟨0xC040, 1, 1⟩
def RGS_CAL_CTRL.CAL_ERR : Fld := ⟨0xC040, 2, 1⟩
def RGS_CAL_CTRL.ERR_SLOT : Fld := ⟨0xC040, 8, 6⟩
def RGS_CAL_CTRL.ERR_CAUSE : Fld := ⟨0xC040, 16, 3⟩
def RGS_CAL_CTRL.LOADED_EPOCH : Fld := ⟨0xC040, 32, 32⟩

/-- RGS_POSE_BASE (R422). -/
def RGS_POSE_BASE : Nat := 0xC048
def RGS_POSE_BASE.BASE : Fld := ⟨0xC048, 0, 64⟩

/-- RGS_POSE_HEAD (R422). -/
def RGS_POSE_HEAD : Nat := 0xC050
def RGS_POSE_HEAD.HEAD_0 : Fld := ⟨0xC050, 0, 4⟩
def RGS_POSE_HEAD.HEAD_1 : Fld := ⟨0xC050, 4, 4⟩

/-- RGS_UPDATE_CFG (R422). -/
def RGS_UPDATE_CFG : Nat := 0xC058
def RGS_UPDATE_CFG.MISS_VOXELS : Fld := ⟨0xC058, 0, 4⟩
def RGS_UPDATE_CFG.L_MIN : Fld := ⟨0xC058, 8, 8⟩
def RGS_UPDATE_CFG.L_MAX : Fld := ⟨0xC058, 16, 8⟩
def RGS_UPDATE_CFG.COLOUR_SHIFT : Fld := ⟨0xC058, 24, 3⟩
def RGS_UPDATE_CFG.NORMAL_SHIFT : Fld := ⟨0xC058, 28, 3⟩
def RGS_UPDATE_CFG.COLOUR_WIN_US : Fld := ⟨0xC058, 32, 16⟩

/-- RGS_MOTION_CFG (R422). -/
def RGS_MOTION_CFG : Nat := 0xC060
def RGS_MOTION_CFG.ROT_MAX : Fld := ⟨0xC060, 0, 16⟩
def RGS_MOTION_CFG.POSE_MAX_US : Fld := ⟨0xC060, 16, 16⟩
def RGS_MOTION_CFG.ENC_STALE_US : Fld := ⟨0xC060, 32, 16⟩

/-- RGS_CLOSE_CFG (R422). -/
def RGS_CLOSE_CFG : Nat := 0xC068
def RGS_CLOSE_CFG.GRACE_US : Fld := ⟨0xC068, 0, 10⟩
def RGS_CLOSE_CFG.HOLD_US : Fld := ⟨0xC068, 16, 16⟩
def RGS_CLOSE_CFG.SWEEP_EPOCHS : Fld := ⟨0xC068, 32, 16⟩

/-- RGS_POLICY_LO (R422). -/
def RGS_POLICY_LO : Nat := 0xC070
def RGS_POLICY_LO.POLICY : Fld := ⟨0xC070, 0, 64⟩

/-- RGS_POLICY_HI (R422). -/
def RGS_POLICY_HI : Nat := 0xC078
def RGS_POLICY_HI.POLICY : Fld := ⟨0xC078, 0, 56⟩

/-- RGS_SEED (R422). -/
def RGS_SEED : Nat := 0xC080
def RGS_SEED.SEED : Fld := ⟨0xC080, 0, 64⟩

/-- RGS_SCREEN_CTRL (R422). -/
def RGS_SCREEN_CTRL : Nat := 0xC088
def RGS_SCREEN_CTRL.RESEED : Fld := ⟨0xC088, 0, 1⟩
def RGS_SCREEN_CTRL.WRAPS : Fld := ⟨0xC088, 32, 32⟩

/-- RGS_EPOCH_STAT (R422). -/
def RGS_EPOCH_STAT : Nat := 0xC090
def RGS_EPOCH_STAT.LAST_FINAL : Fld := ⟨0xC090, 0, 32⟩
def RGS_EPOCH_STAT.TOUCHED : Fld := ⟨0xC090, 32, 19⟩

/-- RGS_UPD_STAT (R422). -/
def RGS_UPD_STAT : Nat := 0xC098
def RGS_UPD_STAT.UPDATES : Fld := ⟨0xC098, 0, 32⟩
def RGS_UPD_STAT.COPIES : Fld := ⟨0xC098, 32, 32⟩

/-- RGS_DROP_0 (R422). -/
def RGS_DROP_0 : Nat := 0xC0A0
def RGS_DROP_0.BRICK_MISS : Fld := ⟨0xC0A0, 0, 16⟩
def RGS_DROP_0.BRICK_LIMIT : Fld := ⟨0xC0A0, 16, 16⟩
def RGS_DROP_0.POOL_EMPTY : Fld := ⟨0xC0A0, 32, 16⟩
def RGS_DROP_0.NO_EPOCH : Fld := ⟨0xC0A0, 48, 16⟩

/-- RGS_DROP_1 (R422). -/
def RGS_DROP_1 : Nat := 0xC0A8
def RGS_DROP_1.LATE_NEXT : Fld := ⟨0xC0A8, 0, 16⟩
def RGS_DROP_1.LATE_DROP : Fld := ⟨0xC0A8, 16, 16⟩
def RGS_DROP_1.MOTION_STALE : Fld := ⟨0xC0A8, 32, 16⟩
def RGS_DROP_1.ROT_LIMIT : Fld := ⟨0xC0A8, 48, 16⟩

/-- RGS_DROP_2 (R422). -/
def RGS_DROP_2 : Nat := 0xC0B0
def RGS_DROP_2.VERSION_MISS : Fld := ⟨0xC0B0, 0, 16⟩
def RGS_DROP_2.COLOUR_MISS : Fld := ⟨0xC0B0, 16, 16⟩
def RGS_DROP_2.RANGE_OUT : Fld := ⟨0xC0B0, 32, 16⟩

/-- PRS_STATUS (R473). -/
def PRS_STATUS (n : Nat) : Nat := 0x10000 + 0x1000 * n
def PRS_STATUS.STATE (n : Nat) : Fld := ⟨0x10000 + 0x1000 * n, 0, 3⟩
def PRS_STATUS.PC (n : Nat) : Fld := ⟨0x10000 + 0x1000 * n, 16, 11⟩
def PRS_STATUS.TAG (n : Nat) : Fld := ⟨0x10000 + 0x1000 * n, 32, 32⟩

/-- PRS_EXC (R473). -/
def PRS_EXC (n : Nat) : Nat := 0x10008 + 0x1000 * n
def PRS_EXC.CAUSE (n : Nat) : Fld := ⟨0x10008 + 0x1000 * n, 0, 8⟩
def PRS_EXC.SLUG (n : Nat) : Fld := ⟨0x10008 + 0x1000 * n, 8, 11⟩
def PRS_EXC.SLOT (n : Nat) : Fld := ⟨0x10008 + 0x1000 * n, 20, 3⟩
def PRS_EXC.COUNT (n : Nat) : Fld := ⟨0x10008 + 0x1000 * n, 32, 16⟩

/-- PRS_EXC_ADDR (R473). -/
def PRS_EXC_ADDR (n : Nat) : Nat := 0x10010 + 0x1000 * n
def PRS_EXC_ADDR.ADDR (n : Nat) : Fld := ⟨0x10010 + 0x1000 * n, 0, 64⟩

/-- PRS_ECC (R473). -/
def PRS_ECC (n : Nat) : Nat := 0x10018 + 0x1000 * n
def PRS_ECC.BANK_CORR (n : Nat) : Fld := ⟨0x10018 + 0x1000 * n, 0, 24⟩
def PRS_ECC.BANK_UNCORR (n : Nat) : Fld := ⟨0x10018 + 0x1000 * n, 24, 16⟩
def PRS_ECC.SLUG_CORR (n : Nat) : Fld := ⟨0x10018 + 0x1000 * n, 40, 16⟩
def PRS_ECC.SLUG_UNCORR (n : Nat) : Fld := ⟨0x10018 + 0x1000 * n, 56, 8⟩

/-- PRS_SAT (R473). -/
def PRS_SAT (n : Nat) : Nat := 0x10020 + 0x1000 * n
def PRS_SAT.ACC_SAT (n : Nat) : Fld := ⟨0x10020 + 0x1000 * n, 0, 32⟩
def PRS_SAT.REQ_CLAMP (n : Nat) : Fld := ⟨0x10020 + 0x1000 * n, 32, 16⟩
def PRS_SAT.BAD_WEIGHT (n : Nat) : Fld := ⟨0x10020 + 0x1000 * n, 48, 16⟩

/-- PRS_RETIRED (R473). -/
def PRS_RETIRED (n : Nat) : Nat := 0x10028 + 0x1000 * n
def PRS_RETIRED.RETIRED (n : Nat) : Fld := ⟨0x10028 + 0x1000 * n, 0, 64⟩

/-- PRS_STALL (R473). -/
def PRS_STALL (n : Nat) : Nat := 0x10030 + 0x1000 * n
def PRS_STALL.BANK_STALL (n : Nat) : Fld := ⟨0x10030 + 0x1000 * n, 0, 32⟩
def PRS_STALL.SB_STALL (n : Nat) : Fld := ⟨0x10030 + 0x1000 * n, 32, 32⟩

/-- PRS_ARRAY (R473). -/
def PRS_ARRAY (n : Nat) : Nat := 0x10038 + 0x1000 * n
def PRS_ARRAY.CYCLES (n : Nat) : Fld := ⟨0x10038 + 0x1000 * n, 0, 64⟩

/-- PRS_IMAGE (R473). -/
def PRS_IMAGE (n : Nat) : Nat := 0x10040 + 0x1000 * n
def PRS_IMAGE.NET_ADDR (n : Nat) : Fld := ⟨0x10040 + 0x1000 * n, 0, 64⟩

/-- PRS_IMAGE_CRC (R473). -/
def PRS_IMAGE_CRC (n : Nat) : Nat := 0x10048 + 0x1000 * n
def PRS_IMAGE_CRC.CRC32 (n : Nat) : Fld := ⟨0x10048 + 0x1000 * n, 0, 32⟩

/-- PRS_CTRL (R473). -/
def PRS_CTRL (n : Nat) : Nat := 0x10080 + 0x1000 * n
def PRS_CTRL.CLEAR (n : Nat) : Fld := ⟨0x10080 + 0x1000 * n, 0, 1⟩
def PRS_CTRL.DROP_IMAGE (n : Nat) : Fld := ⟨0x10080 + 0x1000 * n, 1, 1⟩

/-- SCN_GEOM (R584). -/
def SCN_GEOM : Nat := 0x20000
def SCN_GEOM.D16 : Fld := ⟨0x20000, 0, 5⟩
def SCN_GEOM.HEADS_M1 : Fld := ⟨0x20000, 8, 4⟩
def SCN_GEOM.A : Fld := ⟨0x20000, 12, 4⟩
def SCN_GEOM.GRAIN : Fld := ⟨0x20000, 32, 18⟩

/-- SCN_POOL_BASE (R584). -/
def SCN_POOL_BASE : Nat := 0x20008
def SCN_POOL_BASE.BASE : Fld := ⟨0x20008, 0, 64⟩

/-- SCN_POOL_CFG (R584). -/
def SCN_POOL_CFG : Nat := 0x20010
def SCN_POOL_CFG.GRAINS : Fld := ⟨0x20010, 0, 31⟩

/-- SCN_POOL_FREE (R584). -/
def SCN_POOL_FREE : Nat := 0x20018
def SCN_POOL_FREE.FREE : Fld := ⟨0x20018, 0, 31⟩

/-- SCN_LIST_BASE (R584). -/
def SCN_LIST_BASE : Nat := 0x20020
def SCN_LIST_BASE.BASE : Fld := ⟨0x20020, 0, 64⟩

/-- SCN_INDEX_BASE (R584). -/
def SCN_INDEX_BASE : Nat := 0x20028
def SCN_INDEX_BASE.BASE : Fld := ⟨0x20028, 0, 64⟩

/-- SCN_FRISKET_BASE (R584). -/
def SCN_FRISKET_BASE : Nat := 0x20030
def SCN_FRISKET_BASE.BASE : Fld := ⟨0x20030, 0, 64⟩

/-- SCN_INDEX_CFG (R584). -/
def SCN_INDEX_CFG : Nat := 0x20038
def SCN_INDEX_CFG.BETA : Fld := ⟨0x20038, 0, 16⟩

/-- SCN_SWAP_BASE (R584). -/
def SCN_SWAP_BASE : Nat := 0x20040
def SCN_SWAP_BASE.BASE : Fld := ⟨0x20040, 0, 64⟩

/-- SCN_SWAP_CFG (R584). -/
def SCN_SWAP_CFG : Nat := 0x20048
def SCN_SWAP_CFG.SWAP_EN : Fld := ⟨0x20048, 0, 1⟩
def SCN_SWAP_CFG.STRIDE : Fld := ⟨0x20048, 32, 32⟩

/-- SCN_SEQ_SEL (R584). -/
def SCN_SEQ_SEL : Nat := 0x20050
def SCN_SEQ_SEL.SEL : Fld := ⟨0x20050, 0, 10⟩

/-- SCN_SEQ_INFO (R584). -/
def SCN_SEQ_INFO : Nat := 0x20058
def SCN_SEQ_INFO.STATE : Fld := ⟨0x20058, 0, 3⟩
def SCN_SEQ_INFO.K_LOG2 : Fld := ⟨0x20058, 4, 4⟩
def SCN_SEQ_INFO.PRIORITY : Fld := ⟨0x20058, 8, 8⟩
def SCN_SEQ_INFO.ENTRIES : Fld := ⟨0x20058, 16, 13⟩
def SCN_SEQ_INFO.TAG : Fld := ⟨0x20058, 32, 32⟩

/-- SCN_SEQ_CFG (R584). -/
def SCN_SEQ_CFG : Nat := 0x20060
def SCN_SEQ_CFG.FSET : Fld := ⟨0x20060, 0, 8⟩

/-- SCN_STAT (R584). -/
def SCN_STAT : Nat := 0x20068
def SCN_STAT.PREEMPTIONS : Fld := ⟨0x20068, 0, 16⟩
def SCN_STAT.NO_FOLIO : Fld := ⟨0x20068, 16, 16⟩
def SCN_STAT.SWAP_CRC : Fld := ⟨0x20068, 32, 16⟩
def SCN_STAT.STOPPED_WALKS : Fld := ⟨0x20068, 48, 16⟩

/-- SCN_SWAP_BYTES (R584). -/
def SCN_SWAP_BYTES : Nat := 0x20070
def SCN_SWAP_BYTES.OUT_MIB : Fld := ⟨0x20070, 0, 32⟩
def SCN_SWAP_BYTES.IN_MIB : Fld := ⟨0x20070, 32, 32⟩

/-- RUN_QUORUM (R608). -/
def RUN_QUORUM (k : Nat) : Nat := 0x21000 + 0x20 * k
def RUN_QUORUM.QUORUM (k : Nat) : Fld := ⟨0x21000 + 0x20 * k, 0, 60⟩

/-- RUN_ROI_MIN (R608). -/
def RUN_ROI_MIN (k : Nat) : Nat := 0x21008 + 0x20 * k
def RUN_ROI_MIN.BX (k : Nat) : Fld := ⟨0x21008 + 0x20 * k, 0, 9⟩
def RUN_ROI_MIN.BY (k : Nat) : Fld := ⟨0x21008 + 0x20 * k, 9, 9⟩
def RUN_ROI_MIN.BZ (k : Nat) : Fld := ⟨0x21008 + 0x20 * k, 18, 9⟩
def RUN_ROI_MIN.ROI_ALL (k : Nat) : Fld := ⟨0x21008 + 0x20 * k, 63, 1⟩

/-- RUN_ROI_MAX (R608). -/
def RUN_ROI_MAX (k : Nat) : Nat := 0x21010 + 0x20 * k
def RUN_ROI_MAX.BX (k : Nat) : Fld := ⟨0x21010 + 0x20 * k, 0, 9⟩
def RUN_ROI_MAX.BY (k : Nat) : Fld := ⟨0x21010 + 0x20 * k, 9, 9⟩
def RUN_ROI_MAX.BZ (k : Nat) : Fld := ⟨0x21010 + 0x20 * k, 18, 9⟩

/-- RUN_CFG (R608). -/
def RUN_CFG (k : Nat) : Nat := 0x21018 + 0x20 * k
def RUN_CFG.THRESHOLD (k : Nat) : Fld := ⟨0x21018 + 0x20 * k, 0, 18⟩
def RUN_CFG.EN (k : Nat) : Fld := ⟨0x21018 + 0x20 * k, 31, 1⟩

/-- RUN_RING_SEL (R608). -/
def RUN_RING_SEL (j : Nat) : Nat := 0x21100 + 0x8 * j
def RUN_RING_SEL.SEL (j : Nat) : Fld := ⟨0x21100 + 0x8 * j, 0, 64⟩

/-- RUN_STAT (R608). -/
def RUN_STAT : Nat := 0x21200
def RUN_STAT.PROV_STARTS : Fld := ⟨0x21200, 0, 16⟩
def RUN_STAT.CONFIRMS : Fld := ⟨0x21200, 16, 16⟩
def RUN_STAT.RETRACTS : Fld := ⟨0x21200, 32, 16⟩
def RUN_STAT.DEP_RETRACTS : Fld := ⟨0x21200, 48, 16⟩

/-- RUN_WAIT (R608). -/
def RUN_WAIT : Nat := 0x21208
def RUN_WAIT.PID_WAIT : Fld := ⟨0x21208, 0, 16⟩
def RUN_WAIT.PPT_WAIT : Fld := ⟨0x21208, 16, 16⟩
def RUN_WAIT.HELD_LOADS : Fld := ⟨0x21208, 32, 16⟩
def RUN_WAIT.DEP_WAIT : Fld := ⟨0x21208, 48, 16⟩

/-- RUN_PPT (R608). -/
def RUN_PPT : Nat := 0x21210
def RUN_PPT.PAGES : Fld := ⟨0x21210, 0, 13⟩
def RUN_PPT.PIDS : Fld := ⟨0x21210, 16, 7⟩

/-- RUN_LAST (R608). -/
def RUN_LAST (k : Nat) : Nat := 0x21220 + 0x8 * k
def RUN_LAST.EPOCH (k : Nat) : Fld := ⟨0x21220 + 0x8 * k, 0, 32⟩
def RUN_LAST.LATE_ROI (k : Nat) : Fld := ⟨0x21220 + 0x8 * k, 32, 19⟩
def RUN_LAST.RETRACT (k : Nat) : Fld := ⟨0x21220 + 0x8 * k, 63, 1⟩

/-- CHN_ID (R659). -/
def CHN_ID : Nat := 0x22000
def CHN_ID.UNIT_ID : Fld := ⟨0x22000, 0, 4⟩
def CHN_ID.ID_VALID : Fld := ⟨0x22000, 4, 1⟩
def CHN_ID.ROOT : Fld := ⟨0x22000, 5, 1⟩
def CHN_ID.MODE : Fld := ⟨0x22000, 6, 2⟩
def CHN_ID.UNITS : Fld := ⟨0x22000, 8, 5⟩
def CHN_ID.POSITION : Fld := ⟨0x22000, 16, 4⟩
def CHN_ID.CONFLICT : Fld := ⟨0x22000, 20, 1⟩
def CHN_ID.NO_ID : Fld := ⟨0x22000, 21, 1⟩
def CHN_ID.ROOT_CONFLICT : Fld := ⟨0x22000, 22, 1⟩
def CHN_ID.MAP : Fld := ⟨0x22000, 32, 16⟩

/-- CHN_CFG (R659). -/
def CHN_CFG : Nat := 0x22008
def CHN_CFG.HOP_WAIT_MS : Fld := ⟨0x22008, 0, 8⟩
def CHN_CFG.DETACH_MS : Fld := ⟨0x22008, 8, 16⟩
def CHN_CFG.HEAL_HOLD_MS : Fld := ⟨0x22008, 24, 8⟩
def CHN_CFG.REMOTE_TO_US : Fld := ⟨0x22008, 32, 6⟩
def CHN_CFG.MASTER : Fld := ⟨0x22008, 40, 1⟩

/-- CHN_PORT_CFG (R659). -/
def CHN_PORT_CFG (d : Nat) : Nat := 0x22040 + 0x40 * d
def CHN_PORT_CFG.FORCE_RATE (d : Nat) : Fld := ⟨0x22040 + 0x40 * d, 0, 2⟩
def CHN_PORT_CFG.REPLAY_LIMIT (d : Nat) : Fld := ⟨0x22040 + 0x40 * d, 8, 8⟩
def CHN_PORT_CFG.UPSHIFT_S (d : Nat) : Fld := ⟨0x22040 + 0x40 * d, 16, 16⟩
def CHN_PORT_CFG.LANE_LIMIT (d : Nat) : Fld := ⟨0x22040 + 0x40 * d, 32, 16⟩

/-- CHN_PORT_STAT (R659). -/
def CHN_PORT_STAT (d : Nat) : Nat := 0x22048 + 0x40 * d
def CHN_PORT_STAT.STATE (d : Nat) : Fld := ⟨0x22048 + 0x40 * d, 0, 3⟩
def CHN_PORT_STAT.RATE (d : Nat) : Fld := ⟨0x22048 + 0x40 * d, 3, 1⟩
def CHN_PORT_STAT.SPARE_USED (d : Nat) : Fld := ⟨0x22048 + 0x40 * d, 4, 1⟩
def CHN_PORT_STAT.SPARED_LANE (d : Nat) : Fld := ⟨0x22048 + 0x40 * d, 5, 5⟩
def CHN_PORT_STAT.FOLDED (d : Nat) : Fld := ⟨0x22048 + 0x40 * d, 10, 1⟩
def CHN_PORT_STAT.DOWNSHIFTS (d : Nat) : Fld := ⟨0x22048 + 0x40 * d, 32, 16⟩
def CHN_PORT_STAT.UPSHIFTS (d : Nat) : Fld := ⟨0x22048 + 0x40 * d, 48, 16⟩

/-- CHN_PORT_TX (R659). -/
def CHN_PORT_TX (d : Nat) : Nat := 0x22050 + 0x40 * d
def CHN_PORT_TX.FLITS (d : Nat) : Fld := ⟨0x22050 + 0x40 * d, 0, 64⟩

/-- CHN_PORT_RX (R659). -/
def CHN_PORT_RX (d : Nat) : Nat := 0x22058 + 0x40 * d
def CHN_PORT_RX.FLITS (d : Nat) : Fld := ⟨0x22058 + 0x40 * d, 0, 64⟩

/-- CHN_PORT_ERR (R659). -/
def CHN_PORT_ERR (d : Nat) : Nat := 0x22060 + 0x40 * d
def CHN_PORT_ERR.REPLAYS (d : Nat) : Fld := ⟨0x22060 + 0x40 * d, 0, 32⟩
def CHN_PORT_ERR.CRC_ERR (d : Nat) : Fld := ⟨0x22060 + 0x40 * d, 32, 16⟩
def CHN_PORT_ERR.LINK_DOWNS (d : Nat) : Fld := ⟨0x22060 + 0x40 * d, 48, 16⟩

/-- CHN_PORT_FEC (R659). -/
def CHN_PORT_FEC (d : Nat) : Nat := 0x22068 + 0x40 * d
def CHN_PORT_FEC.CORRECTED (d : Nat) : Fld := ⟨0x22068 + 0x40 * d, 0, 40⟩
def CHN_PORT_FEC.UNCORRECTABLE (d : Nat) : Fld := ⟨0x22068 + 0x40 * d, 40, 24⟩

/-- CHN_PORT_LANE (R659). -/
def CHN_PORT_LANE (d : Nat) : Nat := 0x22070 + 0x40 * d
def CHN_PORT_LANE.WORST_LANE (d : Nat) : Fld := ⟨0x22070 + 0x40 * d, 0, 5⟩
def CHN_PORT_LANE.SYMBOLS (d : Nat) : Fld := ⟨0x22070 + 0x40 * d, 16, 32⟩

/-- CHN_FOLD_STAT (R659). -/
def CHN_FOLD_STAT : Nat := 0x22100
def CHN_FOLD_STAT.FOLDS : Fld := ⟨0x22100, 0, 16⟩
def CHN_FOLD_STAT.HEALS : Fld := ⟨0x22100, 16, 16⟩
def CHN_FOLD_STAT.WEST : Fld := ⟨0x22100, 32, 1⟩
def CHN_FOLD_STAT.EAST : Fld := ⟨0x22100, 33, 1⟩

/-- CHN_E2E_STAT (R659). -/
def CHN_E2E_STAT : Nat := 0x22108
def CHN_E2E_STAT.RESENDS : Fld := ⟨0x22108, 0, 24⟩
def CHN_E2E_STAT.REMOTE_DOWN : Fld := ⟨0x22108, 24, 24⟩
def CHN_E2E_STAT.DUP_RESP : Fld := ⟨0x22108, 48, 16⟩

/-- CHN_ATOM_STAT (R659). -/
def CHN_ATOM_STAT : Nat := 0x22110
def CHN_ATOM_STAT.CACHE_HITS : Fld := ⟨0x22110, 0, 32⟩
def CHN_ATOM_STAT.EXECUTED : Fld := ⟨0x22110, 32, 32⟩

/-- CHN_PROXY_TARGET (R659). -/
def CHN_PROXY_TARGET : Nat := 0x22200
def CHN_PROXY_TARGET.UNIT : Fld := ⟨0x22200, 0, 4⟩
def CHN_PROXY_TARGET.OFFSET : Fld := ⟨0x22200, 32, 18⟩

/-- CHN_PROXY_DATA (R659). -/
def CHN_PROXY_DATA : Nat := 0x22208
def CHN_PROXY_DATA.DATA : Fld := ⟨0x22208, 0, 64⟩

/-- CHN_PROXY_CMD (R659). -/
def CHN_PROXY_CMD : Nat := 0x22210
def CHN_PROXY_CMD.OP : Fld := ⟨0x22210, 0, 2⟩
def CHN_PROXY_CMD.BUSY : Fld := ⟨0x22210, 8, 1⟩
def CHN_PROXY_CMD.ERR : Fld := ⟨0x22210, 9, 1⟩

/-- CHN_PROXY_VEC (R659). -/
def CHN_PROXY_VEC : Nat := 0x22218
def CHN_PROXY_VEC.PROXY_VEC : Fld := ⟨0x22218, 0, 6⟩

/-- CHN_PROXY_IRQ (R659). -/
def CHN_PROXY_IRQ (u : Nat) : Nat := 0x22280 + 0x8 * u
def CHN_PROXY_IRQ.VECTORS (u : Nat) : Fld := ⟨0x22280 + 0x8 * u, 0, 64⟩

/-- STK_CFG (R708). -/
def STK_CFG : Nat := 0x23000
def STK_CFG.CACHE_EIGHTHS : Fld := ⟨0x23000, 0, 3⟩
def STK_CFG.PROMOTE_N : Fld := ⟨0x23000, 8, 4⟩

/-- STK_FLAT (R708). -/
def STK_FLAT : Nat := 0x23008
def STK_FLAT.FLAT_BYTES : Fld := ⟨0x23008, 0, 64⟩

/-- STK_FLASH (R708). -/
def STK_FLASH : Nat := 0x23010
def STK_FLASH.FLASH_BYTES : Fld := ⟨0x23010, 0, 64⟩

/-- STK_SETS (R708). -/
def STK_SETS : Nat := 0x23018
def STK_SETS.SETS : Fld := ⟨0x23018, 0, 32⟩

/-- STK_DIRTY_CFG (R708). -/
def STK_DIRTY_CFG : Nat := 0x23020
def STK_DIRTY_CFG.DIRTY_LIMIT : Fld := ⟨0x23020, 0, 13⟩
def STK_DIRTY_CFG.HOLDUP_MS : Fld := ⟨0x23020, 32, 16⟩

/-- STK_DIRTY (R708). -/
def STK_DIRTY : Nat := 0x23028
def STK_DIRTY.KEEP_DIRTY : Fld := ⟨0x23028, 0, 32⟩
def STK_DIRTY.DIRTY : Fld := ⟨0x23028, 32, 32⟩

/-- STK_HOSTWIN (R708). -/
def STK_HOSTWIN : Nat := 0x23030
def STK_HOSTWIN.HOSTWIN_MASK : Fld := ⟨0x23030, 0, 16⟩

/-- STK_PART_BASE (R708). -/
def STK_PART_BASE (k : Nat) : Nat := 0x23040 + 0x10 * k
def STK_PART_BASE.BASE (k : Nat) : Fld := ⟨0x23040 + 0x10 * k, 0, 64⟩

/-- STK_PART_CFG (R708). -/
def STK_PART_CFG (k : Nat) : Nat := 0x23048 + 0x10 * k
def STK_PART_CFG.SIZE (k : Nat) : Fld := ⟨0x23048 + 0x10 * k, 0, 23⟩
def STK_PART_CFG.OWNERS (k : Nat) : Fld := ⟨0x23048 + 0x10 * k, 32, 16⟩
def STK_PART_CFG.EN (k : Nat) : Fld := ⟨0x23048 + 0x10 * k, 48, 1⟩
def STK_PART_CFG.KEEP (k : Nat) : Fld := ⟨0x23048 + 0x10 * k, 49, 1⟩
def STK_PART_CFG.GUARD (k : Nat) : Fld := ⟨0x23048 + 0x10 * k, 50, 1⟩

/-- STK_REG_BASE (R708). -/
def STK_REG_BASE (r : Nat) : Nat := 0x23100 + 0x20 * r
def STK_REG_BASE.BASE (r : Nat) : Fld := ⟨0x23100 + 0x20 * r, 0, 64⟩

/-- STK_REG_CFG (R708). -/
def STK_REG_CFG (r : Nat) : Nat := 0x23108 + 0x20 * r
def STK_REG_CFG.SIZE (r : Nat) : Fld := ⟨0x23108 + 0x20 * r, 0, 23⟩
def STK_REG_CFG.EN (r : Nat) : Fld := ⟨0x23108 + 0x20 * r, 48, 1⟩
def STK_REG_CFG.KEEP (r : Nat) : Fld := ⟨0x23108 + 0x20 * r, 49, 1⟩
def STK_REG_CFG.GUARD (r : Nat) : Fld := ⟨0x23108 + 0x20 * r, 50, 1⟩

/-- STK_REG_MASK (R708). -/
def STK_REG_MASK (r : Nat) : Nat := 0x23110 + 0x20 * r
def STK_REG_MASK.RMASK (r : Nat) : Fld := ⟨0x23110 + 0x20 * r, 0, 16⟩
def STK_REG_MASK.WMASK (r : Nat) : Fld := ⟨0x23110 + 0x20 * r, 16, 16⟩

/-- STK_PIN_BASE (R708). -/
def STK_PIN_BASE (r : Nat) : Nat := 0x23500 + 0x10 * r
def STK_PIN_BASE.BASE (r : Nat) : Fld := ⟨0x23500 + 0x10 * r, 0, 58⟩

/-- STK_PIN_CFG (R708). -/
def STK_PIN_CFG (r : Nat) : Nat := 0x23508 + 0x10 * r
def STK_PIN_CFG.LEAVES (r : Nat) : Fld := ⟨0x23508 + 0x10 * r, 0, 24⟩
def STK_PIN_CFG.KIND (r : Nat) : Fld := ⟨0x23508 + 0x10 * r, 24, 1⟩
def STK_PIN_CFG.EN (r : Nat) : Fld := ⟨0x23508 + 0x10 * r, 25, 1⟩
def STK_PIN_CFG.PARTIAL (r : Nat) : Fld := ⟨0x23508 + 0x10 * r, 26, 1⟩

/-- STK_HITS (R708). -/
def STK_HITS : Nat := 0x23600
def STK_HITS.HITS : Fld := ⟨0x23600, 0, 64⟩

/-- STK_MISSES (R708). -/
def STK_MISSES : Nat := 0x23608
def STK_MISSES.MISSES : Fld := ⟨0x23608, 0, 64⟩

/-- STK_LEAF_STAT (R708). -/
def STK_LEAF_STAT : Nat := 0x23610
def STK_LEAF_STAT.FILLS : Fld := ⟨0x23610, 0, 32⟩
def STK_LEAF_STAT.WRITEBACKS : Fld := ⟨0x23610, 32, 32⟩

/-- STK_PIN_STAT (R708). -/
def STK_PIN_STAT : Nat := 0x23618
def STK_PIN_STAT.PIN_HOLDS : Fld := ⟨0x23618, 0, 32⟩
def STK_PIN_STAT.PIN_OVER : Fld := ⟨0x23618, 32, 16⟩
def STK_PIN_STAT.DIRTY_WAIT : Fld := ⟨0x23618, 48, 16⟩

/-- STK_DENY (R708). -/
def STK_DENY : Nat := 0x23620
def STK_DENY.DENIED : Fld := ⟨0x23620, 0, 32⟩
def STK_DENY.LAST_SRC : Fld := ⟨0x23620, 32, 4⟩
def STK_DENY.LAST_GUARD : Fld := ⟨0x23620, 36, 1⟩
def STK_DENY.LAST_AT_SOURCE : Fld := ⟨0x23620, 37, 1⟩

/-- STK_ERR (R708). -/
def STK_ERR : Nat := 0x23628
def STK_ERR.FLASH_UNCORR : Fld := ⟨0x23628, 0, 16⟩
def STK_ERR.PROG_FAIL : Fld := ⟨0x23628, 16, 16⟩
def STK_ERR.DRAM_UNCORR : Fld := ⟨0x23628, 32, 16⟩
def STK_ERR.NOT_DURABLE : Fld := ⟨0x23628, 48, 16⟩

/-- STK_JOURNAL (R708). -/
def STK_JOURNAL : Nat := 0x23630
def STK_JOURNAL.REPLAY_US : Fld := ⟨0x23630, 0, 32⟩
def STK_JOURNAL.RECORDS : Fld := ⟨0x23630, 32, 32⟩

/-- STK_FLUSH (R708). -/
def STK_FLUSH : Nat := 0x23638
def STK_FLUSH.FLUSH_US : Fld := ⟨0x23638, 0, 32⟩
def STK_FLUSH.FLUSHED_MIB : Fld := ⟨0x23638, 32, 32⟩

/-- GRD_CFG (R743). -/
def GRD_CFG : Nat := 0x24000
def GRD_CFG.EN : Fld := ⟨0x24000, 0, 1⟩
def GRD_CFG.INLINE_ECC : Fld := ⟨0x24000, 1, 1⟩
def GRD_CFG.KAT_EN : Fld := ⟨0x24000, 2, 1⟩
def GRD_CFG.VALID_N : Fld := ⟨0x24000, 4, 4⟩
def GRD_CFG.PAT_MAX_GAP : Fld := ⟨0x24000, 8, 4⟩
def GRD_CFG.BW_PCT : Fld := ⟨0x24000, 16, 6⟩
def GRD_CFG.COVER_MIN : Fld := ⟨0x24000, 32, 14⟩

/-- GRD_TIME (R743). -/
def GRD_TIME : Nat := 0x24008
def GRD_TIME.DEADLINE_US : Fld := ⟨0x24008, 0, 17⟩
def GRD_TIME.SLOT_US : Fld := ⟨0x24008, 32, 17⟩

/-- GRD_SENSORS (R743). -/
def GRD_SENSORS : Nat := 0x24010
def GRD_SENSORS.MASK : Fld := ⟨0x24010, 0, 60⟩

/-- GRD_PAIR (R743). -/
def GRD_PAIR (k : Nat) : Nat := 0x24020 + 0x8 * k
def GRD_PAIR.PRIMARY (k : Nat) : Fld := ⟨0x24020 + 0x8 * k, 0, 4⟩
def GRD_PAIR.SHADOW (k : Nat) : Fld := ⟨0x24020 + 0x8 * k, 8, 4⟩
def GRD_PAIR.EN (k : Nat) : Fld := ⟨0x24020 + 0x8 * k, 16, 1⟩
def GRD_PAIR.REFUSED (k : Nat) : Fld := ⟨0x24020 + 0x8 * k, 17, 1⟩
def GRD_PAIR.SINGLE (k : Nat) : Fld := ⟨0x24020 + 0x8 * k, 18, 1⟩

/-- GRD_KAT_ADDR (R743). -/
def GRD_KAT_ADDR : Nat := 0x24040
def GRD_KAT_ADDR.ADDR : Fld := ⟨0x24040, 0, 64⟩

/-- GRD_CTRL (R743). -/
def GRD_CTRL : Nat := 0x24048
def GRD_CTRL.REARM : Fld := ⟨0x24048, 0, 1⟩
def GRD_CTRL.KEY : Fld := ⟨0x24048, 8, 8⟩

/-- GRD_STATUS (R743). -/
def GRD_STATUS : Nat := 0x24050
def GRD_STATUS.VALID : Fld := ⟨0x24050, 0, 1⟩
def GRD_STATUS.LATCHED : Fld := ⟨0x24050, 1, 1⟩
def GRD_STATUS.ARMED : Fld := ⟨0x24050, 2, 1⟩
def GRD_STATUS.INIT_BUSY : Fld := ⟨0x24050, 3, 1⟩
def GRD_STATUS.LATCH_CAUSE : Fld := ⟨0x24050, 8, 8⟩
def GRD_STATUS.LAST_EPOCH : Fld := ⟨0x24050, 32, 32⟩

/-- GRD_LAST (R743). -/
def GRD_LAST : Nat := 0x24058
def GRD_LAST.EPOCH : Fld := ⟨0x24058, 0, 32⟩
def GRD_LAST.CAUSES : Fld := ⟨0x24058, 32, 8⟩
def GRD_LAST.STOP : Fld := ⟨0x24058, 40, 1⟩
def GRD_LAST.DEADLINE : Fld := ⟨0x24058, 41, 1⟩
def GRD_LAST.VALID : Fld := ⟨0x24058, 42, 1⟩

/-- GRD_COUNT (R743). -/
def GRD_COUNT : Nat := 0x24060
def GRD_COUNT.INVALIDS : Fld := ⟨0x24060, 0, 16⟩
def GRD_COUNT.DEADLINE_MISSES : Fld := ⟨0x24060, 16, 16⟩
def GRD_COUNT.MISMATCHES : Fld := ⟨0x24060, 32, 16⟩
def GRD_COUNT.SAFE_ENTRIES : Fld := ⟨0x24060, 48, 16⟩

/-- GRD_MISMATCH (R743). -/
def GRD_MISMATCH : Nat := 0x24068
def GRD_MISMATCH.PRIMARY : Fld := ⟨0x24068, 0, 4⟩
def GRD_MISMATCH.SHADOW : Fld := ⟨0x24068, 4, 4⟩
def GRD_MISMATCH.AT_END : Fld := ⟨0x24068, 8, 1⟩
def GRD_MISMATCH.ENTRY : Fld := ⟨0x24068, 16, 16⟩
def GRD_MISMATCH.EPOCH : Fld := ⟨0x24068, 32, 32⟩

/-- GRD_PATTERN (R743). -/
def GRD_PATTERN : Nat := 0x24070
def GRD_PATTERN.PASSED : Fld := ⟨0x24070, 0, 32⟩
def GRD_PATTERN.FAIL_SLOT : Fld := ⟨0x24070, 32, 6⟩
def GRD_PATTERN.FAIL_KIND : Fld := ⟨0x24070, 40, 3⟩
def GRD_PATTERN.FAILS : Fld := ⟨0x24070, 48, 16⟩

/-- GRD_ECC (R743). -/
def GRD_ECC : Nat := 0x24078
def GRD_ECC.CORRECTED : Fld := ⟨0x24078, 0, 32⟩
def GRD_ECC.UNCORRECTED : Fld := ⟨0x24078, 32, 32⟩

/-- REP_STATUS (R778). -/
def REP_STATUS : Nat := 0x25000
def REP_STATUS.PASSES : Fld := ⟨0x25000, 0, 16⟩
def REP_STATUS.REPAIRS : Fld := ⟨0x25000, 16, 16⟩
def REP_STATUS.FENCES : Fld := ⟨0x25000, 32, 16⟩
def REP_STATUS.SOFT_PENDING : Fld := ⟨0x25000, 48, 1⟩

/-- REP_CTRL (R778). -/
def REP_CTRL : Nat := 0x25008
def REP_CTRL.BIST_MASK : Fld := ⟨0x25008, 0, 16⟩
def REP_CTRL.FENCE_PRESS : Fld := ⟨0x25008, 16, 4⟩
def REP_CTRL.FENCE_NOW : Fld := ⟨0x25008, 20, 1⟩
def REP_CTRL.CLEAR_SOFT : Fld := ⟨0x25008, 21, 1⟩
def REP_CTRL.KEY : Fld := ⟨0x25008, 24, 8⟩

/-- REP_BIST_CFG (R778). -/
def REP_BIST_CFG : Nat := 0x25010
def REP_BIST_CFG.PERIODIC_S : Fld := ⟨0x25010, 0, 16⟩
def REP_BIST_CFG.UNEXPLAINED_MAX : Fld := ⟨0x25010, 16, 4⟩
def REP_BIST_CFG.PERIODIC_EN : Fld := ⟨0x25010, 20, 1⟩

/-- REP_SOFT_STAT (R778). -/
def REP_SOFT_STAT : Nat := 0x25018
def REP_SOFT_STAT.ENTRIES : Fld := ⟨0x25018, 0, 12⟩
def REP_SOFT_STAT.REJECTED : Fld := ⟨0x25018, 12, 12⟩
def REP_SOFT_STAT.LOADED_COPY : Fld := ⟨0x25018, 24, 1⟩
def REP_SOFT_STAT.SEQ : Fld := ⟨0x25018, 32, 32⟩

/-- REP_SCREEN (R778). -/
def REP_SCREEN : Nat := 0x25020
def REP_SCREEN.SPARES : Fld := ⟨0x25020, 0, 16⟩
def REP_SCREEN.FAILED : Fld := ⟨0x25020, 16, 16⟩

/-- REP_PRESS (R778). -/
def REP_PRESS (n : Nat) : Nat := 0x25100 + 0x8 * n
def REP_PRESS.COLS_USED (n : Nat) : Fld := ⟨0x25100 + 0x8 * n, 0, 4⟩
def REP_PRESS.BANK_ROWS_USED (n : Nat) : Fld := ⟨0x25100 + 0x8 * n, 4, 9⟩
def REP_PRESS.CASE_USED (n : Nat) : Fld := ⟨0x25100 + 0x8 * n, 16, 5⟩
def REP_PRESS.SLUG_ROWS_USED (n : Nat) : Fld := ⟨0x25100 + 0x8 * n, 21, 4⟩
def REP_PRESS.FENCED (n : Nat) : Fld := ⟨0x25100 + 0x8 * n, 25, 1⟩
def REP_PRESS.FACTORY_FENCED (n : Nat) : Fld := ⟨0x25100 + 0x8 * n, 26, 1⟩
def REP_PRESS.SUSPECT (n : Nat) : Fld := ⟨0x25100 + 0x8 * n, 27, 1⟩
def REP_PRESS.FENCE_CAUSE (n : Nat) : Fld := ⟨0x25100 + 0x8 * n, 28, 4⟩
def REP_PRESS.UNEXPLAINED (n : Nat) : Fld := ⟨0x25100 + 0x8 * n, 32, 8⟩
def REP_PRESS.SEGMENT (n : Nat) : Fld := ⟨0x25100 + 0x8 * n, 40, 8⟩
def REP_PRESS.PASSES (n : Nat) : Fld := ⟨0x25100 + 0x8 * n, 48, 16⟩

/-- REP_PAIR_CFG (R778). -/
def REP_PAIR_CFG : Nat := 0x25200
def REP_PAIR_CFG.PEER : Fld := ⟨0x25200, 0, 4⟩
def REP_PAIR_CFG.ROLE : Fld := ⟨0x25200, 4, 2⟩
def REP_PAIR_CFG.EN : Fld := ⟨0x25200, 6, 1⟩
def REP_PAIR_CFG.SELF_DEMOTE : Fld := ⟨0x25200, 7, 1⟩
def REP_PAIR_CFG.PEER_ACTIVE : Fld := ⟨0x25200, 8, 1⟩
def REP_PAIR_CFG.HB_US : Fld := ⟨0x25200, 16, 16⟩
def REP_PAIR_CFG.HB_LOSS_US : Fld := ⟨0x25200, 32, 16⟩
def REP_PAIR_CFG.PTP_MASK : Fld := ⟨0x25200, 48, 4⟩

/-- REP_SLOT_A (R778). -/
def REP_SLOT_A : Nat := 0x25208
def REP_SLOT_A.ADDR : Fld := ⟨0x25208, 0, 64⟩

/-- REP_SLOT_B (R778). -/
def REP_SLOT_B : Nat := 0x25210
def REP_SLOT_B.ADDR : Fld := ⟨0x25210, 0, 64⟩

/-- REP_SLOT_SIZE (R778). -/
def REP_SLOT_SIZE : Nat := 0x25218
def REP_SLOT_SIZE.SLOT_MIB : Fld := ⟨0x25218, 0, 16⟩

/-- REP_CKPT_CTRL (R778). -/
def REP_CKPT_CTRL : Nat := 0x25220
def REP_CKPT_CTRL.GO : Fld := ⟨0x25220, 0, 1⟩
def REP_CKPT_CTRL.PERIOD_MS : Fld := ⟨0x25220, 16, 16⟩

/-- REP_CKPT_STAT (R778). -/
def REP_CKPT_STAT : Nat := 0x25228
def REP_CKPT_STAT.LAST_N : Fld := ⟨0x25228, 0, 32⟩
def REP_CKPT_STAT.LAST_SLOT : Fld := ⟨0x25228, 32, 1⟩
def REP_CKPT_STAT.STATE : Fld := ⟨0x25228, 33, 2⟩
def REP_CKPT_STAT.CKPT_ERR : Fld := ⟨0x25228, 35, 1⟩
def REP_CKPT_STAT.SKIPPED : Fld := ⟨0x25228, 36, 12⟩
def REP_CKPT_STAT.DURATION_MS : Fld := ⟨0x25228, 48, 16⟩

/-- REP_TAKEOVER (R778). -/
def REP_TAKEOVER : Nat := 0x25230
def REP_TAKEOVER.N : Fld := ⟨0x25230, 0, 32⟩
def REP_TAKEOVER.SLOT : Fld := ⟨0x25230, 32, 1⟩
def REP_TAKEOVER.NONE : Fld := ⟨0x25230, 33, 1⟩
def REP_TAKEOVER.TIME_UNLOCKED : Fld := ⟨0x25230, 34, 1⟩
def REP_TAKEOVER.LATENCY_US : Fld := ⟨0x25230, 40, 24⟩

/-- REP_ADOPT (R778). -/
def REP_ADOPT : Nat := 0x25238
def REP_ADOPT.GO : Fld := ⟨0x25238, 0, 1⟩
def REP_ADOPT.BUSY : Fld := ⟨0x25238, 1, 1⟩
def REP_ADOPT.DONE : Fld := ⟨0x25238, 2, 1⟩
def REP_ADOPT.ERR : Fld := ⟨0x25238, 3, 1⟩
def REP_ADOPT.LOST_SEQ : Fld := ⟨0x25238, 16, 10⟩

/-- REP_SECT_SRC (R778). -/
def REP_SECT_SRC (k : Nat) : Nat := 0x25300 + 0x20 * k
def REP_SECT_SRC.SRC (k : Nat) : Fld := ⟨0x25300 + 0x20 * k, 0, 64⟩

/-- REP_SECT_DST (R778). -/
def REP_SECT_DST (k : Nat) : Nat := 0x25308 + 0x20 * k
def REP_SECT_DST.DST (k : Nat) : Fld := ⟨0x25308 + 0x20 * k, 0, 64⟩

/-- REP_SECT_LEN (R778). -/
def REP_SECT_LEN (k : Nat) : Nat := 0x25310 + 0x20 * k
def REP_SECT_LEN.LEN (k : Nat) : Fld := ⟨0x25310 + 0x20 * k, 0, 40⟩

/-- DBG_CFG (R815). -/
def DBG_CFG : Nat := 0x26000
def DBG_CFG.REG_EN : Fld := ⟨0x26000, 0, 1⟩

/-- DBG_FREEZE_CTRL (R815). -/
def DBG_FREEZE_CTRL : Nat := 0x26008
def DBG_FREEZE_CTRL.GO : Fld := ⟨0x26008, 0, 1⟩
def DBG_FREEZE_CTRL.KEY : Fld := ⟨0x26008, 8, 8⟩

/-- DBG_FREEZE_LAST (R815). -/
def DBG_FREEZE_LAST : Nat := 0x26010
def DBG_FREEZE_LAST.FREEZE_COUNT : Fld := ⟨0x26010, 0, 48⟩
def DBG_FREEZE_LAST.EXIT : Fld := ⟨0x26010, 48, 4⟩
def DBG_FREEZE_LAST.SOURCE : Fld := ⟨0x26010, 52, 4⟩

/-- DBG_STAT (R815). -/
def DBG_STAT : Nat := 0x26018
def DBG_STAT.FREEZES : Fld := ⟨0x26018, 0, 16⟩
def DBG_STAT.REFUSED : Fld := ⟨0x26018, 16, 16⟩

end Sys2Proof.Machine
end

