-- ==== Sys2Proof/Machine/State.lean ====
section
/-!
DEFINITION. The state of the block, as plain data: every register, queue, buffer, memory, counter, mode and pin the
spec gives it, and the queue of the commands that wait. INVENTORY.md lists each piece with its rule and its reset
value. Registers that software reads are held in State.regs by their BAR0 offset; what lives only inside the block
has fields of its own.
-/

namespace Sys2Proof.Machine

/-- Why the block stops with a fault. No meaning of this model raises one: every effect the spec describes is a next
state, and an access the spec turns away is turned away as the spec says (safe). -/
inductive Fault where
  /-- Raised by nobody: an access to an address the spec says does not exist is answered as R10, R12 or R16 say. Safe. -/
  | noSuchAddress
  deriving DecidableEq, Repr

/-- Why a command has no meaning. -/
inductive Refusal where
  /-- Raised by a dispatch arm whose command has no meaning yet, with the command's mnemonic. Safe: nothing is proved
  of the command. -/
  | notModelled (mnemonic : String)
  deriving DecidableEq, Repr

/-! ### Bus: the PCIe side -/

/-- The PCIe side: host memory as the engine reads and writes it, what the last host read returned, configuration space and MSI-X
(R125 to R129, R164 to R166). MSI-X is off and every vector is masked at reset, as PCIe has it (log entry 33). -/
structure Bus where
  /-- Host memory by bus address. -/
  hostMem  : Mem := {}
  /-- The bytes the last host read of BAR0 or BAR2 returned, lowest address first. -/
  lastRead : List Byte := []
  /-- The vectors of the MSI-X messages sent, newest first. -/
  msix     : List Nat := []
  /-- MSI-X Enable. -/
  msixOn   : Bool := false
  /-- The MSI-X per-vector mask bits. -/
  vecMask  : U64 := BitVec.allOnes 64
  /-- The message addresses and data of the MSI-X table, by its 32-bit words. -/
  msixTab  : FMap U32 := []
  /-- The words of configuration space that the host has written, by offset. -/
  cfg      : FMap U32 := []
  /-- The MSI-X function mask. -/
  fnMask   : Bool := false
  /-- The MSI-X pending-bit array. -/
  pba      : U64 := 0
  /-- PERST_n is asserted. -/
  perst    : Bool := true
  /-- The PCIe link is up. -/
  linkUp   : Bool := false
  /-- A read of GAL_HOST_RX_DATA that waits on the empty galley 49 (R204). -/
  rxWait   : Option RxForm := none
  /-- The BAR2 size as a power of two of bytes, 30 to 38 (R125). -/
  bar2Log2 : Nat := 36
  deriving DecidableEq, Repr

/-! ### Galleys and gutters -/

/-- The states of a galley (R195, R199). -/
inductive GalState where
  | normal | discard | disabled
  deriving DecidableEq, Repr

/-- A word as a galley stores it (R174): 64 data bits, the 8 check bits over them, and three copies of the end mark. -/
structure CWord where
  data  : U64
  check : BitVec 8
  marks : BitVec 3
  deriving DecidableEq, Repr

/-- One galley (R174 to R199). Words are listed oldest first; the last uncommitted words belong to the item in
progress of a commit-mode galley. -/
structure Galley where
  words       : List CWord := []
  /-- Words at the tail that a commit-mode item in progress has stored and not committed (R181). -/
  uncommitted : Nat := 0
  state       : GalState := .normal
  /-- STATE has changed since the last reset; until then GAL_COUNT shows the field's reset value (R218; log entry 31). -/
  stateShown  : Bool := false
  /-- The producer has written a word of an item and not yet its end mark. -/
  partialIn   : Bool := false
  /-- The consumer has received a word of an item and not yet its end. -/
  midOut      : Bool := false
  /-- A synthetic end word waits for the consumer (R194). -/
  synth       : Bool := false
  pktIn       : Nat := 0
  pktOut      : Nat := 0
  pktDrop     : Nat := 0
  /-- The item that discard-to-end or DISABLED swallows has been counted in PKT_DROP already (R198). -/
  cutCounted  : Bool := false
  /-- The producer dropped or abandoned the item in progress, so its further words never reach the galley (R183, R184). -/
  dropping    : Bool := false
  /-- Words of the item in progress accepted so far (R184). -/
  itemWords   : Nat := 0
  /-- MAX_ITEM as the item in progress took it (R219). -/
  itemMax     : Nat := 0
  /-- The two copies of the write pointer and of the read pointer (R190). -/
  wptr        : Nat × Nat := (0, 0)
  rptr        : Nat × Nat := (0, 0)
  deriving DecidableEq, Repr

/-- The galley of a sensor or PTP port is DISABLED while its port is off, as every port is at reset (R199, R361). -/
def galleyReset (g : Nat) : Galley := { state := if g < 14 ∨ (16 ≤ g ∧ g < 24) then .disabled else .normal }

/-- An entry of a gutter: its word, and the galley it came from (R209). -/
structure GEntry where
  word   : GWord
  galley : Option GalleyId := none
  deriving DecidableEq, Repr

/-- One lane of a crossing (R206 to R216): a gutter of one direction with its entries that the destination can read, oldest first, its
pointers, the two synchroniser stages through which each pointer reaches the other side in Gray code, and the entry the destination took
last; or a toggle synchroniser of one strobe. -/
structure Gutter where
  words   : List GEntry := []
  wptr    : Nat := 0
  rptr    : Nat := 0
  wsync   : Nat × Nat := (0, 0)
  rsync   : Nat × Nat := (0, 0)
  taken   : Option GEntry := none
  /-- A pulse is on its way and its acknowledgement has not returned (R216). -/
  busy    : Bool := false
  /-- One further pulse is held (R216). -/
  held    : Bool := false
  /-- Pulses the destination has received. -/
  pulses  : Nat := 0
  deriving DecidableEq, Repr

/-! ### Dateline -/

/-- A stretch of a segment with one slew in progress: from the tick after s0, step units are applied each tick until rem
is used up; base units had been applied before it in the segment (R231, R232). -/
structure SlewPiece where
  s0   : Tick
  base : Int
  rem  : Int
  step : Nat
  deriving DecidableEq, Repr

/-- One segment of the conversion history (R223, R277): from count start on, time is off + slew + rate × (count − anchor)
in units of 2^-32 ns. Pieces are newest first. -/
structure Seg where
  start  : Tick := 0
  off    : Int := 0
  anchor : Tick := 0
  rate   : Nat := 0x200000000
  pieces : List SlewPiece := []
  deriving DecidableEq, Repr

/-- What the selector keeps of a reference beside its registers (R243, R248, R251). -/
structure RefState where
  /-- The sample before, θ in 2^-32 ns, and its count. -/
  prev     : Option (Int × Tick) := none
  /-- It was lost while selected. -/
  lostSel  : Bool := false
  /-- A switch away from it has committed since. -/
  switched : Bool := false
  /-- The count at which it entered HOLDOFF. -/
  heldAt   : Tick := 0
  deriving DecidableEq, Repr

/-- A stored stamp of an event input (R256). -/
structure EvtStamp where
  count : Tick
  sub   : Nat
  rise  : Bool
  ovf   : Bool
  deriving DecidableEq, Repr

/-- An event input: its FIFO, oldest first, and whether the next stored stamp carries OVF (R258). -/
structure EvtIn where
  fifo : List EvtStamp := []
  ovf  : Bool := false
  deriving DecidableEq, Repr

/-- A trigger schedule: times in ns; edge counts the edges placed, leading and trailing in turn (R260 to R264). -/
structure Sched where
  low      : Bool
  count    : Nat
  startNs  : Nat
  periodNs : Nat
  widthNs  : Nat
  edge     : Nat := 0
  deriving DecidableEq, Repr

/-- A trigger output: the schedules it holds, the running one first, and its pin level (R260, R265). -/
structure Trg where
  scheds : List Sched := []
  level  : Bool := false
  deriving DecidableEq, Repr

/-- The AON time record (R271). -/
structure AonRec where
  time   : Int
  coarse : Nat
  rate   : Nat
  deriving DecidableEq, Repr

/-- The Dateline (R220 to R278). -/
structure Dtl where
  /-- The counter; registers and stamps show it modulo 2^64. -/
  count  : Tick := 0
  /-- The last eight segments, newest first. -/
  segs   : List Seg := [{}]
  refs   : Vector RefState 3 := Vector.replicate 3 {}
  evts   : Vector EvtIn 16 := Vector.replicate 16 {}
  trgs   : Vector Trg 8 := Vector.replicate 8 {}
  /-- PPS_OUT is inside a pulse, which ends at this count (R255). -/
  ppsOut : Option Tick := none
  aonRec : Option AonRec := none
  /-- The AON coarse count at which the counter stood at 0 (R271). -/
  coarse : Int := 0
  /-- The count at which the pending switch was requested (R246). -/
  reqAt  : Tick := 0
  /-- k of the next epoch to open (R266). -/
  epochK : Nat := 0
  deriving DecidableEq, Repr

/-- What the coverage map counts of one sensor in one epoch (R351). -/
structure SensorCov where
  d        : Nat := 0
  x        : Nat := 0
  g        : Nat := 0
  /-- The stamps of the units counted, newest first (R70). -/
  stamps   : List Tick := []
  frameGap : Bool := false
  deriving DecidableEq, Repr

/-- The final coverage of an epoch (R352 to R356). -/
structure CovFinal where
  /-- Coverage and flags of each slot from 0 on. -/
  slots      : List (Nat × Nat) := []
  lowest     : Nat := 0xFFFF
  lowestSlot : Nat := 0xFF
  below      : Nat := 0
  deriving DecidableEq, Repr

/-- What the block keeps of one epoch (R266, R267, R351 to R358). -/
structure EpochRec where
  num     : Nat
  openAt  : Tick
  refTime : Int
  closeAt : Option Tick := none
  refAt   : Option Tick := none
  /-- Coverage counts by sensor slot. -/
  cov     : FMap SensorCov := []
  /-- The slots enabled in the epoch, as a mask. -/
  enabled : Nat := 0
  /-- COV_MIN and SILENT_N of each slot as the epoch took them at its opening (R361). -/
  sensors : List (Nat × Nat) := []
  final   : Option CovFinal := none
  /-- What registration took at its opening: the calibration table, the policies, and the update and motion settings
  (R382, R422). -/
  cal     : List Byte := []
  policy  : Nat := 0
  upd     : U64 := 0
  motion  : U64 := 0
  isSealed : Bool := false
  /-- It could not be finalised at its seal (R597). -/
  waited  : Bool := false
  /-- Finalised by registration (R418). -/
  closed  : Bool := false
  /-- The dirty list, newest first: brick key and LATE (R421). -/
  dirty   : List (Nat × Bool) := []
  /-- The bricks whose version at the seal has gone to a guard copy (R396). -/
  guarded : List Nat := []
  updates : Nat := 0
  copies  : Nat := 0
  /-- The INVALID cause bits set so far (Table GRD-1). -/
  causes  : Nat := 0
  /-- The guard controller has published it, or its deadline has passed (R727, R734). -/
  published : Bool := false
  missed  : Bool := false
  /-- The counts at its finalisation and at its publication, which EPOCH_MARK shows (Table HST-4). -/
  finalAt : Option Tick := none
  pubAt   : Option Tick := none
  deriving DecidableEq, Repr

/-! ### Registration -/

/-- A screen: the SEED it was derived from, its segment, the draws it has made, and how many bytes of the last draw are still
unused (R409 to R412). -/
structure Screen where
  seed  : U64 := 1
  seg   : Nat := 0
  draws : Nat := 0
  left  : Nat := 0
  deriving DecidableEq, Repr

/-- A frame of an image plane: its place in the ring, the counts of its frame start and frame end, what its header tells, the epoch its
first line was registered into, the lines it holds with their lengths, and whether its header has been written (R405). -/
structure PlaneFrame where
  pos     : Nat
  number  : Nat := 0
  startAt : Tick := 0
  endAt   : Option Tick := none
  stamp   : Option Tick := none
  epoch   : Nat := 0
  regIn   : Option Nat := none
  lines   : List (Nat × Nat) := []
  headed  : Bool := false
  deriving DecidableEq, Repr

/-- A sample as registration has placed it (R372 to R376): the point, free of motion; the direction from the sample before conveyor
compensation to the sensor origin; and that origin. Positions are in Q26.6 mm. -/
structure Placed where
  p    : Int × Int × Int
  view : Int × Int × Int
  org  : Int × Int × Int
  deriving DecidableEq, Repr

/-- The item that registration works on: its epoch, its words, the sample it has come to, that sample once placed, and the next of its
updates: 0 its hit, k its k-th miss (R363, R401). -/
structure RegWork where
  num    : Nat
  words  : List U64
  next   : Nat := 0
  placed : Option Placed := none
  k      : Nat := 0
  deriving DecidableEq, Repr

/-- Registration (R362 to R422). -/
structure Rgs where
  /-- The calibration table in force, the one that waits for the next opening, and the one being read (R380). -/
  cal     : List Byte := []
  calNext : Option (List Byte) := none
  calLoad : Option (List Byte) := none
  /-- The last items of each encoder, newest first: time and unwrapped position (R374). -/
  encs    : Vector (List (Int × Int)) 4 := Vector.replicate 4 []
  /-- The last items of each IMU, newest first: time and payload (R376). -/
  imus    : Vector (List (Int × List Byte)) 2 := Vector.replicate 2 []
  screens : Vector Screen 64 := Vector.ofFn (fun i => { seg := i.val })
  /-- RESEED waits for the next epoch opening, and for the presses in this mask (R410). -/
  reseed  : Bool := false
  reseedPress : Nat := 0
  /-- Bricks in use or not yet back in the pool, and those on their way back with the seals still to come (R390). -/
  used    : FMap Bool := []
  quar    : List (Nat × Nat) := []
  /-- Guard copies held: the epoch and the directory entry; and those on their way out (R396, R398). -/
  guards  : List (Nat × Nat) := []
  freeing : List (Nat × Nat) := []
  /-- The words that registration has taken over crossings X07 and X08 of items it has not begun yet, oldest first (R362). -/
  inbox   : List GEntry := []
  /-- The item in hand (R363). -/
  work    : Option RegWork := none
  /-- The part of the directory that GRID_EN has still to empty: its address and length (R422). -/
  clear   : Option (Nat × Nat) := none
  /-- The sweep in the background: its epoch and the next directory entry (R391). -/
  sweep   : Option (Nat × Nat) := none
  /-- The epoch whose known-answer item is still to be registered (R725). -/
  kat     : Option Nat := none
  /-- The newest stamp taken of each slot (R418, R587). -/
  latest  : FMap Tick := []
  /-- The frames of each image plane, newest first. -/
  planes  : FMap (List PlaneFrame) := []
  /-- Pattern checks: the last count that passed on each port, and the epochs of each slot's last passes, newest first (R721,
  R723; log entry 6). -/
  patLast : FMap Nat := []
  patPass : FMap (List Nat) := []
  deriving DecidableEq, Repr

/-! ### Package -/

/-- The package and power block (R38 to R88), beside its registers. -/
structure Pkg where
  /-- Flash programming is suspended (R73). -/
  suspended : Bool := false
  /-- Supply warning windows, newest first: the start and, once closed, the end (R66 to R70). -/
  windows : List (Tick × Option Tick) := []
  /-- The 200 ns filter of the monitor: its start and the reading there (R66, R69). -/
  filter  : Option (Tick × Nat) := none
  /-- The start of the 100 µs clearing wait (R67). -/
  clearAt : Option Tick := none
  /-- The monitor drives SUPPLY_WARN high. -/
  warn    : Bool := false
  /-- THERMTRIP_n is low: every clock but AON stands still (R86). -/
  tripped : Bool := false
  /-- RESET_n is low. -/
  resetLow : Bool := false
  /-- The faster point of a step under way, and whether the regulator has settled at it (R61, R75). -/
  stepTo  : Option Nat := none
  settled : Bool := false
  /-- The last VOUT_COMMAND on PMBus, in mV; 0 for none (R61). -/
  vout    : Nat := 0
  /-- The straps as sampled: CHAIN_ROOT, and the SMBus target address (R44, R46). -/
  strapRoot : Bool := false
  smbAddr : Nat := 0x58
  /-- Leaves written back by the PFAIL flush under way (R700). -/
  flushed : Nat := 0
  deriving DecidableEq, Repr

/-- An operation of the recovery mailbox under way (R124). -/
structure RecOp where
  op   : Nat
  addr : Nat
  data : Nat
  deriving DecidableEq, Repr

/-- Makeready, beside its registers (R89 to R124). -/
structure Mkr where
  /-- The SVN of a running image with SVN_COMMIT: fuses are to be blown up to this count (R97). -/
  commit  : Option Nat := none
  /-- TRAIN_DRAM and JOURNAL have completed. -/
  dramOk  : Bool := false
  journalOk : Bool := false
  /-- The Foreman watchdog is disabled (R80, R98). -/
  wdogOff : Bool := false
  op      : Option RecOp := none
  /-- What the Foreman has taken from galley 48 and over crossing X18, oldest first (Table GAL-1). -/
  inbox   : List GEntry := []
  deriving DecidableEq, Repr

/-! ### Stop-press and debug (R792 to R815) -/

/-- How far a freeze has come: the engine runs; every domain but MEM has stopped; FROZEN reads 1 (R793, R794). -/
inductive Freeze where
  | running | stopping | frozen
  deriving DecidableEq, Repr

/-- Stop-press, the debug lock and the TAP, beside the DBG registers. -/
structure Dbg where
  freeze   : Freeze := .running
  srFail   : Bool := false
  unlocked : Bool := false
  lockout  : Bool := false
  fails    : Nat := 0
  /-- The challenge that is valid (R800). -/
  challenge : Option (List Byte) := none
  extestBlocked : Bool := false
  /-- The TAP instruction, and the data register last captured, lowest bits first. -/
  ir       : Nat := 0x01
  out      : List Byte := []
  boundary : List Bool := []
  /-- The scan chain selected, and by how many bits each chain is rotated (R809). -/
  chain    : Nat := 0
  rotation : FMap Nat := []
  sramAddr : Nat := 0
  deriving DecidableEq, Repr

/-! ### Sensor ingress -/

/-- A camera long packet being received, whose stamp is in the galley already: what its header gave (R322). -/
structure CamCur where
  stamp : Tick
  vc    : Nat
  wc    : Nat
  idx   : Nat
  seq   : Nat
  first : Bool
  /-- Its header was corrected. -/
  fixed : Bool
  deriving DecidableEq, Repr

/-- A pattern item being injected: its end word, and the count at which that is accepted (R346, R348). -/
structure PatInj where
  last   : U64
  doneAt : Tick
  deriving DecidableEq, Repr

/-- A camera virtual channel: the open frame, the previous nonzero frame number, and the frame's lines (R323 to R325). -/
structure CamVc where
  isOpen    : Bool := false
  number    : Nat := 0
  prev      : Nat := 0
  index     : Nat := 0
  delivered : Nat := 0
  dropped   : Nat := 0
  deriving DecidableEq, Repr

/-- A camera receiver (R318 to R325, R345 to R348). -/
structure Cam where
  cur    : Option CamCur := none
  /-- The rest of the burst is discarded (Table ING-5). -/
  skip   : Bool := false
  vcs    : Vector CamVc 4 := Vector.replicate 4 {}
  inj    : Option PatInj := none
  patSeq : Nat := 0
  deriving DecidableEq, Repr

/-- An encoder port (R337 to R340). Its inputs have pull-ups, so an undriven one is high (R43; log entry 7). -/
structure Enc where
  a       : Bool := true
  b       : Bool := true
  pos     : U32 := 0
  /-- The position after the last counted edge. -/
  posEdge : U32 := 0
  zpos    : U32 := 0
  edges   : Nat := 0
  zSeen   : Bool := false
  lastUp  : Bool := false
  illegal : Bool := false
  stamp   : Tick := 0
  deriving DecidableEq, Repr

/-- A packet template's running state (R336, R351). -/
structure Tpl where
  lastSeq : Option Nat := none
  drops   : Nat := 0
  lastAz  : Option Nat := none
  rev     : Nat := 0
  deriving DecidableEq, Repr

/-- What an IMU script does on its SPI pins: bytes it sends, and how many it clocks in after them; or how long it holds IMUn_CS_n released
(R342). -/
inductive SpiAct where
  | xfer (sent : List Byte) (got : Nat)
  | high (ns : Nat)
  deriving DecidableEq, Repr

/-- An IMU controller: the stamp of its running script, or of the last one, what that script does, and whether IMUn_CS_n is asserted
(R341, R342). -/
structure Imu where
  stamp : Tick := 0
  acts  : List SpiAct := []
  csLow : Bool := false
  deriving DecidableEq, Repr

/-- A Clause 45 frame on the MDIO pins. -/
structure MdioFrame where
  op    : Nat
  prtad : Nat
  devad : Nat
  data  : Nat
  deriving DecidableEq, Repr

/-- The ingress block (R312 to R361). -/
structure Ing where
  cams    : Vector Cam 8 := Vector.replicate 8 {}
  encs    : Vector Enc 4 := Vector.replicate 4 {}
  imus    : Vector Imu 2 := Vector.replicate 2 {}
  tpls    : Vector Tpl 16 := Vector.replicate 16 {}
  /-- Pattern sequence counts of the Ethernet injectors. -/
  ethPat  : Vector Nat 4 := Vector.replicate 4 0
  /-- Consecutive epochs each slot has delivered nothing (R353). -/
  silent  : FMap Nat := []
  mdio    : Option MdioFrame := none
  deriving DecidableEq, Repr

/-! ### Precision time on the Ethernet ports -/

/-- A transmit stamp kept for the Foreman: its key and its MDI-referred value in 2^-16 tick (R290). -/
structure TxStamp where
  mtype : Nat
  seq   : Nat
  stamp : Int
  deriving DecidableEq, Repr

/-- What the PTP engine of one port keeps: the transmit stamps, oldest first; the two-step residences of Syncs that came in
here, in 2^-16 ns (R298); the frames that came in here and cross the pair, each with the count at which it has left the buffer and its
bytes (R302); the sequence numbers of its master messages and the counts at which the last ones left (R308); and the last frame that left
the port. -/
structure PtpPort where
  txFifo  : List TxStamp := []
  resid   : List (TcKey × Int) := []
  buffer  : List (Tick × Nat) := []
  syncSeq : Nat := 0
  annSeq  : Nat := 0
  syncAt  : Option Tick := none
  annAt   : Option Tick := none
  out     : List Byte := []
  deriving DecidableEq, Repr

/-! ### Chain -/

/-- A message sent on a port and not yet acknowledged: its first SEQ, how often it has been sent again, and whether it passed
through this unit (R624, R627). -/
structure Sent where
  seq     : Nat
  resends : Nat := 0
  msg     : Msg
  deriving DecidableEq, Repr

/-- Flit credits of the four virtual channels (R620). -/
structure Credits where
  ctrl  : Nat := 64
  req   : Nat := 256
  wdata : Nat := 608
  resp  : Nat := 608
  deriving DecidableEq, Repr

/-- A message that waits to be sent on one port: it came in on the other port, or this unit made it for that port. -/
structure Waiting where
  msg  : Msg
  came : Bool
  deriving DecidableEq, Repr

/-- One chain port (R609 to R627, R655 to R658). -/
structure ChnPort where
  /-- The SEQ of the next header flit to send, and of the next one to accept. -/
  txSeq    : Nat := 0
  rxSeq    : Nat := 0
  /-- Sent and not yet acknowledged, oldest first. -/
  replay   : List Sent := []
  /-- Messages that go ahead of this unit's own: those passing through and those made for this port, oldest first. -/
  passing  : List Waiting := []
  credits  : Credits := {}
  /-- Credits this port has yet to return. -/
  owed     : Credits := { ctrl := 0, req := 0, wdata := 0, resp := 0 }
  /-- The SEQ that a NAK to the far end names, waiting to be sent. -/
  nak      : Option Nat := none
  /-- Of REQ and WDATA, WDATA was sent last (R622). -/
  wdataLast : Bool := true
  /-- Consecutive windows above REPLAY_LIMIT. -/
  overWindows : Nat := 0
  /-- Windows ended since FULL was taken again by an upshift; none when the rate was not raised (R656). -/
  sinceUp  : Option Nat := none
  /-- The next upshift waits four times UPSHIFT_S (R656). -/
  longWait : Bool := false
  /-- A window above REPLAY_LIMIT / 4 has ended since the upshift timer started (R656). -/
  dirty    : Bool := false
  /-- The rate a retraining goes to. -/
  goal     : Nat := 0
  /-- A lane's traffic is moving to the spare: the port's traffic is held (R614). -/
  held     : Bool := false
  deriving DecidableEq, Repr

/-- What a stock access answers. -/
inductive StkStatus where
  | ok | poison | wait | denied (unit : Nat) | down (unit : Nat)
  deriving DecidableEq, Repr

/-- The answer of a stock access: its status, the bytes read, and the provisional identities whose lines it used (R594). -/
structure StkAns where
  status : StkStatus := .ok
  data   : List Byte := []
  deps   : List (Nat × Nat) := []
  deriving DecidableEq, Repr

/-- A request this unit has sent and whose answer it has not used yet (R643): the message, whose work made it, and the
answer once it has come. -/
structure Outstanding where
  msg    : Msg
  agent  : Nat
  /-- Folds seen when it was last sent. -/
  folds  : Nat
  resent : Bool := false
  /-- It has been sent again, by a port that folded or by its source (R642, R643, R668). -/
  again  : Bool := false
  answer : Option StkAns := none
  deriving DecidableEq, Repr

/-- The state of the enumeration walk in this unit (R632 to R636). -/
structure EnumWalk where
  /-- A probe held until the onward port comes up: where it goes and its body. -/
  held    : Option (Port × EnumBody) := none
  /-- The lowest root serial seen. -/
  lowest  : Option Nat := none
  /-- This unit started a walk as root and has not ended it or yielded. -/
  walking : Bool := false
  /-- The walk has turned west (R632), with this many IDs taken east of the root. -/
  west    : Option Nat := none
  /-- Another root's probe has been seen. -/
  other   : Bool := false
  deriving DecidableEq, Repr

/-- The chain block (R609 to R659). -/
structure Chn where
  /-- Messages this unit has made and not yet sent on a port, oldest first. -/
  inject   : List Msg := []
  ports    : Vector ChnPort 2 := Vector.replicate 2 {}
  map      : ChainMap := {}
  walk     : EnumWalk := {}
  /-- At the root: the die serial of each ID, and the IDs held for a serial after their unit was lost (R639). -/
  serials  : FMap Nat := []
  heldIds  : FMap Nat := []
  outs     : List Outstanding := []
  nextTag  : Nat := 0
  /-- The ATOMIC tag counter for each home unit (R647). -/
  atomTags : Vector Nat 16 := Vector.replicate 16 0
  /-- The last 64 atomics of each source unit, newest first: tag and result (R648). -/
  atomics  : Vector (List (Nat × U64)) 16 := Vector.replicate 16 []
  /-- The proxy request under way (R651). -/
  proxy    : Option Msg := none
  deriving DecidableEq, Repr

/-! ### Stock -/

/-- A leaf resident in the cache (R681). -/
structure Leaf where
  dirty   : Bool := false
  hot     : Bool := false
  keep    : Bool := false
  dura    : Nat := 0
  age     : Nat := 0
  dirtyAt : Tick := 0
  /-- A store has come since the write-back under way copied the leaf. -/
  again   : Bool := false
  deriving DecidableEq, Repr

/-- A write-back under way: the leaf as it was copied (R687, R704). -/
structure WriteBack where
  leaf : Nat
  data : Mem
  dura : Nat
  deriving DecidableEq, Repr

/-- A line of the write-combining buffer: its stock address over 64, the count of its first store, its bytes by offset and the
provisional owner of its stores (R667). -/
structure WcLine where
  line  : Nat
  first : Tick
  bytes : FMap Byte
  owner : Option (Nat × Nat)
  epoch : Nat
  agent : Nat
  cls   : Nat
  deriving DecidableEq, Repr

/-- An entry of the provisional page table: the owning unit and PID, and the mask of lines written (R591). -/
structure PptEntry where
  unit : Nat
  pid  : Nat
  mask : Nat
  deriving DecidableEq, Repr

/-- The stock of this unit (R660 to R708). -/
structure Stk where
  /-- The DRAM-flat tier by offset; what it holds after power-on is undefined (R120). -/
  dram     : Mem := { undef := [⟨0, 32 * 2 ^ 30, 0⟩] }
  /-- The flash-backed tier as written back, by offset. -/
  flash    : Mem := {}
  /-- The contents of resident leaves, by flash-backed offset. -/
  cache    : Mem := {}
  leaves   : FMap Leaf := []
  /-- The read-miss counts, most recently used first (R682). -/
  misses   : List (Nat × Nat) := []
  /-- Leaves whose fill is under way (R682). -/
  fills    : List Nat := []
  wbs      : List WriteBack := []
  /-- Use counter behind the LRU ages. -/
  uses     : Nat := 0
  wc       : List WcLine := []
  /-- Poisoned lines, by stock address over 64 (R602, R706). -/
  poison   : FMap Bool := []
  /-- The provisional page table, by stock address over 4096 (R591). -/
  ppt      : FMap PptEntry := []
  /-- Journal: the next sequence number, the records since the last checkpoint, and which checkpoint copies are valid. -/
  jseq     : Nat := 0
  jrecs    : Nat := 0
  ckptOk   : Bool × Bool := (true, true)
  /-- Atomics that wait at this home unit for rings that a PCIe reset has emptied: class, address and operation (R171). -/
  late     : List (Nat × Nat × AccessOp) := []
  /-- Agents, as a mask, that stored to the DRAM-flat tier since their last DURABLE fence (R697). -/
  flatSince : Nat := 0
  /-- For each agent, the mask of units it stored to since its last DURABLE fence (R696). -/
  durSince : FMap Nat := []
  /-- Accesses that wait and have been counted: the agent and the address. -/
  waiting  : List (Nat × Nat) := []
  /-- Partitions whose inline check bits are being initialised, as a mask (R718). -/
  initMask : Nat := 0
  /-- Miss-count promotion is held off while flash is saturated (R783). -/
  promoHold : Bool := false
  /-- The share of DRAM data cycles, in per cent, that BEST_EFFORT requests get at most in this window while others wait (R782). -/
  beCap     : Nat := 100
  /-- The answer of the last STOCK_ACCESS. -/
  last     : StkAns := {}
  deriving DecidableEq, Repr

/-! ### Presses (R423 to R473, R494 to R509) -/

/-- What PRS_STATUS shows of a press, but for FENCED, which PRESS_MAP tells (R473). -/
inductive PressMode where
  | idle | loading | running | handler | stopping
  deriving DecidableEq, Repr

/-- A set of accumulators: its 512 values and their SAT bits, in column order (R437, R438). -/
structure AccSet where
  vals : List Int := List.replicate 512 0
  sats : List Bool := List.replicate 512 false
  deriving DecidableEq, Repr

/-- A set in the drain queue, and whether its first half has been taken (R496, R502). -/
structure DrainSet where
  set  : AccSet
  half : Bool := false
  deriving DecidableEq, Repr

/-- An entry of a store buffer: a store of up to 64 bytes, or the atomic of a guard copy (R462, R715). -/
structure SbEntry where
  addr  : Nat
  op    : AccessOp
  cls   : Nat
  epoch : Nat
  owner : Option (Nat × Nat) := none
  /-- The stream that waits for the result of an atomic. -/
  sid   : Nat := 0
  deriving DecidableEq, Repr

/-- A transfer that a slug has started, with its operands as read at issue. -/
inductive StreamOp where
  | wload (f : AryFields)
  /-- A RUN, the tokens it has done, and for case mode the BUILD of its slug. -/
  | run (f : AryFields) (b : Option BuildFields) (tok : Nat)
  | peek (group plane addr : Nat)
  | hload (f : HndFields)
  | hrun (f : HndFields)
  | sload (stock bank len : Nat) (provOk : Bool)
  | satom (stock : Nat) (op : AccessOp) (epoch : Nat)
  | gsend (g : GalleyId) (words : List U64) (begun : Bool)
  | grecv (bank room stored dropped : Nat)
  | bcopy (src dst len : Nat)
  | icopy (record : Nat)
  | brick (key bank epoch : Nat)
  | fwalk (ra rb : U64) (bank : Nat)
  deriving DecidableEq, Repr

/-- A stream of a press: its number, its unit (0 array, 1 hand press, 2 MOV), its BWAIT kind, the g register that takes its
result, the result, and what is still to do (R460, R482, R489). -/
structure PStream where
  sid  : Nat
  unit : Nat
  kind : Nat
  rd   : Reg := 0
  val  : Option U64 := none
  todo : Option StreamOp := none
  /-- It is a GRECV (R493). -/
  recv : Bool := false
  /-- The Bank as it is without what this stream has written, and the extents it has written (R471, R483). -/
  was   : Mem := {}
  wrote : List (Nat × Nat) := []
  /-- Bank lines it has still to access, as runs of first line and count, and the cycles it has waited for the next (R460). -/
  left   : List (Nat × Nat) := []
  waited : Nat := 0
  deriving DecidableEq, Repr

/-- An image in slug memory: where it came from and what its header gave (R424, R427). -/
structure Image where
  addr    : Nat
  crc     : Nat
  deriving DecidableEq, Repr

/-- What a launch took from its image header (Table PRS-1). -/
structure Header where
  act     : Nat := 2
  stoch   : Bool := false
  count   : Nat := 1
  entry   : Nat := 0
  handler : Nat := 0xFFFF
  slugOfs : Nat := 0
  crc     : Nat := 0
  deriving DecidableEq, Repr

/-- One press. -/
structure PressSt where
  mode    : PressMode := .idle
  /-- Ring and tag of the launch that holds it. -/
  launch  : Option (Nat × Nat) := none
  /-- END has issued (R492). -/
  ended   : Bool := false
  pc      : Nat := 0
  g       : Vector U64 32 := Vector.replicate 32 0
  /-- Predicates p1 to p7 as a mask; bit 0 is p0. -/
  p       : Nat := 1
  /-- Lanes of v0 to v31; an unlisted lane is 0. -/
  v       : Vector (List U32) 32 := Vector.replicate 32 []
  acc     : Vector AccSet 2 := Vector.replicate 2 {}
  bank    : Mem := {}
  /-- Bank and slug-memory words that hold an error, by word: 1 where one bit is wrong, 2 where the code cannot correct it (R431, R461). -/
  bankBad : FMap Nat := []
  slugs   : Mem := {}
  slugBad : FMap Nat := []
  image   : Option Image := none
  /-- The weight store, and the mode of its last load (R434). -/
  wstore  : Mem := {}
  wmode   : Option AryMode := none
  drainQ  : List DrainSet := []
  /-- The planes of the last token built (R501). -/
  built   : List (List Byte) := []
  /-- The hand press: its stationary operand, and its held accumulators row after row (R505). -/
  stat    : List Byte := []
  held    : List U32 := []
  sb      : List SbEntry := []
  streams : List PStream := []
  nextSid : Nat := 0
  /-- The stream that last had its turn at a sub-bank (R460). -/
  turn    : Nat := 0
  /-- The cycle at which a register becomes readable: g from 0, p from 32, v from 64 (R481). -/
  ready   : FMap Nat := []
  /-- PRESS cycles since the launch started (Table SLG-7). -/
  cycle   : Nat := 0
  /-- Cycles without issue still to come (R459, R484). -/
  bubble  : Nat := 0
  /-- Flags of the last word GPOP took (Table SLG-7). -/
  popEnd  : Bool := false
  popAbort : Bool := false
  /-- A FENCE whose condition does not hold yet (R489). -/
  fence   : Option FenceKind := none
  /-- Another press's exception stops this one at the end of this cycle (R471, R472). -/
  stopAt  : Option Nat := none
  /-- The cause under which the handler was entered (R469, R472). -/
  handled : Option Nat := none
  /-- The handler's first slug waits for earlier stores and streams (R468). -/
  settle  : Bool := false
  /-- Slugs retired in this launch (R153). -/
  retired : Nat := 0
  /-- Selections of the last indexed K walks, by sequence (R552). -/
  walks   : FMap (List Nat) := []
  /-- The launch's provisional bit on this press (R488). -/
  prov    : Bool := false
  deriving DecidableEq, Repr

/-! ### Launches (R423, R588 to R607, R726 to R734) -/

/-- How a launch was stopped: the completion status and its DETAIL, and the cycle and the press of the exception that stopped it
(R471, R472). -/
structure Stop where
  status : Nat
  detail : Nat := 0
  raised : Option (Nat × Nat) := none
  deriving DecidableEq, Repr

/-- A NET_LAUNCH from its dispatch to its final completion. -/
structure Launch where
  ring     : Nat
  tag      : Nat
  slot     : Nat
  cls      : Nat
  epoch    : Nat
  runAhead : Bool := false
  accept   : Bool := false
  mask     : Nat
  /-- The presses that hold it: each with the press whose rank and numbering it takes (R712). -/
  presses  : List (Nat × Nat) := []
  net      : Nat
  arg      : Nat := 0
  out      : Nat := 0
  argLen   : Nat := 0
  timeout  : Nat := 0
  hdr      : Header := {}
  started  : Bool := false
  startAt  : Tick := 0
  /-- It started provisionally; its own epoch decision, once taken (R588, R598). -/
  provStart : Bool := false
  ownDone  : Bool := false
  /-- Its provisional bit, whether it has ever been set, its identity and its dependency set (R488, R590, R594). -/
  prov     : Bool := false
  wasProv  : Bool := false
  pid      : Option Nat := none
  deps     : List (Nat × Nat) := []
  /-- Decided: confirmed or retracted, with the LATE_ROI the final entry names (R598, R607). -/
  verdict  : Option Bool := none
  late     : Nat := 0
  stop     : Option Stop := none
  /-- Every press has ended and drained; the slugs of the busiest one (R492, R153). -/
  done     : Bool := false
  result   : Nat := 0
  /-- The PROVISIONAL entry has been posted (R606). -/
  previewed : Bool := false
  /-- Its final entry has been posted; it is kept for its decision (R603). -/
  posted   : Bool := false
  /-- Sequences it holds (R541). -/
  seqs     : List Nat := []
  /-- The stores it has made, newest first: address and length (R158, R169). -/
  wrote    : List (Nat × Nat) := []
  /-- It has been counted in PID_WAIT (R590). -/
  pidWaited : Bool := false
  /-- A guard launch that does not run because a pair is single (R730). -/
  single   : Bool := false
  deriving DecidableEq, Repr

/-! ### Rings (R130 to R171) -/

/-- The states of a ring (Table HST-7). -/
inductive RingState where
  | disabled | active | draining | error
  deriving DecidableEq, Repr

/-- A result that waits to be written to a completion queue (Table HST-5); what depends on the moment of writing is added
there. -/
structure Compl where
  tag     : Nat
  slot    : Nat
  status  : Nat
  final   : Bool := true
  prov    : Bool := false
  /-- The epoch of the work, none when it has none. -/
  epoch   : Option Nat := none
  result  : Nat := 0
  detail  : Nat := 0
  irqNow  : Bool := false
  /-- It comes from checks 2 to 7 of R157 (HST_RING_COUNT). -/
  rejected : Bool := false
  deriving DecidableEq, Repr

/-- A descriptor in flight, from its fetch to its final completion (R136). -/
structure Flight where
  slot    : Nat
  tag     : Nat
  desc    : List Byte
  started : Bool := false
  /-- Its final result has been posted, or it is to be completed by DESCRIPTOR_FETCH's checks. -/
  done    : Bool := false
  /-- What the engine read with the descriptor: the shape record, the image header, imposition tables (R134). -/
  extra   : List (List Byte) := []
  /-- The RESULT of a copy or pool write whose data is on its way to being VISIBLE (Table HST-4). -/
  wrote   : Option Nat := none
  /-- The schedule of a TRG_SCHED that waits for room in its output's queue (R260). -/
  placing : Bool := false
  /-- The epoch an EPOCH_MARK resolved at its start. -/
  mark    : Option Nat := none
  deriving DecidableEq, Repr

/-- One ring pair, beside its registers. -/
structure Ring64 where
  state    : RingState := .disabled
  sqTail   : Nat := 0
  cqHead   : Nat := 0
  phase    : Bool := true
  flights  : List Flight := []
  results  : List Compl := []
  /-- Tags of the last 256 final completions other than DUPLICATE, newest first (R160). -/
  window   : List Nat := []
  /-- Entries written since the last message, and whether the timer runs (R164). -/
  unsig    : Nat := 0
  timerOn  : Bool := false
  /-- The descriptor at the head, read and not yet checked to the end (R134). -/
  fetched  : Option (List Byte) := none
  flush    : Bool := false
  deriving DecidableEq, Repr

/-- The arbiter of R143: descriptors fetched in this round of the weights from OPERATIONAL and from BEST_EFFORT rings, and the
last ring served in each class. After reset each class begins with ring 0, and OPERATIONAL with its weight before BEST_EFFORT (DESIGN CHOICE;
log entry 49). -/
structure Arb where
  op   : Nat := 0
  be   : Nat := 0
  last : Vector Nat 3 := Vector.replicate 3 63
  deriving DecidableEq, Repr

/-! ### Scene memory (R533 to R584) -/

/-- States of a sequence (Table SCN-1). -/
inductive SeqState where
  | free | resident | preempting | swapped | swappingIn
  deriving DecidableEq, Repr

/-- A sequence: its folio list, its swap record, and when it was last walked. -/
structure Sequence where
  state    : SeqState := .free
  kLog2    : Nat := 0
  priority : Nat := 0
  folios   : List Nat := []
  /-- Where its folios lie or go to in host memory (R580). -/
  hostAddr : Nat := 0
  /-- Where a swap-in under way reads them (R582). -/
  readAt   : Nat := 0
  /-- Its swapped folios in list order: each one's place there and the CRC-32 over its bytes (R545, R580, R583). -/
  parts    : List (Nat × Nat) := []
  walked   : Nat := 0
  /-- The descriptor that a swap under way belongs to: ring and tag, none for a pre-emption (R580 to R583). -/
  cause    : Option (Nat × Nat) := none
  fset     : Nat := 0
  deriving DecidableEq, Repr

/-- Scene memory. -/
structure Scn where
  seqs   : FMap Sequence := []
  /-- Counts walks, to tell the oldest last FWALK (R579). -/
  walks  : Nat := 0
  /-- The folio descriptor under way: ring and tag (R542). -/
  busy   : Option (Nat × Nat) := none
  /-- Bytes swapped out and in, of which SCN_SWAP_BYTES shows the MiB. -/
  outBytes : Nat := 0
  inBytes  : Nat := 0
  deriving DecidableEq, Repr

/-! ### Run-ahead (R585 to R608) -/

/-- Provisional identities of this unit in use, with the ring and tag of their launches (R590, R603). -/
structure Run where
  pids : FMap (Nat × Nat) := []
  deriving DecidableEq, Repr

/-! ### Guard (R709 to R743) -/

/-- What the proof comparator keeps of one pair: the entries of the PRIMARY and of the SHADOW not yet compared, oldest first,
the pairs of entries compared, what each copy had at its END (entries and slugs retired), and whether a mismatch has ended
its sending (R715, R716). -/
structure ProofPair where
  a       : List SbEntry := []
  b       : List SbEntry := []
  count   : Nat := 0
  endA    : Option (Nat × Nat) := none
  endB    : Option (Nat × Nat) := none
  /-- The count at which the first copy reached END (R716). -/
  endAt   : Tick := 0
  stopped : Bool := false
  deriving DecidableEq, Repr

/-- The guard controller, beside its registers. The SAFE pins follow GRD_STATUS.VALID: while it is 1, SAFE_A is high, SAFE_B is
low and SAFE_CLK toggles; while it is 0 they are in the safe state (R735). -/
structure Grd where
  /-- Consecutive published epochs that were valid with VERDICT CLEAR (R738). -/
  run     : Nat := 0
  /-- The earliest epoch from which a latching cause is held (R737, Table GRD-1). -/
  latched : Option Nat := none
  /-- The press time slot of R720 is open. -/
  slot    : Bool := false
  /-- The share of DRAM data cycles, in per cent, that GUARD-class requests had in the last 1 µs window (R719). -/
  share   : Nat := 0
  pairs   : Vector ProofPair 4 := Vector.replicate 4 {}
  deriving DecidableEq, Repr

/-! ### Repair and failover (R744 to R777) -/

/-- A repair in effect, in the form of a soft repair table entry (Table REP-2): kind is TYPE, where 7 is a fence. -/
structure Repair where
  kind  : Nat
  unit  : Nat := 0
  a     : Nat := 0
  b     : Nat := 0
  spare : Nat := 0
  cause : Nat := 0
  deriving DecidableEq, Repr

/-- Field self-test of one press (R751 to R756): the passes asked for, the next segment of the pass under way (0 between
passes), whether that pass was forced by SUSPECT and has found a fault, and when passes left a mismatch unexplained. -/
structure Bist where
  host   : Bool := false
  due    : Bool := false
  forced : Bool := false
  next   : Nat := 0
  ofSuspect : Bool := false
  found  : Bool := false
  unexplained : List Tick := []
  deriving DecidableEq, Repr

/-- The steps of a checkpoint (R766), each waiting for what it wrote to be VISIBLE but for the copy. -/
inductive CkptStep where
  | zero | copy | record | commit
  deriving DecidableEq, Repr

/-- A checkpoint under way: its number, its step, whether the write of that step has been made, the section and the offset in it
that are copied next, and what its records will tell. -/
structure Ckpt where
  n       : Nat
  step    : CkptStep := .zero
  posted  : Bool := false
  sect    : Nat := 0
  off     : Nat := 0
  epochAt : Nat := 0
  startAt : Tick := 0
  crc     : Nat := 0
  deriving DecidableEq, Repr

/-- An adoption under way (R773): the next section, and how it ended. -/
structure Adopt where
  sect  : Nat := 0
  ended : Option Bool := none
  deriving DecidableEq, Repr

/-- Self-repair and the failover pair, beside their registers. -/
structure Rep where
  /-- Repairs in effect, factory ones first. -/
  repairs : List Repair := []
  /-- The soft repair table as the Foreman holds it (R747 to R750). -/
  soft    : List Repair := []
  bist    : Vector Bist 16 := Vector.replicate 16 {}
  /-- The count at the last heartbeat of the peer (R763). -/
  heard   : Option Tick := none
  /-- The unit has demoted itself: it fetches no descriptors (R776). -/
  demoted : Bool := false
  /-- A takeover that still reads its slots: its µs after the loss (R770, R771). -/
  taking  : Option Nat := none
  ckpt    : Option Ckpt := none
  adopt   : Option Adopt := none
  deriving DecidableEq, Repr

/-- What the board fits (R661, R662, R699). -/
structure Board where
  dramBytes  : Nat := 32 * 2 ^ 30
  flashBytes : Nat := 512 * 2 ^ 30
  channels   : Nat := 8
  deriving DecidableEq, Repr

/-- What the OTP fuses hold (R95, R97, R761, R799, R800; log entry 2). -/
structure Otp where
  /-- The 64-bit die serial. -/
  serial : Nat := 0
  /-- SKU: 0 for a ZL-1600, 1 for a ZL-1400. -/
  sku    : Nat := 0
  /-- The hash of the firmware key. -/
  keyHash : List Byte := List.replicate 32 0
  /-- Blown fuses of the SVN field. -/
  svn    : Nat := 0
  /-- DEBUG_KEY_HASH. -/
  debugHash : List Byte := List.replicate 32 0
  /-- Factory repairs and factory fences. -/
  repairs : List Repair := []
  deriving DecidableEq, Repr

/-! ### The whole block -/

/-- The state of the block. -/
structure State where
  /-- The commands that wait, first in, first out. -/
  pending : List Instr := []
  /-- BAR0 registers by offset; an unlisted one holds its reset value. -/
  regs    : FMap U64 := []
  /-- The lower halves last written, by register offset (R13). -/
  halves  : FMap U32 := []
  /-- The model's own counter of free values; no statement rests on its value. -/
  free    : Nat := 1
  bus     : Bus := {}
  gals    : Vector Galley 64 := Vector.ofFn (fun g => galleyReset g.val)
  /-- The lanes of the crossings that have carried anything, by crossing and lane. -/
  gutters : FMap Gutter := []
  dtl     : Dtl := {}
  /-- The epochs the block still keeps, newest first. -/
  epochs  : List EpochRec := []
  ptp     : Vector PtpPort 4 := Vector.replicate 4 {}
  pkg     : Pkg := {}
  mkr     : Mkr := {}
  dbg     : Dbg := {}
  ing     : Ing := {}
  rgs     : Rgs := {}
  chn     : Chn := {}
  board   : Board := {}
  otp     : Otp := {}
  /-- The boot flash by address. -/
  qspi    : Mem := { fill := 0xFF }
  stk     : Stk := {}
  presses : Vector PressSt 16 := Vector.replicate 16 {}
  launches : List Launch := []
  rings   : Vector Ring64 64 := Vector.replicate 64 {}
  arb     : Arb := {}
  scn     : Scn := {}
  run     : Run := {}
  grd     : Grd := {}
  rep     : Rep := {}
  deriving DecidableEq, Repr

/-- The block right after reset. -/
def State.reset : State := {}

end Sys2Proof.Machine
end

