-- ==== Sys2Proof/Machine/Ops.lean ====
section
/-!
DEFINITION. The named operations over registers, notices, MSI-X messages and free values. Every block reads and
writes its registers through these; Laws/Ops.lean says what each does.
-/

namespace Sys2Proof.Machine

/-- The outcome type of a meaning. -/
abbrev Result := Host.Outcome State Fault Refusal

/-! ### The engine's clocks -/

/-- The engine does nothing of its own and answers nobody: it is frozen (R793, R798), a thermal trip has stopped its clocks (R86),
or RESET_n is low. -/
def State.halted (s : State) : Bool := decide (s.dbg.freeze ≠ .running) || s.pkg.tripped || s.pkg.resetLow

/-- The count of ticks that some µs take. -/
def usTicks (us : Nat) : Nat := 500 * us

/-- Replace the queue. -/
def State.setPending (s : State) (q : List Instr) : State := { s with pending := q }

/-- The state that a command leads to: the queue is the step's own. -/
def State.goes (s s' : State) : Result := .next (s'.setPending s.pending)

/-- What a command does that the engine takes part in: the state it leads to, and nothing while the engine stands still. -/
def State.live (s s' : State) : Result := s.goes (if s.halted then s else s')

/-! ### Replacing one part of the state -/

/-- Replace makeready. -/
def State.setMkr (s : State) (x : Mkr) : State := { s with mkr := x }

/-- Replace stop-press and debug. -/
def State.setDbg (s : State) (x : Dbg) : State := { s with dbg := x }

/-- Replace the PCIe side. -/
def State.setBus (s : State) (x : Bus) : State := { s with bus := x }

/-- Replace the Dateline. -/
def State.setDtl (s : State) (x : Dtl) : State := { s with dtl := x }

/-- Replace the ingress block. -/
def State.setIng (s : State) (x : Ing) : State := { s with ing := x }

/-- Replace the package block. -/
def State.setPkg (s : State) (x : Pkg) : State := { s with pkg := x }

/-- Replace the stock. -/
def State.setStk (s : State) (x : Stk) : State := { s with stk := x }

/-- Replace registration. -/
def State.setRgs (s : State) (x : Rgs) : State := { s with rgs := x }

/-- Replace the chain block. -/
def State.setChn (s : State) (x : Chn) : State := { s with chn := x }

/-- Replace self-repair and failover. -/
def State.setRep (s : State) (x : Rep) : State := { s with rep := x }

/-! ### Fields of a word -/

/-- The mask of a field. -/
def Fld.mask (f : Fld) : U64 := BitVec.ofNat 64 ((2 ^ f.w - 1) * 2 ^ f.lo)

/-- The value of a field of a register word. -/
def Fld.get (f : Fld) (r : U64) : Nat := (BitVec.extractLsb' f.lo f.w r).toNat

/-- A register word with a field set to v, modulo the field's width. -/
def Fld.put (f : Fld) (r : U64) (v : Nat) : U64 :=
  (r &&& ~~~ f.mask) ||| (((BitVec.ofNat f.w v).setWidth 64) <<< f.lo)

/-- The largest value a field holds. -/
def Fld.top (f : Fld) : Nat := 2 ^ f.w - 1

/-- A two's-complement reading of the low w bits of v. -/
def toSigned (w v : Nat) : Int :=
  let u := v % 2 ^ w
  if 2 * u < 2 ^ w then (u : Int) else (u : Int) - 2 ^ w

/-- The w-bit two's-complement image of an integer. -/
def ofSigned (w : Nat) (i : Int) : Nat := (i % 2 ^ w).toNat

/-- The signed distance from epoch b to epoch a, modulo 2^32. -/
def epDist (a b : Nat) : Int := toSigned 32 ((a + 2 ^ 32 - b % 2 ^ 32) % 2 ^ 32)

/-- A value held between two limits, both included. -/
def clampNat (lo hi v : Nat) : Nat := max lo (min hi v)

/-- An integer held between two limits, both included. -/
def clampInt (lo hi v : Int) : Int := max lo (min hi v)

/-- A quotient for which the spec gives a formula and no rounding: exact where it divides, else one of the two whole
numbers beside it, which one being free (log entry 1). -/
def roundQ (num den : Int) : Int :=
  if num % den = 0 then num / den else num / den + (if Config.roundsUp num den then 1 else 0)

/-- A quotient rounded to the nearest whole number; which of two equally near ones is free (log entry 1). -/
def nearQ (num den : Int) : Int :=
  let q := num / den
  let r := 2 * (num % den)
  if r < den then q else if den < r then q + 1 else q + (if Config.roundsUp num den then 1 else 0)

/-- A value in a signed 32-bit format; outside its range the spec states no result (log entry 10). -/
def fit32 (v : Int) : Int := if -2147483648 ≤ v ∧ v < 2147483648 then v else Config.outOfRange v

/-! ### Registers -/

/-- The word of the register at an offset. -/
def State.reg (s : State) (off : Nat) : U64 := FMap.get regReset s.regs off

/-- Store the word of the register at an offset. -/
def State.setReg (s : State) (off : Nat) (v : U64) : State := { s with regs := FMap.set regReset s.regs off v }

/-- The value of a register field. -/
def State.getF (s : State) (f : Fld) : Nat := f.get (s.reg f.off)

/-- Set a register field. -/
def State.setF (s : State) (f : Fld) (v : Nat) : State := s.setReg f.off (f.put (s.reg f.off) v)

/-- Whether a one-bit field is 1. -/
def State.bitF (s : State) (f : Fld) : Bool := s.getF f != 0

/-- Add to a counter that saturates. -/
def State.incSat (s : State) (f : Fld) (n : Nat := 1) : State := s.setF f (min f.top (s.getF f + n))

/-- Add to a counter that wraps. -/
def State.incWrap (s : State) (f : Fld) (n : Nat := 1) : State := s.setF f (s.getF f + n)

/-- Raise a field to a value where it is lower, saturating. -/
def State.maxF (s : State) (f : Fld) (v : Nat) : State := s.setF f (max (s.getF f) (min f.top v))

/-- Put a register back to its reset value. -/
def State.resetReg (s : State) (off : Nat) : State := { s with regs := FMap.clearRun s.regs off 1 }

/-- Put every register of [lo, hi) back to its reset value. -/
def State.resetRegs (s : State) (lo hi : Nat) : State := { s with regs := FMap.clearRun s.regs lo (hi - lo) }

/-- Write the fields of one type of the register at an offset, leaving the others (Table SCP-3). -/
def State.writeKind (s : State) (off : Nat) (k : RegKind) (v : U64) : State :=
  match regAt off with
  | none => s
  | some r =>
    let m := kindMask (fun k' => decide (k' = k)) r.fields
    s.setReg off ((s.reg off &&& ~~~ m) ||| (v &&& m))

/-! ### What the host does before READY (R113, R114) -/

/-- Makeready has reached READY. -/
def State.ready (s : State) : Bool := s.bitF MKR_STATUS.READY

/-- A host write outside the MKR block: before READY it is ignored (R114). -/
def State.host (s s' : State) : Result := s.goes (if s.halted || !s.ready then s else s')

/-- Give a read's bytes to the host. -/
def State.readBack (s : State) (bs : List Byte) : State := { s with bus := { s.bus with lastRead := bs } }

/-- The not-ready word (R113). -/
def State.notReadyWord (s : State) : U64 :=
  BitVec.ofNat 64 (0x5944524E + 2 ^ 32 * s.getF MKR_STATUS.PHASE + 2 ^ 40 * s.getF MKR_STATUS.ERROR + 2 ^ 48 * s.getF MKR_STATUS.RESET_CAUSE)

/-- The bytes of a register word that a read of one form returns (R113, R203). -/
def rxPart (form : RxForm) (w : Nat) : List Byte :=
  match form with
  | .full => leBytes 8 w
  | .lower => leBytes 4 w
  | .upper => leBytes 4 (w / 2 ^ 32)

/-- A host read outside the MKR block that has an effect: before READY it returns the not-ready word (R113). -/
def State.hostRd (s : State) (form : RxForm) (s' : State) : Result :=
  s.goes (if s.halted then s else if s.ready then s' else s.readBack (rxPart form s.notReadyWord.toNat))

/-! ### Free values -/

/-- Take a free 64-bit value (log entry 1). -/
def State.takeFree (s : State) : U64 × State := (Config.freeWord s.free, { s with free := s.free + 1 })

/-- Advance the counter of free values: a new generation of lost contents. -/
def State.bumpFree (s : State) : State := { s with free := s.free + 1 }

/-- Free bytes: what no rule tells. -/
def State.freeBytes (s : State) (n : Nat) : List Byte × State := ((List.range n).map (Config.freeByte s.free), s.bumpFree)

/-- Bytes filled up to a length with bytes that no rule tells: those of a generation, from an offset on. -/
def fillTo (gen base n : Nat) (bs : List Byte) : List Byte :=
  bs.take n ++ (List.range (n - bs.length)).map (fun i => Config.freeByte gen (base + bs.length + i))

/-! ### MSI-X and notices -/

/-- Send one MSI-X message over PCIe, or hold it in the pending-bit array while its vector is masked (R164 to R166); with MSI-X off there
is none (log entry 33). -/
def State.msixLocal (s : State) (vec : Nat) : State :=
  if !s.bus.msixOn then s
  else if s.bus.fnMask || s.bus.vecMask.getLsbD vec then
    { s with bus := { s.bus with pba := s.bus.pba ||| (1#64 <<< vec) } }
  else { s with bus := { s.bus with msix := vec :: s.bus.msix } }

/-- The messages of the pending-bit array whose vectors are no longer masked go out. -/
def State.msixRelease (s : State) : State :=
  if s.bus.msixOn && !s.bus.fnMask then
    ((List.range 64).filter (fun v => s.bus.pba.getLsbD v && !s.bus.vecMask.getLsbD v)).foldl State.msixLocal
      { s with bus := { s.bus with pba := s.bus.pba &&& s.bus.vecMask } }
  else s

/-- The notices of Table ARC-7. -/
inductive Notice where
  | supplyWarn | pfail | thermal | galleyFault | refSwitch | holdover | laneErr | coverageLow | patternFail
  | proofMismatch | safeState | deadlineMiss | repairDone | pressFenced | chainFold | chainAttach | failover
  | policyConflict
  deriving DecidableEq, Repr

/-- The status bit of a notice (R31). -/
def Notice.bit : Notice → Nat
  | .supplyWarn => 0 | .pfail => 1 | .thermal => 2 | .galleyFault => 3 | .refSwitch => 4 | .holdover => 5
  | .laneErr => 6 | .coverageLow => 7 | .patternFail => 8 | .proofMismatch => 9 | .safeState => 10
  | .deadlineMiss => 11 | .repairDone => 12 | .pressFenced => 13 | .chainFold => 14 | .chainAttach => 15
  | .failover => 16 | .policyConflict => 17

/-- The mask of a list of notices. -/
def noticeMask (ns : List Notice) : Nat := ns.foldl (fun m n => m ||| 2 ^ n.bit) 0

/-- IRQ_FWD's opcode (Table CHN-4). -/
def opIrqFwd : Nat := 0x0C

/-- Send one MSI-X message, or IRQ_FWD to the root on a unit whose control master is the root (R654). -/
def State.msixSend (s : State) (vec : Nat) : State :=
  if s.bitF CHN_CFG.MASTER then
    { s with chn := { s.chn with inject := s.chn.inject ++
      [{ op := opIrqFwd, src := s.getF CHN_ID.UNIT_ID, dst := s.chn.map.ids.headD 0, inline := leBytes 32 vec }] } }
  else s.msixLocal vec

/-- Raise notices that fall together: each bit is set, masked or not, and one message goes out when an unmasked bit
changes from 0 to 1 (R32, R33, R35). -/
def State.raiseAll (s : State) (ns : List Notice) : State :=
  let old := s.getF ARC_NOTICE_STATUS.NOTICE
  let new := noticeMask ns ||| old
  let s' := s.setF ARC_NOTICE_STATUS.NOTICE new
  if (new - old) &&& (0x3FFFF - s.getF ARC_NOTICE_MASK.MASK) = 0 then s'
  else s'.msixSend (s.getF ARC_NOTICE_VECTOR.VECTOR)

/-- Raise one notice. -/
def State.raise (s : State) (n : Notice) : State := s.raiseAll [n]

/-- The message that a write of the status or the mask sends when it leaves an unmasked bit set (R34). -/
def State.noticeResend (s : State) : State :=
  if s.getF ARC_NOTICE_STATUS.NOTICE &&& (0x3FFFF - s.getF ARC_NOTICE_MASK.MASK) = 0 then s
  else s.msixSend (s.getF ARC_NOTICE_VECTOR.VECTOR)

end Sys2Proof.Machine
end

