-- ==== Sys2Proof/Machine/Coverage.lean ====
section
/-!
DEFINITION. The counting of delivered, dropped and missing units by epoch (R70, R351, R354), which the galleys, ingress and registration
share.
-/

namespace Sys2Proof.Machine

/-- Whether a stamp lies inside a supply warning window (R70, R316). -/
def State.suspectAt (s : State) (c : Tick) : Bool :=
  s.pkg.windows.any (fun w => decide (w.1 ≤ c) && (match w.2 with | none => true | some e => decide (c ≤ e)))

/-- Whether an epoch's interval holds a stamp. -/
def EpochRec.holds (e : EpochRec) (c : Tick) : Bool :=
  decide (e.openAt ≤ c) && (match e.closeAt with | none => true | some x => decide (c < x))

/-- Change a sensor's counts in the epoch that holds a stamp; an epoch already final keeps its figures (R351, R354). -/
def State.covAdd (s : State) (slot : Nat) (stamp : Tick) (f : SensorCov → SensorCov) : State :=
  { s with epochs := s.epochs.map (fun e =>
      if e.holds stamp && e.final.isNone then { e with cov := tabSet e.cov slot (f (tabGet {} e.cov slot)) } else e) }

/-- Count a delivered unit. -/
def State.covD (s : State) (slot : Nat) (stamp : Tick) : State :=
  s.covAdd slot stamp (fun c => { c with d := c.d + 1, stamps := stamp :: c.stamps })

/-- Count a dropped unit. -/
def State.covX (s : State) (slot : Nat) (stamp : Tick) : State :=
  s.covAdd slot stamp (fun c => { c with x := c.x + 1, stamps := stamp :: c.stamps })

/-- Count a gap. -/
def State.covG (s : State) (slot : Nat) (stamp : Tick) (n : Nat) : State :=
  if n = 0 then s else s.covAdd slot stamp (fun c => { c with g := c.g + n })

/-- Some unit of a sensor was stamped in a warning window: windows that opened after the unit was counted, and reach back over its stamp,
are among them (R69, R70, Table ING-8). -/
def State.covSuspect (s : State) (c : SensorCov) : Bool := c.stamps.any s.suspectAt

end Sys2Proof.Machine
end

