-- ==== Sys2Proof/Machine/Galleys.lean ====
section
/-!
DEFINITION. Galleys and gutters (R174 to R219): handshakes, commit and stream mode, flush, fault reset,
discard-to-end, disabled galleys, the host data ports, and the synchronisers of the crossings.
-/

namespace Sys2Proof.Machine

/-! ### The SEC-DED code of a stored word (R174, R176) -/

/-- The place of each data bit in the extended Hamming code: 1 to 71 without the powers of two (log entry 31). -/
def hammingPlaces : List Nat :=
  (List.range 72).filter (fun p => !([0, 1, 2, 4, 8, 16, 32, 64].contains p))

/-- The data bits that check bit k covers. -/
def checkGroup (k : Nat) : List Nat :=
  (List.range 64).filter (fun i => ((hammingPlaces[i]?).getD 0).testBit k)

/-- The parity of the data bits listed. -/
def parityOf (is : List Nat) (d : U64) : Bool := is.foldr (fun i p => d.getLsbD i ^^ p) false

/-- Check bit k, from 0 to 6, of a data word. -/
def checkBit (k : Nat) (d : U64) : Bool := parityOf (checkGroup k) d

/-- The parity of all check bits but the last of a data word, and of the data: the last check bit makes the code word even. -/
def evenBit (d : U64) : Bool :=
  (List.range 7).foldr (fun k p => checkBit k d ^^ p) (parityOf (List.range 64) d)

/-- The check bits of a data word. -/
def checkBits (d : U64) : BitVec 8 :=
  BitVec.ofBoolListLE [checkBit 0 d, checkBit 1 d, checkBit 2 d, checkBit 3 d, checkBit 4 d, checkBit 5 d, checkBit 6 d, evenBit d]

/-- A word as it is stored: its check bits, and three copies of its end mark. -/
def CWord.make (d : U64) (isEnd : Bool) : CWord :=
  { data := d, check := checkBits d, marks := if isEnd then 0b111 else 0b000 }

/-- A stored word with bits flipped. -/
def CWord.flip (w : CWord) (u : Upset) : CWord :=
  { data := w.data ^^^ u.data, check := w.check ^^^ u.check, marks := w.marks ^^^ u.marks }

/-- The place that the check bits of a stored word point to; 0 where they agree with its data. -/
def CWord.place (w : CWord) : Nat :=
  (List.range 7).foldr (fun k n => 2 ^ k * (checkBit k w.data ^^ w.check.getLsbD k).toNat + n) 0

/-- The stored word, its check bits with it, is of odd parity: an odd number of its bits is wrong. -/
def CWord.odd (w : CWord) : Bool :=
  (List.range 8).foldr (fun k p => w.check.getLsbD k ^^ p) (parityOf (List.range 64) w.data)

/-- What the check of a stored word finds: no error, one bit that it corrects, or an error it cannot correct. -/
def CWord.found (w : CWord) : Ecc :=
  if w.odd then (if w.place < 72 then .single else .double) else if w.place = 0 then .clean else .double

/-- The data of a stored word once one wrong bit is corrected (R176). -/
def CWord.value (w : CWord) : U64 :=
  if w.found = .single then
    match hammingPlaces.findIdx? (fun p => p == w.place) with
    | some i => w.data ^^^ (1#64 <<< i)
    | none => w.data
  else w.data

/-- The end mark, read by majority of its three copies (R174). -/
def CWord.isEnd (w : CWord) : Bool :=
  let a := w.marks.getLsbD 0
  let b := w.marks.getLsbD 1
  let c := w.marks.getLsbD 2
  (a && b) || (a && c) || (b && c)

/-- A stored word as it is delivered: an uncorrectable one carries POISON (R176, R178). -/
def CWord.read (w : CWord) : GWord := { data := w.value, isEnd := w.isEnd, isPoison := decide (w.found = .double) }

/-- The bits that an error of a kind flips in a stored word: one data bit, or two. -/
def eccUpset : Ecc → Upset
  | .clean => {}
  | .single => { data := 1 }
  | .double => { data := 3 }

/-! ### One galley -/

/-- The depth of a galley in words; 0 for a reserved ID (Table GAL-1). -/
def galDepth (g : Nat) : Nat := ((galTable g).map (·.1)).getD 0

/-- Whether a galley runs in commit mode, as every galley does whose producer cannot be stalled (Table GAL-1). -/
def galCommit (g : Nat) : Bool := ((galTable g).map (·.2.1)).getD false

/-- The state of galley g. -/
def State.gal (s : State) (g : GalleyId) : Galley := s.gals[g]

/-- Replace the state of galley g. -/
def State.setGal (s : State) (g : GalleyId) (x : Galley) : State := { s with gals := s.gals.set g x }

/-- End marks among the stored words: the complete items. -/
def Galley.complete (x : Galley) : Nat := x.words.countP (·.isEnd)

/-- Words the consumer may take (R181). -/
def Galley.visible (x : Galley) : Nat := x.words.length - x.uncommitted

/-- Whether the consumer finds a word, a pending synthetic end word included (R179). -/
def Galley.available (x : Galley) : Bool := x.synth || decide (0 < x.visible)

/-- Both copies of a pointer advance together (R190). -/
def Galley.advance (depth : Nat) (p : Nat × Nat) : Nat × Nat := ((p.1 + 1) % depth, (p.2 + 1) % depth)

/-- Both copies of a pointer move back over n words that are given up (R182, R190). -/
def Galley.retreat (depth n : Nat) (p : Nat × Nat) : Nat × Nat := ((p.1 + (depth - n % depth)) % depth, (p.2 + (depth - n % depth)) % depth)

/-- The pair of pointer copies that differ, if one does: the write pointer (false) or the read pointer (true) (R190, R191). -/
def Galley.mismatch (x : Galley) : Option Bool :=
  if x.wptr.1 ≠ x.wptr.2 then some false else if x.rptr.1 ≠ x.rptr.2 then some true else none

/-- A producer gives up its item: uncommitted words vanish and the item counts in PKT_DROP (R182, R188, R196). -/
def Galley.abandon (depth : Nat) (x : Galley) : Galley :=
  match x.state with
  | .normal =>
    if x.partialIn then
      { x with words := x.words.take x.visible, uncommitted := 0, partialIn := false, itemWords := 0,
               wptr := Galley.retreat depth (x.words.length - x.visible) x.wptr, pktDrop := x.pktDrop + 1 }
    else x
  | .discard =>
    { x with state := .normal, partialIn := false, itemWords := 0, cutCounted := false,
             pktDrop := if x.cutCounted then x.pktDrop else x.pktDrop + 1 }
  | .disabled =>
    if x.partialIn then
      { x with partialIn := false, itemWords := 0, cutCounted := false,
               pktDrop := if x.cutCounted then x.pktDrop else x.pktDrop + 1 }
    else x

/-- A word that discard-to-end or DISABLED swallows: its end mark counts in PKT_IN, and its item once in PKT_DROP
(R187, R196, R198, R199). -/
def Galley.swallow (x : Galley) (endMark : Bool) : Galley :=
  if endMark then
    { x with partialIn := false, itemWords := 0, cutCounted := false, pktIn := x.pktIn + 1,
             pktDrop := if x.cutCounted then x.pktDrop else x.pktDrop + 1,
             state := if x.state = .discard then .normal else x.state }
  else { x with partialIn := true, itemWords := x.itemWords + 1 }

/-- Store a word w of the producer, which ends its item or does not (R175, R181). -/
def Galley.store (depth : Nat) (commit : Bool) (x : Galley) (w : CWord) (endMark : Bool) : Galley :=
  { x with
    words := x.words ++ [w]
    uncommitted := if commit && !endMark then x.uncommitted + 1 else 0
    partialIn := !endMark
    itemWords := if endMark then 0 else x.itemWords + 1
    pktIn := if endMark then x.pktIn + 1 else x.pktIn
    wptr := Galley.advance depth x.wptr }

/-- A producer's handshake with one word. commit: a commit-mode galley, whose producer cannot be stalled and is held to MAX_ITEM by R183,
R184 and R219, in discard-to-end and DISABLED too. A full galley does not complete the handshake of a producer that can be stalled
(R180). endMark: the word carries the end mark; w: the word as it is stored. -/
def Galley.push (depth : Nat) (commit : Bool) (maxItem : Nat) (x : Galley) (w : CWord) (endMark : Bool) : Galley :=
  if x.dropping then { x with dropping := !endMark }
  else
    let first := !x.partialIn
    let lim := if first then maxItem else x.itemMax
    if commit && first && decide (x.state = .normal) && decide (depth - x.words.length < lim) then { x with dropping := !endMark }
    else if commit && decide (lim < x.itemWords + 1) then { x.abandon depth with dropping := !endMark }
    else if x.state ≠ .normal then { x with itemMax := lim }.swallow endMark
    else if depth ≤ x.words.length then x
    else Galley.store depth commit { x with itemMax := lim } w endMark

/-- The consumer takes the next word; the word with its flags, or nothing on an empty galley (R178, R179, R187). -/
def Galley.pop (depth : Nat) (x : Galley) : Option GWord × Galley :=
  if x.synth then (some { data := 0, isEnd := true, isAbort := true }, { x with synth := false })
  else if x.visible = 0 then (none, x)
  else
    match x.words with
    | [] => (none, x)
    | w :: ws =>
      (some w.read, { x with words := ws, midOut := !w.isEnd, rptr := Galley.advance depth x.rptr,
                             pktOut := if w.isEnd then x.pktOut + 1 else x.pktOut })

/-- Flush (R192 to R198): every stored word goes; complete items and a cut item whose head the consumer holds count in
PKT_DROP; the consumer's item ends with a synthetic word; the producer's item enters discard-to-end. -/
def Galley.flush (x : Galley) : Galley :=
  let cutHead := x.midOut && decide (x.complete = 0)
  { x with
    words := [], uncommitted := 0, midOut := false, synth := x.synth || x.midOut
    pktDrop := x.pktDrop + x.complete + cutHead.toNat
    cutCounted := if x.state = .normal then cutHead && x.partialIn else x.cutCounted
    state := if x.state = .normal && x.partialIn then .discard else x.state
    stateShown := x.stateShown || (decide (x.state = .normal) && x.partialIn)
    rptr := x.wptr }

/-- Disable (R199): flush, then DISABLED. -/
def Galley.disable (x : Galley) : Galley :=
  if x.state = .disabled then x else { x.flush with state := .disabled, stateShown := true }

/-- Leave DISABLED (R199): the galley starts empty; a producer still inside an item is taken into discard-to-end, so
that no word without its head is stored (R197). -/
def Galley.enable (x : Galley) : Galley :=
  if x.state = .disabled then { x with state := if x.partialIn then .discard else .normal, stateShown := true } else x

/-! ### Galleys of the block -/

/-- The counters wrap at 32 bits (R218). -/
def Galley.wrap (x : Galley) : Galley :=
  { x with pktIn := x.pktIn % 2 ^ 32, pktOut := x.pktOut % 2 ^ 32, pktDrop := x.pktDrop % 2 ^ 32 }

/-- A producer writes one word to galley g, with what an error flips of it once it is stored; a reserved ID has no galley (R185). -/
def State.galWrite (s : State) (g : GalleyId) (w : PushWord) (endMark : Bool) : State :=
  if galDepth g = 0 then s
  else
    s.setGal g (Galley.push (galDepth g) (galCommit g) (s.getF (GAL_CFG.MAX_ITEM g)) (s.gal g)
      ((CWord.make w.data endMark).flip w.upset) endMark).wrap

/-- A producer writes one word to galley g. -/
def State.galPush (s : State) (g : GalleyId) (d : U64) (endMark : Bool) : State := s.galWrite g { data := d } endMark

/-- Count what the SEC-DED check of a word read from a galley finds (R176). -/
def State.galCheck (s : State) (ecc : Ecc) : State :=
  match ecc with
  | .clean => s
  | .single => s.incSat GAL_CHECK.CORRECTED
  | .double => s.incSat GAL_CHECK.UNCORRECTED

/-- What the check of the word that a consumer takes next finds: a synthetic end word has no stored bits to check. -/
def Galley.headFound (x : Galley) : Ecc := if x.synth then .clean else ((x.words.head?).map CWord.found).getD .clean

/-- The consumer of galley g takes the next word, which its check corrects or marks POISON (R176, R179). -/
def State.galPop (s : State) (g : GalleyId) : Option GWord × State :=
  let x := s.gal g
  match x.pop (galDepth g) with
  | (none, _) => (none, s)
  | (some w, x') => (some w, (s.setGal g x'.wrap).galCheck x.headFound)

/-- An error strikes the word that the consumer of galley g takes next. -/
def State.galStrike (s : State) (g : GalleyId) (u : Upset) : State :=
  let x := s.gal g
  if x.visible = 0 then s else s.setGal g { x with words := x.words.modify 0 (fun w => w.flip u) }

/-- A whole item of a commit-mode producer that cannot be stalled: it is stored whole, or dropped whole when fewer than
MAX_ITEM words are free or it is longer than MAX_ITEM (R181 to R184). -/
def State.galPushItem (s : State) (g : GalleyId) (ws : List U64) : State :=
  (ws.zipIdx.foldl (fun s p => s.galPush g p.1 (decide (p.2 + 1 = ws.length))) s)

/-- The first words of an item, whose last word is still to come. -/
def State.galPushPart (s : State) (g : GalleyId) (ws : List U64) : State := ws.foldl (fun s w => s.galPush g w false) s

/-- Store an item whose room R347 has assured: the producer is held to n words, not to MAX_ITEM. -/
def State.galPutWord (s : State) (g : GalleyId) (n : Nat) (d : U64) (endMark : Bool) : State :=
  if galDepth g = 0 then s
  else s.setGal g (Galley.push (galDepth g) (galCommit g) n (s.gal g) (CWord.make d endMark) endMark).wrap

/-- Whether galley g has room for an item of a producer that cannot be stalled (R183). A galley that is not in its normal state takes every
word (R196, R199). -/
def State.galRoom (s : State) (g : GalleyId) : Bool :=
  decide (s.getF (GAL_CFG.MAX_ITEM g) ≤ galDepth g - (s.gal g).words.length)

/-- The producer of galley g abandons its item; the words it has still to come of one that it dropped never reach the galley (R182). -/
def State.galAbandon (s : State) (g : GalleyId) : State :=
  s.setGal g { ((s.gal g).abandon (galDepth g)).wrap with dropping := false }

/-- The galleys that feed registration (Table GAL-1). -/
def feedsRegistration (g : GalleyId) : Bool := decide (g.val < 14) || (decide (16 ≤ g.val) && decide (g.val < 20))

/-- The whole items among words, each with its words; acc holds the words of the item that goes on. -/
def itemsOf (acc : List GWord) : List GWord → List (List GWord)
  | [] => []
  | w :: ws => if w.isEnd then (acc ++ [w]) :: itemsOf [] ws else itemsOf (acc ++ [w]) ws

/-- The sensor slot and the stamp of an item that counts as a unit: a pattern item never does (R350, Table ING-2). -/
def itemUnit (ws : List GWord) : Option (Nat × Tick) :=
  match ws with
  | a :: b :: _ => if b.data.getLsbD 9 then none else some (b.data.toNat % 64, a.data.toNat)
  | _ => none

/-- The whole items stored in a galley, but for one whose head the consumer holds. -/
def Galley.items (x : Galley) : List (List GWord) :=
  (itemsOf [] (x.words.map CWord.read)).drop (if x.midOut then 1 else 0)

/-- The units that a galley of registration is about to discard count as dropped for their sensors (R351). -/
def State.unitsLost (s : State) (g : GalleyId) : State :=
  if feedsRegistration g then (((s.gal g).items.filterMap itemUnit).foldl (fun s u => s.covX u.1 u.2) s) else s

/-- Flush galley g. -/
def State.galFlush (s : State) (g : GalleyId) : State := (s.unitsLost g).setGal g (s.gal g).flush.wrap

/-- Disable galley g. -/
def State.galDisable (s : State) (g : GalleyId) : State :=
  if (s.gal g).state = .disabled then s else (s.unitsLost g).setGal g (s.gal g).disable.wrap

/-- Enable galley g. -/
def State.galEnable (s : State) (g : GalleyId) : State := s.setGal g (s.gal g).enable

/-- A fault reset (R191): every effect of a flush, both copies of each pointer from zero, the record and the notice. -/
def State.galFaultReset (s : State) (g : GalleyId) (readSide : Bool) : State :=
  let s := (s.unitsLost g).setGal g { (s.gal g).flush.wrap with wptr := (0, 0), rptr := (0, 0) }
  let s := s.incSat GAL_FAULT.FAULTS
  let s := s.setF GAL_FAULT.LAST_ID g
  let s := s.setF GAL_FAULT.LAST_SIDE readSide.toNat
  s.raise .galleyFault

/-- The comparison of a galley's pointer pairs, made every cycle (R190): a mismatch resets the galley. -/
def State.galCompare (s : State) (g : GalleyId) : State :=
  match (s.gal g).mismatch with
  | some side => s.galFaultReset g side
  | none => s

/-- An error changes one copy of a galley's write pointer or read pointer. -/
def State.galUpset (s : State) (g : GalleyId) (readSide : Bool) : State :=
  let x := s.gal g
  if readSide then s.setGal g { x with wptr := (x.wptr.1, x.wptr.1), rptr := (x.rptr.1, x.rptr.1 + 1) }
  else s.setGal g { x with wptr := (x.wptr.1, x.wptr.1 + 1) }

/-! ### The host data ports (R200 to R205) -/

/-- A host push to galley 48: a push that finds it full is dropped and counted, and the item in progress is abandoned
into discard-to-end, which the host's next end-marked push ends (R201; log entry 31). -/
def State.galHostWrite (s : State) (w : PushWord) (last : Bool) : State :=
  let x := s.gal 48
  if decide (x.state ≠ .disabled) && !x.dropping && decide (galDepth 48 ≤ x.words.length) then
    let s := s.incSat GAL_HOST_RX_FLAGS.TX_OVERRUN
    if x.state = .discard then s.setGal 48 (x.swallow last).wrap
    else
      s.setGal 48 { (x.abandon (galDepth 48)).wrap with state := .discard, stateShown := true, partialIn := true, cutCounted := x.partialIn }
  else s.galWrite 48 w last

/-- A push by the host. -/
def State.galHostPush (s : State) (v : U64) (last : Bool) : State := s.galHostWrite { data := v } last

/-- Latch the flags of a popped word (R202). -/
def State.galLatch (s : State) (w : GWord) : State :=
  let s := s.setF GAL_HOST_RX_FLAGS.VALID 1
  let s := s.setF GAL_HOST_RX_FLAGS.END w.isEnd.toNat
  let s := s.setF GAL_HOST_RX_FLAGS.ABORT w.isAbort.toNat
  s.setF GAL_HOST_RX_FLAGS.POISON w.isPoison.toNat

/-- The word a pop of galley 49 would give, without popping it (R203). -/
def Galley.head (x : Galley) : Option U64 :=
  if x.synth then some 0 else if x.visible = 0 then none else x.words.head?.map (·.value)

/-- The bytes a read of GAL_HOST_RX_DATA returns (R203). -/
def rxBytes : RxForm → Nat
  | .full => 8 | .lower => 4 | .upper => 4

/-- A read of GAL_HOST_RX_DATA that waits on an empty galley, or waits no longer. -/
def State.setRxWait (s : State) (w : Option RxForm) : State := s.setBus { s.bus with rxWait := w }

/-- A host read of GAL_HOST_RX_DATA (R202, R203). On an empty galley the read waits until a word arrives or the wait of R204 ends. -/
def State.galHostRead (s : State) (form : RxForm) : State :=
  match form with
  | .lower =>
    match (s.gal 49).head with
    | none => s.setRxWait (some form)
    | some d => s.readBack (leBytes 4 d.toNat)
  | .full =>
    match s.galPop 49 with
    | (none, _) => s.setRxWait (some form)
    | (some w, s') => (s'.galLatch w).readBack (leBytes 8 w.data.toNat)
  | .upper =>
    match s.galPop 49 with
    | (none, _) => s.setRxWait (some form)
    | (some w, s') => (s'.galLatch w).readBack (leBytes 4 (w.data.toNat / 2 ^ 32))

/-- A word has come into galley 49: a read that waits for it is answered (R204). -/
def State.rxServe (s : State) : State :=
  match s.bus.rxWait with
  | some form => if (s.gal 49).available then (s.setRxWait none).galHostRead form else s
  | none => s

/-! ### Crossings -/

/-- The crossings of Table ARC-4 whose mechanism is a gutter. -/
def isGutter (x : XingId) : Bool :=
  [1, 4, 6, 7, 8, 9, 10, 11, 12, 13, 14, 15, 16, 17, 18, 19].contains x.val

/-- The crossings of Table ARC-4 whose mechanism is a toggle synchroniser. -/
def isToggle (x : XingId) : Bool := [2, 3, 5, 20].contains x.val

/-- The levels that the two-flop crossings carry, which State holds in the fields of their sources: standby and wake, the stop-press request
for each of the eight domains, and RESET_n, PERST_n, PFAIL and the supply warning (X21 to X23 of Table ARC-4). The stages of a synchroniser
delay a level and change nothing else (log entry 39). -/
def State.crossLevels (s : State) (x : XingId) : List Bool :=
  if x.val = 21 then [s.pkg.resetLow, !s.pkg.resetLow]
  else if x.val = 22 then List.replicate 8 (decide (s.dbg.freeze ≠ .running))
  else if x.val = 23 then [s.pkg.resetLow, s.bus.perst, s.bitF PKG_PFAIL_STATUS.PFAIL, s.bitF PKG_SMON_STATUS.OPEN]
  else []

/-- The lanes of a crossing: one for a row of one direction and two for a row marked ↔, where lane 1 leads back; a pair for each of seven
domains on X19; a toggle for each of the fourteen ports on X03, two for each of four ports on X05, one for each notice on X20; a two-flop
synchroniser for each domain on X22 (Table ARC-4). -/
def laneCount (x : XingId) : Nat :=
  if [10, 12, 13, 14, 15, 16, 17, 18, 21].contains x.val then 2
  else if x.val = 19 then 14
  else if x.val = 3 then 14
  else if x.val = 5 then 8
  else if x.val = 20 then 18
  else if x.val = 22 then 8
  else if x.val = 23 then 4
  else 1

/-- The lane is one of its crossing's. -/
def laneOk (x : XLane) : Bool := decide (x.lane < laneCount x.x)

/-- The lane is a gutter. -/
def laneGutter (x : XLane) : Bool := laneOk x && isGutter x.x

/-- The lane is a toggle synchroniser. -/
def laneToggle (x : XLane) : Bool := laneOk x && isToggle x.x

/-- The modelled depth of a gutter: the least the spec allows (R206; log entry 5). -/
def gutterDepth : Nat := 16

/-- A lane's place in the table of lanes. -/
def laneKey (x : XLane) : Nat := 32 * x.x.val + x.lane

/-- The state of a lane. -/
def State.gutter (s : State) (x : XLane) : Gutter := tabGet {} s.gutters (laneKey x)

/-- Replace the state of a lane. -/
def State.setGutter (s : State) (x : XLane) (g : Gutter) : State := { s with gutters := tabSet s.gutters (laneKey x) g }

/-- The reflected Gray code of a pointer: one step changes one bit (R206). -/
def grayCode (n : Nat) : Nat := n ^^^ (n / 2)

/-- The gutter is full, so that its source stalls (R208). -/
def Gutter.full (g : Gutter) : Bool := decide (gutterDepth ≤ g.words.length)

/-- The pointers pass to the other side, through both stages of their synchronisers, within the step that moves them (R206, R207). -/
def Gutter.synced (g : Gutter) : Gutter :=
  { g with wsync := (grayCode g.wptr, grayCode g.wptr), rsync := (grayCode g.rptr, grayCode g.rptr) }

/-- The source writes an entry. -/
def Gutter.put (g : Gutter) (e : GEntry) : Gutter :=
  { g with words := g.words ++ [e], wptr := (g.wptr + 1) % (2 * gutterDepth) }.synced

/-- The destination takes the oldest entry. -/
def Gutter.take (g : Gutter) : Gutter :=
  match g.words with
  | [] => g
  | e :: es => { g with words := es, rptr := (g.rptr + 1) % (2 * gutterDepth), taken := some e }.synced

/-- A word as delivered after its check: an uncorrectable one carries POISON (R209). -/
def checkedWord (w : GWord) (ecc : Ecc) : GWord := if ecc = .double then { w with isPoison := true } else w

/-- Count what the check of an entry finds, for both directions of a crossing together (R209). -/
def State.xingCheck (s : State) (x : XingId) (ecc : Ecc) : State :=
  match ecc with
  | .clean => s
  | .single => s.incSat (GAL_XING.CORRECTED x)
  | .double => s.incSat (GAL_XING.UNCORRECTED x)

/-- The gutter that empties a galley (Table GAL-1). -/
def galCrossing (g : GalleyId) : Option XLane :=
  if g.val < 14 then some { x := 7 }
  else if 16 ≤ g.val ∧ g.val < 20 then some { x := 8 }
  else if 20 ≤ g.val ∧ g.val < 24 then some { x := 18, lane := 1 }
  else none

/-- An entry crosses a gutter with its flags and its check (R207 to R209); a full gutter stalls its source (R208). An entry that a galley
gives is the next word of that galley (Table GAL-1). -/
def State.gutterTransfer (s : State) (x : XLane) (w : XSource) (ecc : Ecc) : State :=
  if !laneGutter x || (s.gutter x).full then s
  else
    match w with
    | .word w => (s.setGutter x ((s.gutter x).put { word := checkedWord w ecc })).xingCheck x.x ecc
    | .galley g =>
      if galCrossing g ≠ some x then s
      else
        match s.galPop g with
        | (none, _) => s
        | (some w, s') => (s'.setGutter x ((s'.gutter x).put { word := checkedWord w ecc, galley := some g })).xingCheck x.x ecc

/-- The acknowledgement of a toggle's pulse returns: a pulse that was held goes out (R215, R216). -/
def Gutter.acknowledged (g : Gutter) : Gutter :=
  if g.held then { g with busy := true, held := false, pulses := g.pulses + 1 } else { g with busy := false }

/-- A pulse on a toggle crossing. acked: the acknowledgement of the pulse before has returned (R215, R216). -/
def State.togglePulse (s : State) (x : XLane) (acked : Bool) : State :=
  let g := if acked then (s.gutter x).acknowledged else s.gutter x
  if !laneToggle x then s
  else if !g.busy then s.setGutter x { g with busy := true, pulses := g.pulses + 1 }
  else if !g.held then s.setGutter x { g with held := true }
  else s.incSat (GAL_XING.MERGED x.x)

/-- The lane at a place of the table of lanes. -/
def laneAt (k : Nat) : XLane := { x := ⟨(k / 32) % 24, Nat.mod_lt _ (by decide)⟩, lane := k % 32 }

/-- The lanes on which registration or the Foreman takes the words of galleys: registration takes them item by item (R362), the Foreman at
once. -/
def laneFeeds (x : XLane) : Bool := decide (x.x = 7) || decide (x.x = 8)

/-- One clock of every crossing's destination (log entry 5): a gutter that does not wait for registration gives its oldest entry, the
acknowledgement of every toggle returns. -/
def Gutter.clock (x : XLane) (g : Gutter) : Gutter :=
  if laneToggle x then g.acknowledged else if laneFeeds x then g else g.take

/-- One clock of every crossing; what comes over X18 reaches the Foreman (Table GAL-1, Table ARC-4). -/
def State.gutterDrain (s : State) : State :=
  let got := ((s.gutter { x := 18, lane := 1 }).words.take 1)
  { s with gutters := s.gutters.map (fun e => (e.1, e.2.clock (laneAt e.1))), mkr := { s.mkr with inbox := s.mkr.inbox ++ got } }

/-! ### Items on their way to registration -/

/-- Words of galley g that have left it over its crossing and that registration has not used yet, oldest first. -/
def State.crossed (s : State) (g : GalleyId) : List GWord :=
  let es := match galCrossing g with | some x => s.rgs.inbox ++ (s.gutter x).words | none => []
  (es.filter (fun e => decide (e.galley = some g))).map GEntry.word

/-- The whole items of galley g that registration has still to take. -/
def State.itemStream (s : State) (g : GalleyId) : List (List GWord) :=
  let x := s.gal g
  itemsOf [] (s.crossed g ++ (if x.synth then [{ data := 0, isEnd := true, isAbort := true }] else []) ++
    (x.words.take x.visible).map CWord.read)

/-- Some whole item on its way to registration carries the slot and a stamp that p picks. -/
def State.itemHeld (s : State) (slot : Nat) (p : Tick → Bool) : Bool :=
  (List.finRange 64).any (fun g => feedsRegistration g && (s.itemStream g).any (fun ws =>
    match itemUnit ws with | some u => decide (u.1 = slot) && p u.2 | none => false))

/-! ### SUSPECT of items on their way (R70) -/

/-- Where in an item the next word of a galley stands: its stamp, its header after a stamp, or its payload. -/
inductive HeadPos where
  | stamp | header (t : Tick) | rest
  deriving DecidableEq, Repr

/-- The place of the word after a word. -/
def HeadPos.next (p : HeadPos) (w : GWord) : HeadPos :=
  if w.isEnd then .stamp else match p with | .stamp => .header w.data.toNat | _ => .rest

/-- The SUSPECT bit that a word lacks: the word is the header of an item stamped in a warning window, and no pattern's or other's. -/
def suspectBit (sus : Tick → Bool) (p : HeadPos) (d : U64) : U64 :=
  match p with
  | .header t => if sus t && !d.getLsbD 8 then 0x100 else 0
  | _ => 0

/-- Stored words with SUSPECT set in the headers that lack it. -/
def reflagWords (sus : Tick → Bool) (p : HeadPos) : List CWord → List CWord
  | [] => []
  | w :: ws =>
    let b := suspectBit sus p w.value
    w.flip { data := b, check := checkBits b } :: reflagWords sus (p.next w.read) ws

/-- The same in a gutter, for the entries that galley g gave; and where the next word of g stands. -/
def reflagEntries (sus : Tick → Bool) (g : GalleyId) (p : HeadPos) : List GEntry → List GEntry × HeadPos
  | [] => ([], p)
  | e :: es =>
    if e.galley = some g then
      let r := reflagEntries sus g (p.next e.word) es
      ({ e with word := { e.word with data := e.word.data ||| suspectBit sus p e.word.data } } :: r.1, r.2)
    else
      let r := reflagEntries sus g p es
      (e :: r.1, r.2)

/-- A supply warning window has opened, and reaches back over items that are stored already: they carry SUSPECT too (R69, R70). -/
def State.reflag (s : State) (g : GalleyId) : State :=
  match galCrossing g with
  | none => s
  | some x =>
    if !feedsRegistration g then s
    else
      let i := reflagEntries s.suspectAt g .stamp s.rgs.inbox
      let r := reflagEntries s.suspectAt g i.2 (s.gutter x).words
      let p := if (s.gal g).synth then .stamp else r.2
      let s := s.setRgs { s.rgs with inbox := i.1 }
      let s := if (s.gutter x).words = [] then s else s.setGutter x { s.gutter x with words := r.1 }
      s.setGal g { s.gal g with words := reflagWords s.suspectAt p (s.gal g).words }

/-- The same in every galley of a sensor. -/
def State.reflagAll (s : State) : State := (List.finRange 64).foldl State.reflag s

/-- A reset empties the gutters with a side in a domain that it clears, and holds their pointers at zero (R211); a toggle of such a crossing
starts afresh. keeps: the lanes with no side in reset. -/
def State.guttersReset (s : State) (keeps : XLane → Bool) : State :=
  { s with gutters := s.gutters.filter (fun e => keeps (laneAt e.1)) }

/-! ### Meanings -/

/-- GALLEY_PUSH (R180): the host's port writes galley 48, and a word in galley 49 answers a read that waits (R204). -/
def execGalleyPush (g : GalleyId) (w : PushWord) (endMark : Bool) (s : State) : Result :=
  s.live (if g = 48 then s.galHostWrite w endMark else if g = 49 then (s.galWrite g w endMark).rxServe else s.galWrite g w endMark)

/-- GALLEY_ABANDON (R182): only a commit-mode galley has items to abandon. -/
def execGalleyAbandon (g : GalleyId) (s : State) : Result :=
  s.live (if galCommit g then s.galAbandon g else s)

/-- GALLEY_FLUSH (R193). -/
def execGalleyFlush (g : GalleyId) (s : State) : Result :=
  s.host (if galDepth g = 0 then s else s.galFlush g)

/-- GALLEY_FAULT_RESET (R190, R191): one copy of a pointer has changed, and the comparison finds it. -/
def execGalleyFaultReset (g : GalleyId) (readSide : Bool) (s : State) : Result :=
  s.live (if galDepth g = 0 then s else (s.galUpset g readSide).galCompare g)

/-- GAL_HOST_TX_DATA (R200). -/
def execGalHostTxData (v : U64) (s : State) : Result := s.host (s.galHostPush v false)

/-- GAL_HOST_TX_LAST (R200). -/
def execGalHostTxLast (v : U64) (s : State) : Result := s.host (s.galHostPush v true)

/-- GAL_HOST_RX_DATA (R202, R203): before READY each form returns its part of the not-ready word (R113). -/
def execGalHostRxData (form : RxForm) (s : State) : Result := s.hostRd form (s.galHostRead form)

/-- HOST_RX_EMPTY_TIMEOUT (R204): a read that waits on an empty galley 49 ends with 0 and VALID 0. -/
def execHostRxEmptyTimeout (s : State) : Result :=
  s.live (
    match s.bus.rxWait with
    | some form => ((s.setRxWait none).setF GAL_HOST_RX_FLAGS.VALID 0).readBack (leBytes (rxBytes form) 0)
    | none => s)

/-- GUTTER_TRANSFER (R207). -/
def execGutterTransfer (x : XLane) (w : XSource) (ecc : Ecc) (s : State) : Result := s.live (s.gutterTransfer x w ecc)

/-- TOGGLE_PULSE (R215, R216). -/
def execTogglePulse (x : XLane) (acked : Bool) (s : State) : Result := s.live (s.togglePulse x acked)

end Sys2Proof.Machine
end

