-- ==== Sys2Proof/Machine/Dateline.lean ====
section
/-!
DEFINITION. The Dateline (R220 to R278): forming time, rate writes, slews, steps, the reference selector, PPS, event
inputs, trigger outputs, the epoch clock, re-basing and the conversion of older counts. Times are in units of
2^-32 ns.
-/

namespace Sys2Proof.Machine

/-- One nanosecond in units of 2^-32 ns. -/
def unitNs : Int := 4294967296

/-- One second in units of 2^-32 ns. -/
def unitSec : Int := 4294967296000000000

/-- The nominal rate (R225). -/
def rateNominal : Nat := 0x200000000

/-- The lowest accepted rate, −1000 ppm: the least whole rate inside the band (R225). -/
def rateMin : Nat := 8581344658

/-- The highest accepted rate, +1000 ppm: the greatest whole rate inside the band (R225). -/
def rateMax : Nat := 8598524526

/-! ### Time -/

/-- The slew a piece has applied at count c, the step of tick c included (R232). -/
def SlewPiece.applied (p : SlewPiece) (c : Tick) : Int :=
  let n : Int := (p.step * (c - p.s0) : Nat)
  if 0 ≤ p.rem then min n p.rem else - min n (- p.rem)

/-- The slew a segment has applied at count c. -/
def Seg.slew (g : Seg) (c : Tick) : Int :=
  match g.pieces.find? (fun p => decide (p.s0 < c)) with
  | some p => p.base + p.applied c
  | none => 0

/-- The time of a count under a segment (R223). -/
def Seg.time (g : Seg) (c : Tick) : Int := g.off + g.slew c + g.rate * ((c : Int) - g.anchor)

/-- The slew still to be applied after tick c. -/
def Seg.remain (g : Seg) (c : Tick) : Int :=
  match g.pieces with
  | [] => 0
  | p :: _ => p.rem - p.applied c

/-- The segment in force now. -/
def Dtl.seg (d : Dtl) : Seg := d.segs.headD {}

/-- The segment in force at a count, if it is still kept (R277). -/
def Dtl.segAt (d : Dtl) (c : Tick) : Option Seg := d.segs.find? (fun g => decide (g.start ≤ c))

/-- The time of a count; counts older than the history take its oldest segment. -/
def Dtl.timeAt (d : Dtl) (c : Tick) : Int :=
  match d.segAt c with
  | some g => g.time c
  | none => (d.segs.getLastD {}).time c

/-- Dateline time now. -/
def State.time (s : State) : Int := s.dtl.timeAt s.dtl.count

/-- The base rate in force now. -/
def State.rate (s : State) : Nat := s.dtl.seg.rate

/-- The least count of [lo, hi] at which time reaches T, by bisection; hi where none does. -/
def Dtl.countFor (d : Dtl) (T : Int) : Nat → Tick → Tick → Tick
  | 0, _, hi => hi
  | n + 1, lo, hi =>
    if hi ≤ lo then hi
    else
      let mid := (lo + hi) / 2
      if T ≤ d.timeAt mid then Dtl.countFor d T n lo mid else Dtl.countFor d T n (mid + 1) hi

/-- Seconds, nanoseconds and the 16-bit fraction that a read of a time gives (R224). -/
def splitTime (T : Int) : Nat × Nat × Nat :=
  let u := T % (2 ^ 48 * unitSec)
  ((u / unitSec).toNat, (u % unitSec / unitNs).toNat, (u % unitNs / 65536).toNat)

/-- The command happens at tick t: the free-running counter stands there (R220; log entry 3). -/
def State.at (s : State) (t : Tick) : State := { s with dtl := { s.dtl with count := max s.dtl.count t } }

/-- The count as registers and stamps show it. -/
def State.count64 (s : State) : Nat := s.dtl.count % 2 ^ 64

/-! ### Changing the line -/

/-- The slew step of one tick (R232). -/
def slewStep (rate ppm : Nat) : Nat := rate * ppm / 1000000

/-- Put a new newest segment in front; eight are kept (R277). -/
def Dtl.pushSeg (d : Dtl) (g : Seg) : Dtl := { d with segs := (g :: d.segs).take 8 }

/-- Replace the newest segment. -/
def Dtl.setSeg (d : Dtl) (g : Seg) : Dtl := { d with segs := g :: d.segs.drop 1 }

/-- From tick n on, a segment runs with remaining slew f(remaining) at the given step limit (R231 to R233). -/
def Seg.reslew (g : Seg) (n : Tick) (ppm : Nat) (f : Int → Int) : Seg :=
  { g with pieces := { s0 := n - 1, base := g.slew (n - 1), rem := f (g.remain (n - 1)), step := slewStep g.rate ppm } :: g.pieces }

/-- The segment that starts at tick n with the same line, offset o further, rate r and remaining slew q. -/
def Seg.rebase (n : Tick) (off : Int) (r ppm : Nat) (q : Int) : Seg :=
  { start := n, off := off, anchor := n, rate := r
    pieces := [{ s0 := n - 1, base := 0, rem := q, step := slewStep r ppm }] }

/-- SLEW_MAX in force. -/
def State.slewMax (s : State) : Nat := s.getF DTL_SLEW_CFG.SLEW_MAX

/-- The time of tick n before the tick's own slew step: what R228 stores as the new offset. -/
def Seg.timeBefore (g : Seg) (n : Tick) : Int := g.off + g.slew (n - 1) + g.rate * ((n : Int) - g.anchor)

/-- Apply a new rate at the present tick (R228, R233). -/
def State.setRate (s : State) (r : Nat) : State :=
  let n := s.dtl.count
  let g := s.dtl.seg
  { s with dtl := s.dtl.pushSeg (Seg.rebase n (g.timeBefore n) r s.slewMax (g.remain (n - 1))) }

/-- Change the remaining slew at the present tick, held to ±1 s (R231). -/
def State.setSlew (s : State) (f : Int → Int) : State :=
  { s with dtl := s.dtl.setSeg (s.dtl.seg.reslew s.dtl.count s.slewMax (fun q => clampInt (- unitSec) unitSec (f q))) }

/-- A new segment on the same line, as a commit starts one (R277). -/
def State.sameLine (s : State) : State :=
  let n := s.dtl.count
  let g := s.dtl.seg
  let q := g.remain (n - 1)
  s.setDtl (s.dtl.pushSeg
      { start := n, off := g.off + g.slew (n - 1), anchor := g.anchor, rate := g.rate
        pieces := [{ s0 := n - 1, base := 0, rem := q, step := slewStep g.rate s.slewMax }] })

/-- Step time: T is the offset, with its anchor at the present tick; a slew under way goes on, with its step of this tick after the step of
time (R234, R236, R237; log entry 32). -/
def State.stepTime (s : State) (T : Int) : State :=
  let n := s.dtl.count
  { s with dtl := s.dtl.pushSeg (Seg.rebase n T s.rate s.slewMax (s.dtl.seg.remain (n - 1))) }

/-- Counts of the Dateline in a millisecond (R220). -/
def msTicks (ms : Nat) : Nat := 500000 * ms

/-- Half a tick at the rate in force, or 1 ns: how near to an instant a tick falls that stands for it (R255, R263). -/
def State.tickSlack (s : State) : Int := max unitNs ((s.rate + 1) / 2)

/-- This tick is the one at which Dateline time reaches a whole second (R255, R271). -/
def State.onSecond (s : State) : Bool :=
  decide (((s.time - nearQ s.time unitSec * unitSec).natAbs : Int) ≤ s.tickSlack)

/-! ### Trigger outputs -/

/-- Replace trigger output n. -/
def State.setTrg (s : State) (n : Fin 8) (x : Trg) : State := s.setDtl { s.dtl with trgs := s.dtl.trgs.set n x }

/-- Replace event input n. -/
def State.setEvt (s : State) (n : Fin 16) (x : EvtIn) : State := s.setDtl { s.dtl with evts := s.dtl.evts.set n x }

/-- The time of edge e of a schedule, in ns. -/
def Sched.edgeNs (x : Sched) (e : Nat) : Nat := x.startNs + (e / 2) * x.periodNs + (e % 2) * x.widthNs

/-- Edges of a schedule still to come. -/
def Sched.left (x : Sched) : Nat := 2 * x.count - x.edge

/-- The last trailing edge of a schedule, in ns. -/
def Sched.endNs (x : Sched) : Nat := x.edgeNs (2 * x.count - 1)

/-- How many of n instants, the first at a and p ns apart, lie before ns. -/
def instantsBefore (ns a p n : Nat) : Nat := if ns ≤ a then 0 else if p = 0 then n else min n ((ns - a - 1) / p + 1)

/-- How many edges of a schedule lie before ns; leading and trailing edges take turns (R262). -/
def Sched.passed (x : Sched) (ns : Nat) : Nat :=
  instantsBefore ns x.startNs x.periodNs x.count + instantsBefore ns (x.startNs + x.widthNs) x.periodNs x.count

/-- Pass over every edge to come whose time lies before ns, a pulse under way included; the count of edges skipped comes with the
schedule (R240, R275). -/
def Sched.skip (ns : Nat) (x : Sched) : Nat × Sched :=
  let e := max x.edge (x.passed ns)
  (e - x.edge, { x with edge := e })

/-- One edge of an output is placed: the pin takes the pulse level at a leading edge and the opposite level at a trailing
one; a schedule with no edge left makes way for the next (R260, R263, R265). -/
def Trg.edge (x : Trg) : Trg :=
  match x.scheds with
  | [] => x
  | c :: cs =>
    let lead := c.edge % 2 = 0
    let c' := { c with edge := c.edge + 1 }
    { scheds := if c'.left = 0 then cs else c' :: cs
      level := if lead then !c.low else c.low }

/-- Cancel every schedule; a pulse under way keeps its trailing edge (R264). -/
def Trg.cancel (x : Trg) : Trg :=
  match x.scheds with
  | [] => x
  | c :: _ => { x with scheds := if c.edge % 2 = 1 then [{ c with count := c.edge / 2 + 1 }] else [] }

/-- The level after a skip to ns: where the trailing edge of a pulse under way is skipped, the output goes to rest (R265; log entry 41). -/
def Trg.levelAfter (x : Trg) (ns : Nat) : Bool :=
  match x.scheds with
  | [] => x.level
  | c :: _ => if c.edge % 2 = 1 ∧ c.edge < c.passed ns then c.low else x.level

/-- Skip the edges of one output whose time lies before ns. -/
def Trg.skip (ns : Nat) (x : Trg) : Nat × Trg :=
  let rs := x.scheds.map (Sched.skip ns)
  ((rs.map (·.1)).sum, { scheds := (rs.map (·.2)).filter (fun c => decide (c.left ≠ 0)), level := x.levelAfter ns })

/-- Skip and count the passed edges of output n (R240, R275). -/
def State.trgSkip (s : State) (n : Fin 8) : State :=
  let r := (s.dtl.trgs[n]).skip (- ((- s.time) / unitNs)).toNat
  (s.setTrg n r.2).incSat (DTL_TRG_STAT.SKIPPED n) r.1

/-- Skip and count the passed edges of every output. -/
def State.trgSkipAll (s : State) : State := (List.finRange 8).foldl State.trgSkip s

/-- Why a schedule is not placed. -/
inductive TrgPlace where
  | placed | full | late | early
  deriving DecidableEq, Repr

/-- Whether a schedule can be placed now: its lead is under 20 µs, also while it waits (R261), four are held (R260), or it starts less
than 4 ns after the schedule before it ends (R262). -/
def State.trgCheck (s : State) (n : Fin 8) (x : Sched) : TrgPlace :=
  let o := s.dtl.trgs[n]
  if (x.startNs : Int) * unitNs < s.time + 20000 * unitNs then .late
  else if 4 ≤ o.scheds.length then .full
  else
    match o.scheds.getLast? with
    | none => .placed
    | some p => if x.startNs < p.endNs + 4 then .early else .placed

/-- Place a schedule behind those held. -/
def State.trgPlace (s : State) (n : Fin 8) (x : Sched) : State :=
  let o := s.dtl.trgs[n]
  s.setTrg n { o with scheds := o.scheds ++ [x] }

/-- Cancel the schedules of output n. -/
def State.trgCancel (s : State) (n : Fin 8) : State :=
  s.setTrg n (s.dtl.trgs[n]).cancel

/-! ### The reference selector (R242 to R252) -/

/-- DTL_STATE.STATE codes (Table DTL-1). -/
def stUnset : Nat := 0
def stLocked : Nat := 1
def stSwitching : Nat := 2
def stHoldover : Nat := 3

/-- DTL_REF_STAT_r.RSTATE codes. -/
def rsAbsent : Nat := 0
def rsQualifying : Nat := 1
def rsQualified : Nat := 2
def rsHoldoff : Nat := 3

/-- No reference, in SELECTED and TARGET. -/
def refNone : Nat := 3

/-- Whether reference r is enabled (R242). -/
def State.refEn (s : State) (r : Nat) : Bool := (s.getF DTL_SEL_CFG.REF_EN).testBit r

/-- The priority of reference r (R242). -/
def State.refPrio (s : State) (r : Nat) : Nat :=
  if r = 0 then s.getF DTL_SEL_CFG.PRIO_0 else if r = 1 then s.getF DTL_SEL_CFG.PRIO_1 else s.getF DTL_SEL_CFG.PRIO_2

/-- Whether reference r ranks above q; every reference ranks above none (R242). -/
def State.refBetter (s : State) (r q : Nat) : Bool :=
  decide (q = refNone) || decide (s.refPrio r < s.refPrio q) || (decide (s.refPrio r = s.refPrio q) && decide (r < q))

/-- The state of reference r, ABSENT where it is not enabled. -/
def State.refState (s : State) (r : Nat) : Nat :=
  if s.refEn r then s.getF (DTL_REF_STAT.RSTATE r) else rsAbsent

/-- The best QUALIFIED reference among those listed, or none. -/
def State.refBest (s : State) (rs : List Nat) : Nat :=
  rs.foldl (fun b r => if s.refState r = rsQualified ∧ s.refBetter r b then r else b) refNone

/-- What the selector keeps of reference r. -/
def State.refX (s : State) (r : Nat) : RefState := s.dtl.refs[r]?.getD {}

/-- Replace what the selector keeps of reference r. -/
def State.setRefX (s : State) (r : Nat) (x : RefState) : State :=
  { s with dtl := { s.dtl with refs := s.dtl.refs.setIfInBounds r x } }

/-- PPS_OUT may be high: EN, and LOCKED where LOCKED_ONLY asks for it (R255). -/
def State.ppsAllowed (s : State) : Bool :=
  s.bitF DTL_PPS_OUT.EN && (!s.bitF DTL_PPS_OUT.LOCKED_ONLY || decide (s.getF DTL_STATE.STATE = stLocked))

/-- A pulse of PPS_OUT that is no longer allowed ends; the next one starts at a whole second (R255). -/
def State.ppsGate (s : State) : State := if s.ppsAllowed then s else { s with dtl := { s.dtl with ppsOut := none } }

/-- Request a switch at the present tick (R245): a pending switch while UNSET keeps that state (log entry 3). -/
def State.refRequest (s : State) (r : Nat) : State :=
  let s := s.setF DTL_STATE.TARGET r
  let s := { s with dtl := { s.dtl with reqAt := s.dtl.count } }
  if s.getF DTL_STATE.STATE = stUnset then s else (s.setF DTL_STATE.STATE stSwitching).ppsGate

/-- Enter HOLDOVER (R250): no reference is selected; the rate and a running slew go on. -/
def State.enterHoldover (s : State) : State :=
  let s := s.setF DTL_STATE.STATE stHoldover
  let s := s.setF DTL_STATE.SELECTED refNone
  let s := s.setF DTL_STATE.TARGET refNone
  (s.raise .holdover).ppsGate

/-- Cancel a pending switch (R247, R249). -/
def State.refCancel (s : State) : State := (s.incSat DTL_STATE.CANCELS).setF DTL_STATE.TARGET refNone

/-- Reference r has become QUALIFIED: the target of a switch is the best QUALIFIED reference, and a pending switch to a worse one is
cancelled (R245, R247; R236 and R241 while UNSET). -/
def State.refQualified (s : State) (r : Nat) : State :=
  let st := s.getF DTL_STATE.STATE
  let sel := s.getF DTL_STATE.SELECTED
  let tgt := s.getF DTL_STATE.TARGET
  if st = stUnset then
    let b := s.refBest [0, 1]
    if r < 2 ∧ s.refBetter b tgt then (if tgt = refNone then s else s.refCancel).refRequest b else s
  else if st = stLocked then
    if r ≠ sel ∧ s.refBetter r sel then s.refRequest (s.refBest [0, 1, 2]) else s
  else if st = stSwitching then
    if s.refBetter r tgt then
      let s := s.refCancel
      if r = sel then (s.setRefX r { s.refX r with lostSel := false, switched := false }).setF DTL_STATE.STATE stLocked
      else s.refRequest r
    else s
  else s.refRequest (s.refBest [0, 1, 2])

/-- Reference r has met QUAL_N: it is QUALIFIED, or waits out REF_HOLDOFF when it was lost while selected and a switch away
from it has committed (R243, R248). -/
def State.refQualify (s : State) (r : Nat) : State :=
  let x := s.refX r
  if x.lostSel && x.switched then (s.setRefX r { x with heldAt := s.dtl.count }).setF (DTL_REF_STAT.RSTATE r) rsHoldoff
  else (s.setF (DTL_REF_STAT.RSTATE r) rsQualified).refQualified r

/-- A switch whose target is lost, or whose selected reference is lost with none pending: go to the next best reference, back
to the one still selected, or to HOLDOVER (R245, R249, R250). -/
def State.refFallBack (s : State) : State :=
  let b := s.refBest [0, 1, 2]
  if b = refNone then s.enterHoldover
  else if b = s.getF DTL_STATE.SELECTED then s.setF DTL_STATE.STATE stLocked
  else s.refRequest b

/-- A switch to reference tgt has committed: every other reference that was lost while selected has now been switched away from, through
HOLDOVER too (R243, R248). -/
def State.refSwitched (s : State) (tgt : Nat) : State :=
  { s with dtl := { s.dtl with refs := s.dtl.refs.mapIdx (fun i x =>
      if i = tgt then { x with lostSel := false, switched := false } else { x with switched := x.switched || x.lostSel }) } }

/-- Reference r is lost (R243, R245, R249). -/
def State.refLose (s : State) (r : Nat) : State :=
  let st := s.getF DTL_STATE.STATE
  let isSel := decide (r = s.getF DTL_STATE.SELECTED) && decide (st ≠ stUnset)
  let x := s.refX r
  let s := s.setRefX r { prev := none, lostSel := x.lostSel || isSel, switched := if isSel then false else x.switched }
  let s := s.setF (DTL_REF_STAT.RSTATE r) rsAbsent
  let s := s.setF (DTL_REF_STAT.GOOD r) 0
  if st = stUnset then
    if r = s.getF DTL_STATE.TARGET then
      let s := s.refCancel
      let b := s.refBest [0, 1]
      if b = refNone then s else s.refRequest b
    else s
  else if st = stLocked then (if isSel then s.refFallBack else s)
  else if st = stSwitching then (if r = s.getF DTL_STATE.TARGET then s.refCancel.refFallBack else s)
  else s

/-- The servo's action on a sample of the selected reference (R251): θ replaces the remaining slew, and the rate takes its
share of the change of θ over the sample interval; rates stay in the accepted band (log entry 3). -/
def State.servo (s : State) (theta : Int) (prev : Option (Int × Tick)) : State :=
  let s1 :=
    match prev with
    | none => s
    | some (p, at_) =>
      if s.dtl.count ≤ at_ then s
      else
        let dr := roundQ (theta - p) (((s.dtl.count - at_ : Nat) : Int) * 2 ^ (s.getF DTL_SLEW_CFG.FGAIN))
        s.setRate (clampInt rateMin rateMax ((s.rate : Int) + dr)).toNat
  s1.setSlew (fun _ => theta)

/-- One phase sample of reference r, θ in 2^-32 ns (R243, R251). -/
def State.refSample (s : State) (r : Nat) (theta : Int) : State :=
  if !s.refEn r then s
  else
    let x := s.refX r
    let st := s.refState r
    let within : Bool :=
      match x.prev with
      | none => true
      | some (p, _) => decide ((theta - p).natAbs ≤ (s.getF (DTL_REF_CFG.QUAL_NS r) : Int) * unitNs)
    let s := s.setF (DTL_REF_STAT.THETA r) (ofSigned 32 (clampInt (-(2 ^ 31)) (2 ^ 31 - 1) (theta.tdiv unitNs)))
    if !within && decide (st = rsQualified) then s.refLose r
    else
      let s := s.setRefX r { x with prev := some (theta, s.dtl.count) }
      let s := if st = rsAbsent ∨ !within then s.setF (DTL_REF_STAT.GOOD r) 1 else s.incSat (DTL_REF_STAT.GOOD r)
      let s := if st = rsAbsent ∨ (st = rsHoldoff ∧ !within) then s.setF (DTL_REF_STAT.RSTATE r) rsQualifying else s
      let s := if s.getF (DTL_REF_STAT.RSTATE r) = rsQualifying ∧ s.getF (DTL_REF_CFG.QUAL_N r) ≤ s.getF (DTL_REF_STAT.GOOD r)
        then s.refQualify r else s
      if s.bitF DTL_SLEW_CFG.SERVO_EN && decide (s.getF DTL_STATE.SELECTED = r) && decide (st = rsQualified) &&
          (decide (s.getF DTL_STATE.STATE = stLocked) || decide (s.getF DTL_STATE.STATE = stSwitching))
      then s.servo theta x.prev else s

/-- Time has stepped out of UNSET by a host SET: HOLDOVER, or SWITCHING where a switch is pending (log entry 3). -/
def State.leaveUnset (s : State) : State :=
  let s := (s.setF DTL_STATE.ARMED 0).trgSkipAll
  if s.getF DTL_STATE.TARGET = refNone then s.enterHoldover else s.setF DTL_STATE.STATE stSwitching

/-- The pending switch commits at the present tick, SWITCH_MEAS after its request (R246; R236 for the step out of UNSET). -/
def State.refCommit (s : State) : State :=
  let tgt := s.getF DTL_STATE.TARGET
  if tgt = refNone ∨ s.dtl.count < s.dtl.reqAt + msTicks (s.getF DTL_SEL_CFG.SWITCH_MEAS) then s
  else
    let theta := ((s.refX tgt).prev.map (·.1)).getD 0
    let unset := decide (s.getF DTL_STATE.STATE = stUnset)
    let s := if unset then (s.stepTime (s.time + theta)).setF DTL_STATE.ARMED 0 else s.sameLine.setSlew (· + theta)
    let s := if unset then s.trgSkipAll else s
    let s := s.refSwitched tgt
    let s := s.setF DTL_STATE.SELECTED tgt
    let s := s.setF DTL_STATE.TARGET refNone
    let s := s.setF DTL_STATE.STATE stLocked
    let s := s.setF DTL_STATE.REBASED 0
    let s := s.incSat DTL_STATE.COMMITS
    s.raise .refSwitch

/-! ### The epoch clock (R266 to R270) -/

/-- The opening time of epoch k. -/
def State.epochTime (s : State) (k : Nat) : Int :=
  (s.getF DTL_EPOCH_START_S.SEC : Int) * unitSec + (s.getF DTL_EPOCH_START_NS.NS : Int) * unitNs +
    (k : Int) * (s.getF DTL_EPOCH_CFG.PERIOD_US : Int) * 1000 * unitNs

/-- The first k whose opening lies at T or later. -/
def State.epochFirst (s : State) (T : Int) : Nat :=
  let p := (s.getF DTL_EPOCH_CFG.PERIOD_US : Int) * 1000 * unitNs
  (- ((s.epochTime 0 - T) / p)).toNat

/-- Close the open epoch at the present tick: the close record carries the counts of the reference instant and the close
(R266, R267); none is open then. -/
def State.epochClose (s : State) : State :=
  match s.epochs with
  | [] => s
  | e :: es =>
    match e.closeAt with
    | some _ => s
    | none =>
      let c := s.dtl.count
      { s with epochs := { e with closeAt := some c, refAt := some (s.dtl.countFor e.refTime 64 e.openAt c) } :: es }.setF DTL_EPOCH_NOW.RUNNING 0

/-- Open the next epoch of the epoch clock at the present tick (R266, R267). -/
def State.epochOpenNext (s : State) : State :=
  let k := s.dtl.epochK
  let num := (s.getF DTL_EPOCH_FIRST.FIRST + k) % 2 ^ 32
  let s := s.epochClose
  let ref := s.epochTime k + (s.getF DTL_EPOCH_CFG.REF_OFS_US : Int) * 1000 * unitNs
  let s := { s with epochs := (({ num := num, openAt := s.dtl.count, refTime := ref } : EpochRec) :: s.epochs) }
  let s := s.setDtl { s.dtl with epochK := k + 1 }
  (s.setF DTL_EPOCH_NOW.NUMBER num).setF DTL_EPOCH_NOW.RUNNING 1

/-- The newest record of epoch num. -/
def State.epochRec (s : State) (num : Nat) : Option EpochRec := s.epochs.find? (fun e => decide (e.num = num))

/-- Change the newest record of epoch num. -/
def State.epochSet (s : State) (num : Nat) (f : EpochRec → EpochRec) : State :=
  { s with epochs := modFirst (fun e => decide (e.num = num)) f s.epochs }

/-- The epoch open at a count (R266). -/
def State.epochAt (s : State) (c : Tick) : Option EpochRec :=
  s.epochs.find? (fun e => decide (e.openAt ≤ c) && (match e.closeAt with | none => true | some x => decide (c < x)))

/-- The open epoch. -/
def State.epochOpen (s : State) : Option EpochRec :=
  match s.epochs with
  | [] => none
  | e :: _ => if e.closeAt = none then some e else none

/-- Stop the epoch clock: the open epoch closes at the tick that takes the write (log entry 3). -/
def State.epochStop (s : State) : State :=
  s.epochClose.setF DTL_EPOCH_CFG.EN 0

/-- Skip the epoch openings that passed while the block was frozen and count them; numbering stays aligned to Dateline time
(R275). -/
def State.epochSkip (s : State) : State :=
  if s.bitF DTL_EPOCH_CFG.EN then
    let k := s.epochFirst s.time
    if s.dtl.epochK < k then
      ({ s with dtl := { s.dtl with epochK := k } }).incSat DTL_EPOCH_NOW.SKIPPED (k - s.dtl.epochK)
    else s
  else s

/-! ### Re-basing (R271 to R276) -/

/-- The AON coarse count now: it counts 40 ns, 20 counts of the Dateline (R271). -/
def Dtl.coarseNow (d : Dtl) : Int := d.coarse + (d.count / 20 : Nat)

/-- The Dateline after a reset that clears the counter, more counts of AON's coarse counter later: from a valid AON time record it
re-bases into HOLDOVER (R272), else it is UNSET (R235). -/
def State.dtlRestart (s : State) (more : Nat) : State :=
  let s := s.resetRegs 0x7000 0x8000
  let s := { s with epochs := [] }
  let c : Int := s.dtl.coarseNow + more
  match s.dtl.aonRec with
  | none => { s with dtl := { coarse := c } }
  | some r =>
    let off := r.time + roundQ ((c - r.coarse) * 40 * r.rate * unitNs) (2 ^ 33)
    let s := { s with dtl := { segs := [Seg.rebase 0 off r.rate 100 0], aonRec := some r, coarse := c } }
    (s.setF DTL_STATE.REBASED 1).enterHoldover

/-- The re-base at a thaw (R274, R275): the freeze time joins the offset, the selected reference counts as lost while selected,
and what passed during the freeze is skipped. -/
def State.dtlThaw (s : State) (freezeCount : Nat) : State :=
  let n := s.dtl.count
  let g := s.dtl.seg
  let add := roundQ ((freezeCount : Int) * 40 * g.rate * unitNs) (2 ^ 33)
  let g' : Seg := { start := n, off := g.off + g.slew (n - 1) + add, anchor := g.anchor, rate := g.rate
                    pieces := [{ s0 := n - 1, base := 0, rem := g.remain (n - 1), step := slewStep g.rate s.slewMax }] }
  let sel := s.getF DTL_STATE.SELECTED
  let s := { s with dtl := s.dtl.pushSeg g' }
  let s := if sel < 3 then
      ((s.setRefX sel { lostSel := true, switched := true }).setF (DTL_REF_STAT.RSTATE sel) rsAbsent).setF (DTL_REF_STAT.GOOD sel) 0
    else s
  s.enterHoldover.trgSkipAll.epochSkip

/-! ### What registers show -/

/-- The stamp layout of DTL_EVT_n and DTL_PPS_IN (R259). -/
def stampWord (count : Tick) (sub : Nat) (rise ovf : Bool) : U64 :=
  BitVec.ofNat 64 (sub % 8 + 8 * (count % 2 ^ 58) + 2 ^ 61 * rise.toNat + 2 ^ 62 * ovf.toNat + 2 ^ 63)

/-- DTL registers that read a view of the Dateline. -/
def State.dtlView (s : State) (off : Nat) : Option U64 :=
  let n := s.dtl.count
  let g := s.dtl.seg
  let o := splitTime (g.off + g.slew n)
  if off = DTL_COUNT then some (BitVec.ofNat 64 n)
  else if off = DTL_ANCHOR then some (BitVec.ofNat 64 g.anchor)
  else if off = DTL_RATE then some (BitVec.ofNat 64 g.rate)
  else if off = DTL_OFFSET_S then some (BitVec.ofNat 64 (o.1 + 2 ^ 63))
  else if off = DTL_OFFSET_NS then some (BitVec.ofNat 64 (o.2.2 + 65536 * o.2.1))
  else if off = DTL_SLEW_REMAIN then some (BitVec.ofNat 64 (ofSigned 64 ((g.remain n).tdiv 65536)))
  else if 0x7400 ≤ off ∧ off < 0x7440 then
    let t := (off - 0x7400) / 8
    let x := s.dtl.trgs[t]?.getD {}
    some (BitVec.ofNat 64 (x.scheds.length + 8 * x.level.toNat) ||| (s.reg off &&& 0xFFFFFFFF00000000#64))
  else none

/-- The level of PPS_OUT (R255). -/
def State.ppsLevel (s : State) : Bool := s.dtl.ppsOut.isSome && s.ppsAllowed

/-! ### Meanings -/

/-- The host's write of DTL_RATE (R225, R228, R252). -/
def State.writeRate (s : State) (v : Nat) : State :=
  if s.bitF DTL_SLEW_CFG.SERVO_EN then s.incSat DTL_RATE_STAT.HOST_IGNORED
  else
    let r := clampNat rateMin rateMax v
    (if r = v then s else s.incSat DTL_RATE_STAT.CLAMPED).setRate r

/-- The host's write of DTL_SLEW (R231, R252). -/
def State.writeSlew (s : State) (v : Nat) : State :=
  if s.bitF DTL_SLEW_CFG.SERVO_EN then s.incSat DTL_RATE_STAT.HOST_IGNORED
  else s.setSlew (· + toSigned 64 v * 65536)

/-- Latch the count and its time (R227). -/
def State.capture (s : State) : State :=
  let o := splitTime s.time
  let s := s.setF DTL_CAP_COUNT.COUNT s.count64
  let s := s.setF DTL_CAP_S.SEC o.1
  let s := s.setF DTL_CAP_NS.NS o.2.1
  s.setF DTL_CAP_NS.FRAC o.2.2

/-- SET with AT_PPS = 0 (R237, R238). -/
def State.setNow (s : State) : State :=
  if s.getF DTL_STATE.STATE ≠ stUnset then s.incSat DTL_RATE_STAT.HOST_IGNORED
  else
    (s.stepTime ((s.getF DTL_SET_S.SEC : Int) * unitSec + (s.getF DTL_SET_NS.NS : Int) * unitNs)).leaveUnset

/-- SET with AT_PPS = 1 (R237, R238). -/
def State.setAtPps (s : State) : State :=
  if s.getF DTL_STATE.STATE ≠ stUnset then s.incSat DTL_RATE_STAT.HOST_IGNORED else s.setF DTL_STATE.ARMED 1

/-- The host's UNSET, ignored while the epoch clock runs (R239). No reference stays selected (log entry 3). -/
def State.unset (s : State) : State :=
  if s.bitF DTL_EPOCH_CFG.EN then s
  else
    let s := s.setSlew (fun _ => 0)
    let s := s.setF DTL_STATE.STATE stUnset
    let s := s.setF DTL_STATE.ARMED 0
    let s := s.setF DTL_STATE.SELECTED refNone
    (s.setF DTL_STATE.TARGET refNone).ppsGate

/-- A rising edge of PPS_IN at count t and sub-tick sub (R237, R241, R253, R254). -/
def State.ppsEdge (s : State) (sub : Nat) : State :=
  let t := s.dtl.count
  let s := s.setReg DTL_PPS_IN (stampWord t sub true false)
  let part := roundQ ((s.rate : Int) * sub) 8
  if s.getF DTL_STATE.STATE = stUnset then
    if s.bitF DTL_STATE.ARMED then
      (s.stepTime ((s.getF DTL_SET_S.SEC : Int) * unitSec - part)).leaveUnset
    else s
  else
    let T := s.time + part
    s.refSample 2 (nearQ T unitSec * unitSec - T)

/-- An edge at an event input (R256, R258). -/
def State.evtEdge (s : State) (n : Fin 16) (rise : Bool) (sub : Nat) : State :=
  let sel := s.getF (DTL_EVT_CFG.EDGE n)
  if sel = 3 ∨ (sel = 1 ∧ rise) ∨ (sel = 2 ∧ !rise) then
    let x := s.dtl.evts[n]
    if 32 ≤ x.fifo.length then
      (s.setEvt n { x with ovf := true }).incSat (DTL_EVT_CFG.LOST n)
    else
      s.setEvt n { fifo := x.fifo ++ [{ count := s.dtl.count, sub := sub, rise := rise, ovf := x.ovf }], ovf := false }
  else s

/-- A read of DTL_EVT_n pops one stamp (R259). -/
def State.evtRead (s : State) (n : Fin 16) : State :=
  let x := s.dtl.evts[n]
  match x.fifo with
  | [] => s.readBack (leBytes 8 0)
  | e :: es =>
    (s.setEvt n { x with fifo := es }).readBack
      (leBytes 8 (stampWord e.count e.sub e.rise e.ovf).toNat)

/-- A write of DTL_EPOCH_CFG (R268, R269; ranged fields take the nearest limit, log entry 3). -/
def State.writeEpochCfg (s : State) (v : U64) : State :=
  let en := v.getLsbD 63
  if s.bitF DTL_EPOCH_CFG.EN then (if en then s else s.epochStop)
  else
    let per := clampNat 2000 100000 (DTL_EPOCH_CFG.PERIOD_US.get v)
    let s := s.setF DTL_EPOCH_CFG.PERIOD_US per
    let s := s.setF DTL_EPOCH_CFG.REF_OFS_US (min per (DTL_EPOCH_CFG.REF_OFS_US.get v))
    if en && decide (s.getF DTL_STATE.STATE ≠ stUnset) then
      let s := s.setF DTL_EPOCH_CFG.EN 1
      { s with dtl := { s.dtl with epochK := s.epochFirst (s.time + 20000 * unitNs) } }
    else s

/-- The time of an older count (R277). -/
def State.convert (s : State) (c : Nat) : State :=
  let s := s.setF DTL_CONV_COUNT.COUNT c
  match s.dtl.segAt c with
  | some g =>
    if c ≤ s.dtl.count then
      let o := splitTime (g.time c)
      let s := s.setF DTL_CONV_S.VALID 1
      let s := s.setF DTL_CONV_S.SEC o.1
      let s := s.setF DTL_CONV_NS.NS o.2.1
      s.setF DTL_CONV_NS.FRAC o.2.2
    else s.setF DTL_CONV_S.VALID 0
  | none => s.setF DTL_CONV_S.VALID 0

/-- DTL_CAPTURE (R227). -/
def execDtlCapture (t : Tick) (v : U64) (s : State) : Result :=
  s.host (if v.getLsbD 0 then (s.at t).capture else s.at t)

/-- DTL_RATE_WRITE (R225, R228). -/
def execDtlRateWrite (t : Tick) (v : U64) (s : State) : Result := s.host ((s.at t).writeRate v.toNat)

/-- DTL_SLEW_WRITE (R231). -/
def execDtlSlewWrite (t : Tick) (v : U64) (s : State) : Result := s.host ((s.at t).writeSlew v.toNat)

/-- DTL_SET (R237). -/
def execDtlSet (t : Tick) (s : State) : Result := s.host (s.at t).setNow

/-- DTL_SET_AT_PPS (R237). -/
def execDtlSetAtPps (s : State) : Result := s.host s.setAtPps

/-- DTL_UNSET (R239). -/
def execDtlUnset (t : Tick) (s : State) : Result := s.host (s.at t).unset

/-- PPS_IN_EDGE (R253). -/
def execPpsInEdge (t : Tick) (sub : Fin 8) (s : State) : Result := s.live ((s.at t).ppsEdge sub)

/-- A SLAVE port feeds PTP reference r: ETH0 reference 0, ETH2 reference 1 (R304). -/
def State.refFed (s : State) (r : Nat) : Bool :=
  s.bitF (PTP_PORT_CFG.PORT_EN (2 * r)) && decide (s.getF (PTP_PORT_CFG.ROLE (2 * r)) = 1)

/-- REF_SAMPLE (R243, R304). -/
def execRefSample (t : Tick) (r : Fin 2) (theta : Int) (s : State) : Result :=
  s.live (
    let s := s.at t
    (if s.refFed r then s.refSample r theta else s))

/-- Reference r has given no sample for LOSS_MS (R243). -/
def State.refSilent (s : State) (r : Nat) : Bool :=
  match (s.refX r).prev with
  | none => true
  | some (_, c) => decide (c + msTicks (s.getF (DTL_REF_CFG.LOSS_MS r)) ≤ s.dtl.count)

/-- REF_HOLDOFF has passed since reference r entered HOLDOFF (R243). -/
def State.refHeld (s : State) (r : Nat) : Bool :=
  decide ((s.refX r).heldAt + msTicks (s.getF DTL_SEL_CFG.REF_HOLDOFF) ≤ s.dtl.count)

/-- REF_LOSS_TIMEOUT (R243). -/
def execRefLossTimeout (t : Tick) (r : Fin 3) (s : State) : Result :=
  s.live (
    let s := s.at t
    (if s.refState r = rsAbsent ∨ !s.refSilent r then s else s.refLose r))

/-- REF_HOLDOFF_EXPIRE (R243). -/
def execRefHoldoffExpire (t : Tick) (r : Fin 3) (s : State) : Result :=
  s.live (
    let s := s.at t
    (if s.refState r = rsHoldoff ∧ s.refHeld r then
        ((s.setRefX r { s.refX r with lostSel := false, switched := false }).setF (DTL_REF_STAT.RSTATE r) rsQualified).refQualified r
      else s))

/-- SWITCH_COMMIT (R246). -/
def execSwitchCommit (t : Tick) (s : State) : Result := s.live (s.at t).refCommit

/-- PPS_OUT rises at a whole second, and falls WIDTH_MS later (R255). -/
def State.ppsRise (s : State) : State :=
  if s.ppsAllowed && s.onSecond then
    { s with dtl := { s.dtl with ppsOut := some (s.dtl.count + msTicks (s.getF DTL_PPS_OUT.WIDTH_MS)) } }
  else s

/-- PPS_OUT falls once WIDTH_MS has passed (R255). -/
def State.ppsFall (s : State) : State :=
  match s.dtl.ppsOut with
  | none => s
  | some c => if s.dtl.count < c then s else { s with dtl := { s.dtl with ppsOut := none } }

/-- PPS_OUT_RISE (R255). -/
def execPpsOutRise (t : Tick) (s : State) : Result := s.live (s.at t).ppsRise

/-- PPS_OUT_FALL (R255). -/
def execPpsOutFall (t : Tick) (s : State) : Result := s.live (s.at t).ppsFall

/-- EVT_EDGE (R256). -/
def execEvtEdge (t : Tick) (n : Fin 16) (rise : Bool) (sub : Fin 8) (s : State) : Result :=
  s.live ((s.at t).evtEdge n rise sub)

/-- DTL_EVT_READ (R259). -/
def execDtlEvtRead (n : Fin 16) (s : State) : Result := s.hostRd .full (s.evtRead n)

/-- Dateline time has reached the next edge of an output, to within ±1 ns (R263). -/
def State.trgDue (s : State) (x : Trg) : Bool :=
  match x.scheds with
  | [] => false
  | c :: _ => decide ((c.edgeNs c.edge : Int) * unitNs ≤ s.time + s.tickSlack)

/-- TRG_EDGE (R263): the next edge of the running schedule is placed at tick t. -/
def execTrgEdge (t : Tick) (n : Fin 8) (s : State) : Result :=
  s.live (
    let s := s.at t
    (if s.trgDue s.dtl.trgs[n] then s.setTrg n (s.dtl.trgs[n]).edge else s))

/-- EPOCH_CLOCK_ENABLE (R268, R269): a write of DTL_EPOCH_CFG. -/
def execEpochClockEnable (t : Tick) (v : U64) (s : State) : Result := s.host ((s.at t).writeEpochCfg v)

/-- The AON time record of a whole second, while the Dateline is not UNSET, beside the coarse count as AON pairs it (R271). -/
def State.aonRecord (s : State) (coarse : Nat) : State :=
  let s := { s with dtl := { s.dtl with coarse := (coarse : Int) - (s.dtl.count / 20 : Nat) } }
  if s.getF DTL_STATE.STATE = stUnset ∨ !s.onSecond then s
  else { s with dtl := { s.dtl with aonRec := some { time := s.time, coarse := coarse, rate := s.rate } } }

/-- AON_TIME_RECORD (R271). -/
def execAonTimeRecord (t : Tick) (coarse : Nat) (s : State) : Result := s.live ((s.at t).aonRecord coarse)

/-- DTL_CONV (R277). -/
def execDtlConv (t : Tick) (v : U64) (s : State) : Result := s.host ((s.at t).convert v.toNat)

end Sys2Proof.Machine
end

