-- ==== Sys2Proof/Machine/Stock.lean ====
section
/-!
DEFINITION. The stock (R660 to R708) as every unit reaches it: addresses, permissions, the flat tier, leaves and their
cache, the provisional page table, atomics, the write-combining buffer, requests to other units, and fences. An access
answers ok, poison, denied, down or wait; a command whose access waits leaves its own effect undone and is taken again
when it is sent again (log entry 9).
-/

namespace Sys2Proof.Machine

/-! ### Addresses and tiers (R660 to R662) -/

/-- The home unit of a stock address. -/
def stkUnit (a : Nat) : Nat := a / 2 ^ 60

/-- The tier of a stock address. -/
def stkTier (a : Nat) : Nat := a / 2 ^ 58 % 4

/-- The offset of a stock address. -/
def stkOff (a : Nat) : Nat := a % 2 ^ 58

/-- The bytes of a leaf. -/
def leafBytes : Nat := 16384

/-- The unit of partitions and regions. -/
def twoMiB : Nat := 2097152

/-- This unit's ID. -/
def State.unit (s : State) : Nat := s.getF CHN_ID.UNIT_ID

/-- The bytes of the leaf cache (R661). -/
def State.cacheBytes (s : State) : Nat := s.board.dramBytes * s.getF STK_CFG.CACHE_EIGHTHS / 8

/-- FLAT_BYTES (R661). -/
def State.flatBytes (s : State) : Nat :=
  (s.board.dramBytes - s.cacheBytes - s.cacheBytes / 2048) / twoMiB * twoMiB

/-- FLASH_BYTES (R662). -/
def State.flashBytes (s : State) : Nat := s.board.flashBytes * 7 / 8 / leafBytes * leafBytes

/-- SETS (R661). -/
def State.cacheSets (s : State) : Nat := s.cacheBytes / 131072

/-- The stock address of an offset of this unit's flash-backed tier. -/
def State.flashAddr (s : State) (off : Nat) : Nat := s.unit * 2 ^ 60 + 2 ^ 58 + off

/-! ### Accesses -/

/-- Bytes an access touches. -/
def accLen : AccessOp → Nat
  | .read n => n
  | .write d => d.length
  | _ => 8

/-- Whether an access only reads. -/
def accReads : AccessOp → Bool
  | .read _ => true
  | _ => false

/-- Whether an access is an atomic. -/
def accAtomic : AccessOp → Bool
  | .read _ => false
  | .write _ => false
  | _ => true

/-- The word an atomic leaves, if it writes one (R670). -/
def accApply (op : AccessOp) (old : U64) : Option U64 :=
  match op with
  | .fetchAdd x => some (old + x)
  | .compareSwap e x => if old = e then some x else none
  | .swap x => some x
  | _ => none

/-- Who makes an access: presses 0 to 15, rings from 16 on, BAR2, and the unit's own agents of R679. -/
def agentRing (r : Nat) : Nat := 16 + r
def agentHost : Nat := 80
def agentOwn : Nat := 81
def agentRemote : Nat := 82
/-- Rings whose state a PCIe reset has taken away. -/
def agentGone : Nat := 98

/-- One stock access as its agent makes it. cls is the class code of Table HST-3; own marks an agent of R679; owner is
the provisional identity its stores carry. -/
structure StkReq where
  src    : Nat
  agent  : Nat
  cls    : Nat := 1
  own    : Bool := false
  op     : AccessOp
  addr   : Nat
  owner  : Option (Nat × Nat) := none
  provOk : Bool := false
  epoch  : Nat := 0
  ecc    : Ecc := .clean
  deriving DecidableEq, Repr

/-! ### Partitions and regions (R672 to R679) -/

/-- A partition or region entry. -/
structure StkEntry where
  base  : Nat
  size  : Nat
  en    : Bool
  keep  : Bool
  guard : Bool
  rd    : Nat
  wr    : Nat
  deriving DecidableEq, Repr

/-- Partition k. -/
def State.part (s : State) (k : Nat) : StkEntry where
  base := (s.reg (STK_PART_BASE k)).toNat
  size := s.getF (STK_PART_CFG.SIZE k) * twoMiB
  en := s.bitF (STK_PART_CFG.EN k)
  keep := s.bitF (STK_PART_CFG.KEEP k)
  guard := s.bitF (STK_PART_CFG.GUARD k)
  rd := s.getF (STK_PART_CFG.OWNERS k)
  wr := s.getF (STK_PART_CFG.OWNERS k)

/-- Region r of this unit's copy of the table. -/
def State.region (s : State) (r : Nat) : StkEntry where
  base := (s.reg (STK_REG_BASE r)).toNat
  size := s.getF (STK_REG_CFG.SIZE r) * twoMiB
  en := s.bitF (STK_REG_CFG.EN r)
  keep := s.bitF (STK_REG_CFG.KEEP r)
  guard := s.bitF (STK_REG_CFG.GUARD r)
  rd := s.getF (STK_REG_MASK.RMASK r)
  wr := s.getF (STK_REG_MASK.WMASK r)

/-- The enabled partitions. -/
def State.parts (s : State) : List StkEntry := ((List.range 8).map s.part).filter (·.en)

/-- The enabled regions. -/
def State.regions (s : State) : List StkEntry := ((List.range 32).map s.region).filter (·.en)

/-- The entry holds the whole access. -/
def StkEntry.covers (e : StkEntry) (a n : Nat) : Bool := decide (e.base ≤ a) && decide (a + n ≤ e.base + e.size)

/-- The entry holds some byte of the access. -/
def StkEntry.meets (e : StkEntry) (a n : Nat) : Bool := decide (a < e.base + e.size) && decide (e.base < a + n)

/-- The entry permits a source unit the access. -/
def StkEntry.permits (e : StkEntry) (read : Bool) (src : Nat) : Bool := (if read then e.rd else e.wr).testBit src

/-- The source unit's own copy refuses the access (R676). -/
def State.sourceRefuses (s : State) (q : StkReq) : Bool :=
  s.regions.any (fun e => e.meets q.addr (accLen q.op) && !e.permits (accReads q.op) q.src)

/-- The home unit permits the access (R675). -/
def State.homePermits (s : State) (q : StkReq) : Bool :=
  s.parts.any (fun e => e.covers q.addr (accLen q.op) && e.permits (accReads q.op) q.src) ||
  s.regions.any (fun e => decide (stkUnit e.base = s.unit) && e.covers q.addr (accLen q.op) && e.permits (accReads q.op) q.src)

/-- A guard entry refuses the write (R677). -/
def State.guardRefuses (s : State) (q : StkReq) : Bool :=
  !accReads q.op && decide (q.cls ≠ 0) && (s.parts ++ s.regions).any (fun e => e.guard && e.meets q.addr (accLen q.op))

/-- A partition that keeps inline check bits (R717). -/
def State.inlineEcc (s : State) (e : StkEntry) : Bool :=
  s.bitF GRD_CFG.INLINE_ECC && e.en && e.guard && decide (stkTier e.base = 0) && decide (stkUnit e.base = s.unit)

/-- The access meets the check-bit eighth of such a partition (R717). -/
def State.inCheckBits (s : State) (a n : Nat) : Bool :=
  s.parts.any (fun e => s.inlineEcc e && decide (a < e.base + e.size) && decide (e.base + e.size * 7 / 8 < a + n))

/-- The access meets a range being initialised (R718). -/
def State.inInit (s : State) (a n : Nat) : Bool :=
  (List.range 8).any (fun k => s.stk.initMask.testBit k && (s.part k).meets a n)

/-- The access lies in data with inline check bits. -/
def State.inInline (s : State) (a n : Nat) : Bool := s.parts.any (fun e => s.inlineEcc e && e.meets a n)

/-- Count a denied access (R663). -/
def State.deny (s : State) (src : Nat) (guard atSource : Bool) : State :=
  (((s.incSat STK_DENY.DENIED).setF STK_DENY.LAST_SRC src).setF STK_DENY.LAST_GUARD guard.toNat).setF
    STK_DENY.LAST_AT_SOURCE atSource.toNat

/-- The tier holds the whole access (R663, Table STK-1). -/
def State.inTier (s : State) (a n : Nat) : Bool :=
  match stkTier a with
  | 0 => decide (stkOff a + n ≤ s.flatBytes)
  | 1 => decide (stkOff a + n ≤ s.flashBytes)
  | 2 => false
  | _ => decide (stkOff a + n ≤ 2 ^ 58)

/-- Why an access at its home unit is denied: whether by R677 and whether by R676; none where it is permitted. -/
def State.refusal (s : State) (q : StkReq) : Option (Bool × Bool) :=
  let n := accLen q.op
  if !s.inTier q.addr n then some (false, false)
  else if stkTier q.addr = 3 then
    if accAtomic q.op || !(s.getF STK_HOSTWIN.HOSTWIN_MASK).testBit q.src then some (false, false) else none
  else if s.inCheckBits q.addr n then some (false, false)
  else if q.own then none
  else if decide (q.src = s.unit) && s.sourceRefuses q then some (false, true)
  else if s.guardRefuses q then some (true, false)
  else if !s.homePermits q then some (false, false)
  else none

/-! ### Waiting accesses -/

/-- An access begins to wait: it counts once. -/
def State.stkWait (s : State) (q : StkReq) (f : Option Fld) : StkAns × State :=
  let key := (q.agent, q.addr)
  if s.stk.waiting.contains key then ({ status := .wait }, s)
  else
    let s := s.setStk { s.stk with waiting := s.stk.waiting ++ [key] }
    ({ status := .wait }, match f with | none => s | some f => s.incSat f)

/-- An access that may have waited has been performed. -/
def State.stkDone (s : State) (q : StkReq) : State :=
  s.setStk { s.stk with waiting := s.stk.waiting.filter (fun k => decide (k ≠ (q.agent, q.addr))) }

/-! ### Poisoned lines (R602, R706) -/

/-- Some line of the access is poisoned. -/
def State.poisoned (s : State) (a n : Nat) : Bool :=
  s.stk.poison.any (fun e => decide (a / 64 ≤ e.1) && decide (e.1 ≤ (a + n - 1) / 64))

/-- Poison the given lines. -/
def State.poisonLines (s : State) (ls : List Nat) : State :=
  s.setStk { s.stk with poison := ls.foldl (fun m l => FMap.set (fun _ => false) m l true) s.stk.poison }

/-- The lines of an access. -/
def linesOf (a n : Nat) : List Nat := (List.range ((a + n - 1) / 64 + 1 - a / 64)).map (· + a / 64)

/-- Lines written whole are poisoned no more. -/
def State.cleanse (s : State) (a n : Nat) : State :=
  s.setStk { s.stk with poison := s.stk.poison.filter (fun e => !(decide (a ≤ 64 * e.1) && decide (64 * e.1 + 64 ≤ a + n))) }

/-! ### The provisional page table (R591 to R596) -/

/-- The mask of the lines of a page that an access touches. -/
def pageLines (a n pg : Nat) : Nat :=
  let lo := max a (pg * 4096)
  let hi := min (a + n) (pg * 4096 + 4096)
  if lo < hi then 2 ^ ((hi - 1) % 4096 / 64 + 1) - 2 ^ (lo % 4096 / 64) else 0

/-- The pages an access touches. -/
def pagesOf (a n : Nat) : List Nat := (List.range ((a + n - 1) / 4096 + 1 - a / 4096)).map (· + a / 4096)

/-- The identities whose lines an access touches, but for its own. -/
def State.pptHolders (s : State) (owner : Option (Nat × Nat)) (a n : Nat) : List (Nat × Nat) :=
  ((s.stk.ppt.filter (fun e => decide (e.2.mask &&& pageLines a n e.1 ≠ 0) &&
    decide (some (e.2.unit, e.2.pid) ≠ owner))).map (fun e => (e.2.unit, e.2.pid))).eraseDups

/-- A page of the access belongs to another identity (R592). -/
def State.pptForeign (s : State) (owner : Option (Nat × Nat)) (a n : Nat) : Bool :=
  s.stk.ppt.any (fun e => decide (pageLines a n e.1 ≠ 0) && decide (some (e.2.unit, e.2.pid) ≠ owner))

/-- A provisional store needs entries that the table has no room for (R592). -/
def State.pptFull (s : State) (a n : Nat) : Bool :=
  decide (4096 < s.stk.ppt.length + ((pagesOf a n).filter (fun p => !tabHas s.stk.ppt p)).length)

/-- Enter a provisional store (R591). -/
def State.pptMark (s : State) (o : Nat × Nat) (a n : Nat) : State :=
  s.setStk { s.stk with ppt := (pagesOf a n).foldl (fun m p =>
    let e : PptEntry := tabGet { unit := o.1, pid := o.2, mask := 0 } m p
    tabSet m p { e with mask := e.mask ||| pageLines a n p }) s.stk.ppt }

/-! ### Leaves (R681 to R692) -/

/-- The leaf is resident. -/
def State.resident (s : State) (l : Nat) : Bool := tabHas s.stk.leaves l

/-- A resident leaf's directory entry. -/
def State.leaf (s : State) (l : Nat) : Leaf := tabGet {} s.stk.leaves l

/-- Replace a leaf's directory entry. -/
def State.setLeaf (s : State) (l : Nat) (x : Leaf) : State := s.setStk { s.stk with leaves := tabSet s.stk.leaves l x }

/-- The pin range that decides for a leaf and whether it is COLD (R688). -/
def State.pinOf (s : State) (l : Nat) : Option (Nat × Bool) :=
  ((List.range 16).find? (fun r => s.bitF (STK_PIN_CFG.EN r) && decide (s.getF (STK_PIN_BASE.BASE r) / leafBytes ≤ l) &&
    decide (l < s.getF (STK_PIN_BASE.BASE r) / leafBytes + s.getF (STK_PIN_CFG.LEAVES r)))).map
    (fun r => (r, s.bitF (STK_PIN_CFG.KIND r)))

/-- The leaf is treated as COLD (R686, R690). -/
def State.cold (s : State) (l : Nat) : Bool :=
  decide (s.cacheSets = 0) || (match s.pinOf l with | some (_, k) => k | none => false)

/-- The leaf lies in a HOT range. -/
def State.hotWanted (s : State) (l : Nat) : Bool := match s.pinOf l with | some (_, k) => !k | none => false

/-- The resident leaves of a leaf's set. -/
def State.setOf (s : State) (l : Nat) : List (Nat × Leaf) :=
  s.stk.leaves.filter (fun e => decide (e.1 % s.cacheSets = l % s.cacheSets))

/-- The leaf holds an undecided provisional line (R596). -/
def State.leafProv (s : State) (l : Nat) : Bool :=
  let p := s.flashAddr (l * leafBytes) / 4096
  s.stk.ppt.any (fun e => decide (p ≤ e.1) && decide (e.1 < p + 4) && decide (e.2.mask ≠ 0))

/-- The leaf lies in a range marked KEEP (R685). -/
def State.keepWanted (s : State) (l : Nat) : Bool :=
  (s.parts ++ s.regions).any (fun e => e.keep && e.meets (s.flashAddr (l * leafBytes)) leafBytes)

/-- Dirty leaves with KEEP = 1. -/
def State.keepDirty (s : State) : Nat := s.stk.leaves.countP (fun e => e.2.dirty && e.2.keep)

/-- All dirty leaves. -/
def State.dirty (s : State) : Nat := s.stk.leaves.countP (fun e => e.2.dirty)

/-- DIRTY_LIMIT in leaves (R698). -/
def State.dirtyLimit (s : State) : Nat := s.getF STK_DIRTY_CFG.DIRTY_LIMIT * 64

/-- Program a journal record; a checkpoint every 2^20 (R704, R705). -/
def State.journal (s : State) : State :=
  let c := s.stk.jrecs + 1
  s.setStk { s.stk with jseq := s.stk.jseq + 1, jrecs := c % 2 ^ 20,
                        ckptOk := if c % 2 ^ 20 = 0 then (true, true) else s.stk.ckptOk }

/-- A leaf's bytes reach flash with their record (R704). -/
def State.program (s : State) (l : Nat) (data : Mem) : State :=
  (s.setStk { s.stk with flash := s.stk.flash.copyFrom data (l * leafBytes) leafBytes }).journal.incWrap STK_LEAF_STAT.WRITEBACKS

/-- Write a resident leaf back at once: it stays resident and clean (R687). -/
def State.writeBack (s : State) (l : Nat) : State :=
  let s := s.program l s.stk.cache
  s.setStk
    { s.stk with leaves := tabSet s.stk.leaves l { s.leaf l with dirty := false, dura := 0, again := false },
                 wbs := s.stk.wbs.filter (fun w => decide (w.leaf ≠ l)) }

/-- Start a write-back: the leaf is copied as it stands (R687). -/
def State.startWriteBack (s : State) (l : Nat) : State :=
  if s.pkg.suspended || s.leafProv l || s.stk.wbs.any (fun w => decide (w.leaf = l)) then s
  else
    let x := s.leaf l
    s.setStk { s.stk with
      wbs := s.stk.wbs ++ [⟨l, Mem.copyFrom {} s.stk.cache (l * leafBytes) leafBytes, x.dura⟩]
      leaves := tabSet s.stk.leaves l { x with dura := 0, again := false } }

/-- Drop a leaf from the cache. -/
def State.evict (s : State) (l : Nat) : State :=
  s.setStk { s.stk with leaves := tabDel s.stk.leaves l, cache := s.stk.cache.erase (l * leafBytes) leafBytes,
                        wbs := s.stk.wbs.filter (fun w => decide (w.leaf ≠ l)) }

/-- Mark a resident leaf as used last. -/
def State.useLeaf (s : State) (l : Nat) : State :=
  s.setStk
    { s.stk with leaves := tabSet s.stk.leaves l { s.leaf l with age := s.stk.uses + 1 }, uses := s.stk.uses + 1 }

/-- Whether a leaf of a HOT range is held hot, and the count of one that is not (R689). -/
def State.heldHot (s : State) (l : Nat) : Bool × State :=
  match s.pinOf l with
  | some (r, false) =>
    if (s.setOf l).countP (fun e => e.2.hot && decide (e.1 ≠ l)) < 7 then (true, s)
    else (false, (s.incSat STK_PIN_STAT.PIN_OVER).setF (STK_PIN_CFG.PARTIAL r) 1)
  | _ => (false, s)

/-- Bring a leaf into a free way (R682, R685, R689). -/
def State.install (s : State) (l : Nat) : State :=
  let (hot, s) := s.heldHot l
  (s.setStk { s.stk with
    cache := s.stk.cache.copyFrom s.stk.flash (l * leafBytes) leafBytes
    leaves := tabSet s.stk.leaves l { hot := hot, keep := s.keepWanted l, age := s.stk.uses + 1 }
    uses := s.stk.uses + 1
    fills := s.stk.fills.filter (fun k => decide (k ≠ l))
    misses := s.stk.misses.filter (fun e => decide (e.1 ≠ l)) }).incWrap STK_LEAF_STAT.FILLS

/-- The way least recently used among those given. -/
def oldest (es : List (Nat × Leaf)) : Option (Nat × Leaf) :=
  es.foldl (fun b e => match b with | none => some e | some x => if e.2.age < x.2.age then some e else b) none

/-- Fill a leaf; false where no way qualifies or a dirty victim cannot be programmed yet, and the request waits
(R684, R73, R691). -/
def State.fill (s : State) (l : Nat) : Bool × State :=
  if s.resident l then (true, s)
  else if (s.setOf l).length < 8 then (true, s.install l)
  else
    match oldest ((s.setOf l).filter (fun e => !e.2.hot && !s.leafProv e.1)) with
    | none => (false, s)
    | some (v, x) =>
      if x.dirty && s.pkg.suspended then (false, s)
      else
        let s := match oldest (s.setOf l) with
          | some (_, y) => if y.hot then s.incSat STK_PIN_STAT.PIN_HOLDS else s
          | none => s
        let s := if x.dirty then s.writeBack v else s
        (true, (s.evict v).install l)

/-- Count a read of a leaf as hit or miss, and start its promotion when its misses reach PROMOTE_N (R682, R691, R783). -/
def State.readLeaf (s : State) (l : Nat) : State :=
  if s.resident l then (s.incWrap STK_HITS.HITS).useLeaf l
  else
    let c := ((s.stk.misses.find? (fun e => decide (e.1 = l))).map (·.2)).getD 0 + 1
    let s := s.incWrap STK_MISSES.MISSES
    let s := s.setStk { s.stk with misses := ((l, c) :: s.stk.misses.filter (fun e => decide (e.1 ≠ l))).take 4096 }
    if c < s.getF STK_CFG.PROMOTE_N then s
    else if s.cold l then s.incSat STK_PIN_STAT.PIN_HOLDS
    else if s.stk.fills.contains l then s
    else if s.stk.promoHold then s.incSat LIM_THROTTLE.PROMO_DEFERRED
    else s.setStk { s.stk with fills := s.stk.fills ++ [l] }

/-- The leaves an access of the flash-backed tier touches. -/
def leavesOf (off n : Nat) : List Nat := (List.range ((off + n - 1) / leafBytes + 1 - off / leafBytes)).map (· + off / leafBytes)

/-- Bytes of the flash-backed tier: from the cache where the leaf is resident, else from flash (R682). -/
def State.flashRead (s : State) (off n : Nat) : List Byte :=
  (List.range n).map (fun i => if s.resident ((off + i) / leafBytes) then s.stk.cache.byte (off + i) else s.stk.flash.byte (off + i))

/-- Start write-backs of KEEP leaves, the oldest first, from 7/8 of the dirty limit on (R698). -/
def State.keepPressure (s : State) : State :=
  if 8 * s.keepDirty < 7 * s.dirtyLimit then s
  else
    match oldest ((s.stk.leaves.filter (fun e => e.2.dirty && e.2.keep && !s.leafProv e.1 &&
        !s.stk.wbs.any (fun w => decide (w.leaf = e.1)))).map (fun e => (e.1, { e.2 with age := e.2.dirtyAt }))) with
    | none => s
    | some (l, _) => s.startWriteBack l

/-- Write into one leaf: into the cache, or to flash for a COLD leaf (R683, R690, R698). False: the store waits. -/
def State.writeLeaf (s : State) (q : StkReq) (l off : Nat) (bs : List Byte) : Bool × State :=
  if !s.resident l && s.cold l then
    if s.pkg.suspended || q.owner.isSome then (false, s)
    else
      let s := (s.incWrap STK_MISSES.MISSES).incSat STK_PIN_STAT.PIN_HOLDS
      (true, (s.setStk { s.stk with flash := s.stk.flash.write off bs }).journal)
  else
    let s := if s.resident l then s.incWrap STK_HITS.HITS else s.incWrap STK_MISSES.MISSES
    match s.fill l with
    | (false, s) => (false, s)
    | (true, s) =>
      let x := s.leaf l
      if !x.dirty && x.keep && decide (s.dirtyLimit ≤ s.keepDirty) then
        (false, (s.stkWait q (some STK_PIN_STAT.DIRTY_WAIT)).2)
      else
        let x := { x with dirty := true, dura := x.dura ||| 2 ^ q.src, again := true,
                          dirtyAt := if x.dirty then x.dirtyAt else s.dtl.count }
        let s := (s.setStk { s.stk with cache := s.stk.cache.write off bs }).setLeaf l x
        (true, (s.useLeaf l).keepPressure)

/-- Write bytes of the flash-backed tier, leaf after leaf. -/
def State.flashWrite (s : State) (q : StkReq) (off : Nat) (bs : List Byte) : List Nat → Bool × State
  | [] => (true, s)
  | l :: ls =>
    let lo := max off (l * leafBytes)
    let hi := min (off + bs.length) (l * leafBytes + leafBytes)
    match s.writeLeaf q l lo (slice bs (lo - off) (hi - lo)) with
    | (false, s) => (false, s)
    | (true, s) => s.flashWrite q off bs ls

/-! ### The home unit's accesses (R665) -/

/-- Note that an agent has stored to a unit, for its next DURABLE fence (R696, R697). -/
def State.noteStore (s : State) (q : StkReq) : State :=
  let m := tabGet 0 s.stk.durSince q.agent ||| 2 ^ stkUnit q.addr
  s.setStk { s.stk with
    durSince := tabSet s.stk.durSince q.agent m
    flatSince := if stkTier q.addr = 0 then s.stk.flatSince ||| 2 ^ q.agent else s.stk.flatSince }

/-- What error checks find on a read (R706, R707, R717): a corrected word is counted; an uncorrectable one poisons its
lines. -/
def State.eccRead (s : State) (q : StkReq) : State :=
  let n := accLen q.op
  match q.ecc with
  | .clean => s
  | .single => if stkTier q.addr = 0 && s.inInline q.addr n then s.incSat GRD_ECC.CORRECTED else s
  | .double =>
    if stkTier q.addr = 0 && s.inInline q.addr n then
      ((s.incSat GRD_ECC.UNCORRECTED).incSat STK_ERR.DRAM_UNCORR).poisonLines (linesOf q.addr n)
    else if stkTier q.addr = 1 && !s.resident (stkOff q.addr / leafBytes) then
      (s.incSat STK_ERR.FLASH_UNCORR).poisonLines (linesOf q.addr n)
    else s

/-- A read at the home unit (R593, R594, R665, R682, R706). -/
def State.homeRead (s : State) (q : StkReq) : StkAns × State :=
  let n := accLen q.op
  let off := stkOff q.addr
  let held := s.pptHolders q.owner q.addr n
  if !held.isEmpty && !q.provOk then s.stkWait q (some RUN_WAIT.HELD_LOADS)
  else
    let s := (s.eccRead q).stkDone q
    let s := if stkTier q.addr = 1 then (leavesOf off n).foldl State.readLeaf s else s
    if s.poisoned q.addr n || (decide (stkTier q.addr = 3) && decide (q.ecc = .double)) then
      ({ status := .poison, deps := held }, s)
    else
      let d := match stkTier q.addr with
        | 0 => s.stk.dram.read off n
        | 1 => s.flashRead off n
        | _ => s.bus.hostMem.read off n
      ({ data := d, deps := held }, s)

/-- Put bytes in place at the home unit; false where the store waits. -/
def State.homeStore (s : State) (q : StkReq) (bs : List Byte) : Bool × State :=
  let off := stkOff q.addr
  match stkTier q.addr with
  | 0 => (true, s.setStk { s.stk with dram := s.stk.dram.write off bs })
  | 1 => s.flashWrite q off bs (leavesOf off bs.length)
  | _ => (true, s.setBus { s.bus with hostMem := s.bus.hostMem.write off bs })

/-- A write at the home unit (R591, R592, R595, R665). -/
def State.homeWrite (s : State) (q : StkReq) (bs : List Byte) : StkAns × State :=
  if s.pptForeign q.owner q.addr bs.length then s.stkWait q none
  else if q.owner.isSome && decide (stkTier q.addr = 3) then s.stkWait q none
  else if q.owner.isSome && s.pptFull q.addr bs.length then s.stkWait q (some RUN_WAIT.PPT_WAIT)
  else
    match s.homeStore q bs with
    | (false, s) => ({ status := .wait }, s)
    | (true, s) =>
      let s := (s.cleanse q.addr bs.length).stkDone q
      ({}, match q.owner with | none => s | some o => s.pptMark o q.addr bs.length)

/-- An atomic at the home unit (R593, R670, R671). -/
def State.homeAtomic (s : State) (q : StkReq) : StkAns × State :=
  if s.pptForeign q.owner q.addr 8 then s.stkWait q none
  else
    let s := s.eccRead q
    if s.poisoned q.addr 8 then ({ status := .poison }, s.stkDone q)
    else
      let off := stkOff q.addr
      let old := if stkTier q.addr = 0 then s.stk.dram.read off 8 else s.flashRead off 8
      let new := accApply q.op (BitVec.ofNat 64 (leNat old))
      match s.homeStore q (match new with | some w => leBytes 8 w.toNat | none => old) with
      | (false, s) => ({ status := .wait }, s)
      | (true, s) => ({ data := old }, s.stkDone q)

/-- One access at the home unit's serialisation point, after its permission checks (R663, R665). -/
def State.homeDo (s : State) (q : StkReq) : StkAns × State :=
  match s.refusal q with
  | some (g, src) => ({ status := .denied s.unit }, s.deny q.src g src)
  | none =>
    if s.inInit q.addr (accLen q.op) then s.stkWait q none
    else
      match q.op with
      | .read _ => s.homeRead q
      | .write bs => s.homeWrite q bs
      | _ => s.homeAtomic q

/-! ### Other units (R643, R666 to R668) -/

/-- Opcodes of Table CHN-4. -/
def opRead : Nat := 0x20
def opAtomic : Nat := 0x21
def opFlush : Nat := 0x22
def opWrite : Nat := 0x30
def opRdata : Nat := 0x40
def opAck : Nat := 0x41
def opAtomResult : Nat := 0x42
def opNack : Nat := 0x43

/-- The links passed going east from entry i of the map, n hops. -/
def linksEast (size i : Nat) : Nat → List Nat
  | 0 => []
  | n + 1 => i % size :: linksEast size (i + 1) n

/-- The hops to a unit going east and going west, none where an open link lies in the way (R628). -/
def chainHops (m : ChainMap) (me u : Nat) : Option Nat × Option Nat :=
  match m.ids.idxOf? me, m.ids.idxOf? u with
  | some i, some j =>
    let n := m.ids.length
    let e := (j + n - i) % n
    let w := (i + n - j) % n
    let free (ls : List Nat) : Bool := ls.all (fun l => !m.cuts.contains l)
    (if free (linksEast n i e) then some e else none, if free (linksEast n j w) then some w else none)
  | _, _ => (none, none)

/-- The port a message to a unit leaves by: fewer hops, east when equal; none where no route reaches it (R628, R644). -/
def State.routeTo (s : State) (u : Nat) : Option Port :=
  match chainHops s.chn.map s.unit u with
  | (some e, some w) => some (if w < e then 0 else 1)
  | (some _, none) => some 1
  | (none, some _) => some 0
  | (none, none) => none

/-- Some route reaches a unit (R641, R644). -/
def State.reachable (s : State) (u : Nat) : Bool := decide (u = s.unit) || (s.routeTo u).isSome

/-- Folds seen so far. -/
def State.folds (s : State) : Nat := s.getF CHN_FOLD_STAT.FOLDS

/-- Hand a message to the chain. -/
def State.inject (s : State) (m : Msg) : State := s.setChn { s.chn with inject := s.chn.inject ++ [m] }

/-- Send a request and keep it until its answer comes (R643, R647). -/
def State.sendReq (s : State) (agent : Nat) (m : Msg) : State :=
  let u := m.dst % 16
  let atom := decide (m.op = opAtomic)
  let tag := if atom then s.chn.atomTags.toList.getD u 0 else s.chn.nextTag
  let m := { m with tag := tag, src := s.unit, needAck := true }
  (s.setChn { s.chn with
    outs := s.chn.outs ++ [{ msg := m, agent := agent, folds := s.folds }]
    nextTag := if atom then s.chn.nextTag else (tag + 1) % 65536
    atomTags := if h : u < 16 then (if atom then s.chn.atomTags.set u ((tag + 1) % 65536) else s.chn.atomTags) else s.chn.atomTags }).inject m

/-- A request to a home unit has been sent again and is not answered yet (R668). -/
def State.homeHeld (s : State) (u : Nat) : Bool :=
  s.chn.outs.any (fun o => decide (o.msg.dst = u) && o.again && o.answer.isNone)

/-- The pieces of at most 2048 bytes that a long access is sent in. -/
def piecesOf (a n : Nat) : List (Nat × Nat) :=
  (List.range ((n + 2047) / 2048)).map (fun i => (a + 2048 * i, min 2048 (n - 2048 * i)))

/-- The request already sent for a message, by the same agent. -/
def State.sent (s : State) (agent : Nat) (m : Msg) : Option Outstanding :=
  s.chn.outs.find? (fun o => decide (o.agent = agent) && decide (o.msg.op = m.op) && decide (o.msg.dst = m.dst) &&
    decide (o.msg.addr = m.addr) && decide (o.msg.len = m.len) && decide (o.msg.stat = m.stat) && decide (o.msg.inline = m.inline))

/-- Forget requests whose answers have been used. -/
def State.forget (s : State) (os : List Outstanding) : State :=
  s.setChn { s.chn with outs := s.chn.outs.filter (fun o => !os.contains o) }

/-- The worst of the answers of the parts of one access. -/
def worst (as : List StkAns) : StkAns where
  status := ((as.map (·.status)).find? (fun x => decide (x ≠ .ok))).getD .ok
  data := as.flatMap (·.data)
  deps := (as.flatMap (·.deps)).eraseDups

/-- Requests to another unit: those not sent yet are sent; when all are answered, their answers are used. -/
def State.askAll (s : State) (agent : Nat) (ms : List Msg) : StkAns × State :=
  let got := ms.map (s.sent agent)
  if got.all (fun o => match o with | some x => x.answer.isSome | none => false) then
    (worst (got.filterMap (fun o => o.bind (·.answer))), s.forget (got.filterMap id))
  else ({ status := .wait }, (ms.filter (fun m => (s.sent agent m).isNone)).foldl (fun s m => s.sendReq agent m) s)

/-- The request of an atomic (R647, R670). -/
def atomicMsg (q : StkReq) : Msg :=
  let m : Msg := { op := opAtomic, dst := stkUnit q.addr, cls := q.cls, addr := q.addr, len := 8 }
  match q.op with
  | .fetchAdd x => { m with stat := 0, inline := leBytes 8 x.toNat }
  | .compareSwap e x => { m with stat := 1, inline := leBytes 8 x.toNat ++ leBytes 8 e.toNat }
  | .swap x => { m with stat := 2, inline := leBytes 8 x.toNat }
  | _ => m

/-! ### The write-combining buffer (R667) -/

/-- The runs of adjacent bytes of a line. -/
def runsOf : List (Nat × Byte) → List (Nat × List Byte)
  | [] => []
  | (o, b) :: r =>
    match runsOf r with
    | (o', bs) :: rs => if o + 1 = o' then (o, b :: bs) :: rs else (o, [b]) :: (o', bs) :: rs
    | [] => [(o, [b])]

/-- A write of an agent that was turned away, or found its home unreachable: BAR2's is dropped and counted (R128), and one of a ring that is
gone is dropped; every other is kept for its fence. -/
def State.writeLost (s : State) (o : Outstanding) (a : StkAns) : State :=
  if o.agent = agentHost then s.incSat HST_BAR2_ERR.DROPPED_WRITES
  else if o.agent = agentGone then s
  else s.setChn { s.chn with outs := s.chn.outs ++ [{ o with answer := some a }] }

/-- A line leaves the buffer: to this unit's host, to its home unit, or nowhere when no route reaches it (R644). -/
def State.wcLeave (s : State) (x : WcLine) : State :=
  let s := s.setStk { s.stk with wc := s.stk.wc.filter (fun y => decide (y ≠ x)) }
  (runsOf x.bytes).foldl (fun s r =>
    let a := 64 * x.line + r.1
    let m : Msg := { op := opWrite, dst := stkUnit a, cls := x.cls, prov := x.owner.isSome,
                     pid := (x.owner.map (·.2)).getD 0, len := r.2.length, addr := a, epoch := x.epoch, data := r.2 }
    if stkUnit a = s.unit then s.setBus { s.bus with hostMem := s.bus.hostMem.write (stkOff a) r.2 }
    else if s.reachable (stkUnit a) then s.sendReq x.agent m
    else (s.incSat CHN_E2E_STAT.REMOTE_DOWN).writeLost { msg := m, agent := x.agent, folds := s.folds } { status := .down (stkUnit a) }) s

/-- Empty the lines that p picks, oldest first. -/
def State.wcFlush (s : State) (p : WcLine → Bool) : State := (s.stk.wc.filter p).foldl State.wcLeave s

/-- Store the bytes of one line: merge into the line held, or take a new one, the oldest leaving a full buffer. -/
def State.wcLine (s : State) (q : StkReq) (line o : Nat) (bs : List Byte) : State :=
  let s := s.wcFlush (fun x => decide (x.line = line) && decide ((x.owner, x.agent, x.cls, x.epoch) ≠ (q.owner, q.agent, q.cls, q.epoch)))
  let put (m : FMap Byte) : FMap Byte :=
    (List.range bs.length).foldl (fun m i => tabSet m (o + i) (bs.getD i 0)) m
  if s.stk.wc.any (fun x => decide (x.line = line)) then
    s.setStk { s.stk with wc := s.stk.wc.map (fun x => if x.line = line then { x with bytes := put x.bytes } else x) }
  else
    let s := if s.stk.wc.length < 64 then s else (s.stk.wc.take 1).foldl State.wcLeave s
    s.setStk { s.stk with wc := s.stk.wc ++ [⟨line, s.dtl.count, put [], q.owner, q.epoch, q.agent, q.cls⟩] }

/-- Store bytes into the buffer, line after line. -/
def State.wcWrite (s : State) (q : StkReq) (bs : List Byte) : State :=
  (linesOf q.addr bs.length).foldl (fun s l =>
    let lo := max q.addr (64 * l)
    let hi := min (q.addr + bs.length) (64 * l + 64)
    s.wcLine q l (lo - 64 * l) (slice bs (lo - q.addr) (hi - lo))) s

/-! ### One access by an agent of this unit -/

/-- A stock access: at home, or by the chain (R663, R666, R667, R676). -/
def State.stkDo (s : State) (q : StkReq) : StkAns × State :=
  let u := stkUnit q.addr
  if (accLen q.op) = 0 then ({}, s)
  else if u = s.unit then
    match q.op with
    | .write bs =>
      if stkTier q.addr = 3 then
        match s.refusal q with
        | some (g, src) => ({ status := .denied u }, s.deny q.src g src)
        | none => if q.owner.isSome then s.stkWait q none else ({}, ((s.wcWrite q bs).noteStore q).stkDone q)
      else
        match s.homeDo q with
        | (a, s) => (a, if a.status = .ok then s.noteStore q else s)
    | _ =>
      match s.homeDo q with
      | (a, s) => (a, if a.status = .ok && accAtomic q.op then s.noteStore q else s)
  else if s.sourceRefuses q then ({ status := .denied u }, s.deny q.src false true)
  else if !s.reachable u then ({ status := .down u }, s.incSat CHN_E2E_STAT.REMOTE_DOWN)
  else if s.homeHeld u then s.stkWait q none
  else if q.owner.isSome && decide (stkTier q.addr = 3) && !accReads q.op then s.stkWait q none
  else
    match q.op with
    | .write bs => ({}, ((s.wcWrite q bs).noteStore q).stkDone q)
    | .read n =>
      s.askAll q.agent ((piecesOf q.addr n).map (fun p =>
        { op := opRead, dst := u, cls := q.cls, prov := q.provOk, len := p.2, addr := p.1 }))
    | _ =>
      match s.askAll q.agent [atomicMsg q] with
      | (a, s) => (a, if a.status = .ok then s.noteStore q else s)

/-- Read for one of this unit's own agents, with the class of the work it does (R678). -/
def State.ownRead (s : State) (a n : Nat) (cls : Nat := 1) : StkAns × State :=
  s.stkDo { src := s.unit, agent := agentOwn, cls := cls, own := true, op := .read n, addr := a }

/-- Write for one of this unit's own agents, with the class of the work it does (R678). -/
def State.ownWrite (s : State) (a : Nat) (bs : List Byte) (cls : Nat := 1) : StkAns × State :=
  s.stkDo { src := s.unit, agent := agentOwn, cls := cls, own := true, op := .write bs, addr := a }

/-! ### Fences (R693 to R697) -/

/-- Leaves of this unit that a DURABLE fence of a source writes back (R696). -/
def State.duraLeaves (s : State) (src : Nat) : List Nat :=
  (s.stk.leaves.filter (fun e => e.2.dura.testBit src || s.stk.wbs.any (fun w => decide (w.leaf = e.1) && w.dura.testBit src))).map (·.1)

/-- Write back what a source's DURABLE fence covers here; false while it must wait (R74, R596, R696). -/
def State.duraFlush (s : State) (src : Nat) : Bool × State :=
  let ls := s.duraLeaves src
  if ls.isEmpty then (true, s)
  else if s.pkg.suspended || ls.any s.leafProv then (false, s)
  else (true, ls.foldl State.writeBack s)

/-- A supply warning window holds back DURABLE fences: one is open, and no PFAIL flush runs (R74, R81). -/
def State.windowOpen (s : State) : Bool := s.bitF PKG_SMON_STATUS.OPEN && !s.bitF PKG_PFAIL_STATUS.FLUSH_ACTIVE

/-- The FLUSH requests that a fence of an agent still owes, or all of them answered (R678, R696). -/
def State.flushAll (s : State) (cls agent : Nat) : StkAns × State :=
  let homes := tabGet 0 s.stk.durSince agent
  let us := (List.range 16).filter (fun u => homes.testBit u && decide (u ≠ s.unit))
  match us.filter (fun u => !s.reachable u) with
  | u :: _ => ({ status := .down u }, s.incSat CHN_E2E_STAT.REMOTE_DOWN)
  | [] => s.askAll agent (us.map (fun u => { op := opFlush, dst := u, cls := cls }))

/-- A fence of work of a class over the work of some agents, their store buffers being empty: what it still waits for, or done, or the unit
that became unreachable (R693, R695 to R697). -/
def State.fence (s : State) (kind : FenceKind) (cls : Nat) (agents : List Nat) : StkAns × State :=
  let s := s.wcFlush (fun x => agents.contains x.agent)
  let mine (o : Outstanding) : Bool := agents.contains o.agent && decide (o.msg.op = opWrite ∨ o.msg.op = opAtomic)
  let bad := (s.chn.outs.filter (fun o => mine o && decide (o.msg.op = opWrite))).filterMap (fun o =>
    o.answer.bind (fun a => if a.status = .ok then none else some a.status))
  if kind = .order then ({}, s)
  else if s.chn.outs.any (fun o => mine o && o.answer.isNone) then ({ status := .wait }, s)
  else
    let s := s.setChn { s.chn with outs := s.chn.outs.filter (fun o => !(mine o && decide (o.msg.op = opWrite))) }
    match bad with
    | b :: _ => ({ status := b }, s)
    | [] =>
      if kind = .visible then ({}, s)
      else if s.windowOpen then ({ status := .wait }, s)
      else
        match s.duraFlush s.unit with
        | (false, s) => ({ status := .wait }, s)
        | (true, s) =>
          match agents.foldl (fun (x : List StkAns × State) g => let y := x.2.flushAll cls g; (x.1 ++ [y.1], y.2)) ([], s) with
          | (as, s) =>
            if (worst as).status ≠ .ok then ({ status := (worst as).status }, s)
            else
              let m := agents.foldl (fun m g => m ||| 2 ^ g) 0
              let s := if s.stk.flatSince &&& m = 0 then s else s.incSat STK_ERR.NOT_DURABLE
              ({}, s.setStk { s.stk with
                flatSince := s.stk.flatSince - (s.stk.flatSince &&& m)
                durSince := s.stk.durSince.filter (fun e => !agents.contains e.1) })

/-! ### Decisions over provisional lines (R596, R601, R602) -/

/-- COLD leaves that wait for their lines to be decided leave the cache (R690): a dirty one once written back. -/
def State.coldSweep (s : State) : State :=
  (s.stk.leaves.filter (fun e => s.cold e.1 && !s.leafProv e.1)).foldl
    (fun s e => if e.2.dirty then s.startWriteBack e.1 else s.evict e.1) s

/-- Work on leaves that waited for flash to be programmed again goes on (R76, R690, R698). -/
def State.stkResume (s : State) : State := s.coldSweep.keepPressure

/-- Free the entries of an identity (R601). -/
def State.pptFree (s : State) (u pid : Nat) : State :=
  (s.setStk { s.stk with ppt := s.stk.ppt.filter (fun e => !(decide (e.2.unit = u) && decide (e.2.pid = pid))) }).coldSweep

/-- Poison the lines of an identity and free its entries (R602). -/
def State.pptPoison (s : State) (u pid : Nat) : State :=
  let ls := (s.stk.ppt.filter (fun e => decide (e.2.unit = u) && decide (e.2.pid = pid))).flatMap (fun e =>
    ((List.range 64).filter (fun i => e.2.mask.testBit i)).map (fun i => e.1 * 64 + i))
  (s.poisonLines ls).pptFree u pid

/-! ### Atomics of rings that are gone (R171) -/

/-- An atomic that waits for a ring that a PCIe reset has emptied is tried again; whether it is done. -/
def State.lateTry (s : State) (x : Nat × Nat × AccessOp) : Bool × State :=
  match s.homeDo { src := s.unit, agent := agentGone, cls := x.1, op := x.2.2, addr := x.2.1 } with
  | (a, t) => if a.status = .wait then (false, s) else (true, t)

/-- Try each of them once. -/
def State.lateOn (s : State) : State :=
  s.stk.late.foldl (fun s x =>
    match s.lateTry x with
    | (false, s) => s
    | (true, s) => s.setStk { s.stk with late := s.stk.late.erase x }) s

/-! ### Commands of the stock -/

/-- The request of a STOCK_ACCESS command. -/
def accessReq (a : Access) : StkReq where
  src := a.src.val
  agent := if a.host then agentHost else agentRemote
  cls := if a.guard then 0 else 1
  op := a.op
  addr := a.addr
  owner := a.pid.map (fun p => (a.src.val, p.val))
  provOk := a.provOk
  epoch := a.epoch
  ecc := a.ecc

/-- The provisional page table holds a line that a BAR2 access touches (R605). -/
def State.bar2Held (s : State) (write : Bool) (a n : Nat) : Bool :=
  if write then s.pptForeign none a n else !(s.pptHolders none a n).isEmpty

/-- STOCK_ACCESS (R663, R665): the home unit's agent performs one access. After a PFAIL latch, other units are answered
REMOTE_DOWN (R700). -/
def execStockAccess (t : Tick) (a : Access) (s : State) : Result :=
  s.live (
    let s := s.at t
    let q := accessReq a
    (
      if s.bitF PKG_PFAIL_STATUS.PFAIL && decide (a.src.val ≠ s.unit) then s.setStk { s.stk with last := { status := .down s.unit } }
      else if a.host && s.bar2Held (!accReads q.op) q.addr (accLen q.op) then s.setStk { s.stk with last := { status := .denied s.unit } }
      else if stkUnit q.addr ≠ s.unit then s
      else match s.homeDo q with | (ans, s) => s.setStk { s.stk with last := ans }))

/-- PROVISIONAL_LOAD_WAIT (R593): a press's load meets a provisional line of another identity and waits. -/
def execProvisionalLoadWait (n : Press) (addr : Nat) (s : State) : Result :=
  s.live (if (s.pptHolders none addr 1).isEmpty then s
    else (s.stkWait { src := s.unit, agent := n.val, op := .read 1, addr := addr } (some RUN_WAIT.HELD_LOADS)).2)

/-- WC_LINE_TIMEOUT (R667): a line leaves 2 µs after its first store. -/
def execWcLineTimeout (t : Tick) (line : Nat) (s : State) : Result :=
  s.live ((s.at t).wcFlush (fun x => decide (x.line = line) && decide (x.first + 1000 ≤ (s.at t).dtl.count)))

/-- LEAF_FILL_DONE (R682, R685, R689, R706): a background fill ends, with the lines of the leaf that stayed uncorrectable. -/
def execLeafFillDone (leaf : Nat) (bad : List (Fin 256)) (s : State) : Result :=
  s.live (
    if s.resident leaf || s.cold leaf || !(s.stk.fills.contains leaf || s.hotWanted leaf) then s
    else
      match s.fill leaf with
      | (false, s) => s
      | (true, s) =>
        if bad.isEmpty then s
        else (s.incSat STK_ERR.FLASH_UNCORR).poisonLines (bad.map (fun i => s.flashAddr (leaf * leafBytes) / 64 + i.val)))

/-- LEAF_WRITEBACK_DONE (R687, R704, R706): the copied leaf and its journal record are programmed. A failed program retires
its block and the leaf is written elsewhere. -/
def execLeafWritebackDone (leaf : Nat) (programOk : Bool) (s : State) : Result :=
  s.live (
    match s.stk.wbs.find? (fun w => decide (w.leaf = leaf)) with
    | none => s
    | some w =>
      if s.pkg.suspended then s
      else
        let s := if programOk then s else s.incSat STK_ERR.PROG_FAIL
        let s := s.program leaf w.data
        let s := s.setStk { s.stk with wbs := s.stk.wbs.filter (fun w => decide (w.leaf ≠ leaf)) }
        let x := s.leaf leaf
        let s := s.setLeaf leaf { x with dirty := x.again, again := false }
        (if s.cold leaf && !x.again && !s.leafProv leaf then s.evict leaf else s).keepPressure)

/-- IDLE_WRITEBACK (R687): in idle flash time the oldest leaf that has been dirty for 1 s is written back. -/
def execIdleWriteback (s : State) : Result :=
  s.live (
    match oldest ((s.stk.leaves.filter (fun e => e.2.dirty && decide (e.2.dirtyAt + 500000000 ≤ s.dtl.count) && !s.leafProv e.1 &&
        !s.stk.wbs.any (fun w => decide (w.leaf = e.1)))).map (fun e => (e.1, { e.2 with age := e.2.dirtyAt }))) with
    | none => s
    | some (l, _) => s.startWriteBack l)

/-- Enable a pin range (R689, R690): resident leaves of a HOT range become hot, seven to a set; those of a COLD range leave the
cache, dirty ones once written back. -/
def State.pinEnable (s : State) (r : Nat) : State :=
  let s := (s.setF (STK_PIN_CFG.EN r) 1).setF (STK_PIN_CFG.PARTIAL r) 0
  let mine := s.stk.leaves.filter (fun e => match s.pinOf e.1 with | some (k, _) => decide (k = r) | none => false)
  if s.bitF (STK_PIN_CFG.KIND r) then
    let s := mine.foldl (fun s e => s.setLeaf e.1 { s.leaf e.1 with hot := false }) s
    s.coldSweep
  else mine.foldl (fun s e => match s.heldHot e.1 with | (h, s) => s.setLeaf e.1 { s.leaf e.1 with hot := h }) s

/-- Disable a pin range (R692): its leaves return to ordinary use. -/
def State.pinDisable (s : State) (r : Nat) : State :=
  let s := s.setF (STK_PIN_CFG.EN r) 0
  s.setStk { s.stk with leaves := s.stk.leaves.map (fun e => (e.1, { e.2 with hot := e.2.hot && s.hotWanted e.1 })) }

/-- PIN_RANGE_ENABLE (R689, R690). -/
def execPinRangeEnable (r : Fin 16) (s : State) : Result := s.host (s.pinEnable r.val)

/-- PIN_RANGE_DISABLE (R692). -/
def execPinRangeDisable (r : Fin 16) (s : State) : Result := s.host (s.pinDisable r.val)

/-! ### Windows of the memory controllers (R719, R782, R783) -/

/-- DRAM_BUSY_WINDOW (R782): what BEST_EFFORT requests get in the window that follows. -/
def execDramBusyWindow (busyPct : Nat) (s : State) : Result :=
  s.live (if s.getF LIM_CFG.BUSY_PCT ≤ busyPct then
      (s.incSat LIM_THROTTLE.BE_WINDOWS).setStk { s.stk with beCap := s.getF LIM_CFG.BE_CAP_PCT }
    else s.setStk { s.stk with beCap := 100 })

/-- FLASH_BUSY_WINDOW (R783): promotion fills are held off in the window after a busy one. -/
def execFlashBusyWindow (busyPct : Nat) (s : State) : Result :=
  s.live (s.setStk { s.stk with promoHold := decide (s.getF LIM_CFG.FLASH_BUSY_PCT ≤ busyPct) })

/-- What the registers show of the stock: FLAT_BYTES, FLASH_BYTES, SETS, HOLDUP_MS, and the dirty leaves (R661, R662, R698,
R699). -/
def State.holdupMs (s : State) : Nat :=
  (s.getF STK_DIRTY_CFG.DIRTY_LIMIT * 1048576 + 2400000 * s.board.channels - 1) / (2400000 * s.board.channels) + 6

end Sys2Proof.Machine
end

