-- ==== Sys2Proof/Machine/Chain.lean ====
section
/-!
DEFINITION. The chain (R609 to R649, R654 to R657): flits, credits and replay on a port, routing, the enumeration walk, attach
and detach, folding and healing, requests of other units at this home unit, and answers to this unit's own requests.
What other units' messages do to registers and to run-ahead lies in ChainControl.lean.
-/

namespace Sys2Proof.Machine

/-! ### Messages -/

/-- Opcodes of the control channel (Table CHN-4). -/
def opEnumProbe : Nat := 0x01
def opEnumEnd : Nat := 0x02
def opEnumDone : Nat := 0x03
def opAnnounce : Nat := 0x04
def opGrant : Nat := 0x05
def opFold : Nat := 0x06
def opHeal : Nat := 0x07
def opDetach : Nat := 0x08
def opRegRead : Nat := 0x09
def opRegWrite : Nat := 0x0A
def opRegResult : Nat := 0x0B
def opDecision : Nat := 0x0D
def opHeartbeat : Nat := 0x0E

/-- The virtual channel of a message: 0 CTRL, 1 REQ, 2 WDATA, 3 RESP (Table CHN-4). -/
def msgVc (m : Msg) : Nat :=
  if m.op < 0x20 then 0 else if m.op < 0x30 then 1 else if m.op < 0x40 then 2 else 3

/-- The flits of a message: its header and its data (R618). -/
def msgFlits (m : Msg) : Nat := 1 + (m.data.length + 63) / 64

/-- Credits of a virtual channel. -/
def Credits.of (c : Credits) : Nat → Nat
  | 0 => c.ctrl | 1 => c.req | 2 => c.wdata | _ => c.resp

/-- Add to the credits of a virtual channel. -/
def Credits.add (c : Credits) (vc n : Nat) : Credits :=
  match vc with
  | 0 => { c with ctrl := c.ctrl + n }
  | 1 => { c with req := c.req + n }
  | 2 => { c with wdata := c.wdata + n }
  | _ => { c with resp := c.resp + n }

/-- Take from the credits of a virtual channel. -/
def Credits.sub (c : Credits) (vc n : Nat) : Credits :=
  match vc with
  | 0 => { c with ctrl := c.ctrl - n }
  | 1 => { c with req := c.req - n }
  | 2 => { c with wdata := c.wdata - n }
  | _ => { c with resp := c.resp - n }

/-! ### Ports -/

/-- The state of a port. -/
def State.port (s : State) (d : Port) : ChnPort := s.chn.ports[d]

/-- Replace the state of a port. -/
def State.setPort (s : State) (d : Port) (x : ChnPort) : State := s.setChn { s.chn with ports := s.chn.ports.set d x }

/-- The other port. -/
def otherPort (d : Port) : Port := if d = 0 then 1 else 0

/-- Port states (Table CHN-8). -/
def psDown : Nat := 0
def psUp : Nat := 2
def psRetrain : Nat := 3
def psMiswired : Nat := 4

/-- A port is up. -/
def State.portUp (s : State) (d : Port) : Bool := decide (s.getF (CHN_PORT_STAT.STATE d) = psUp)

/-- Give a message to one port. -/
def State.sendOn (s : State) (d : Port) (m : Msg) : State :=
  s.setPort d { s.port d with passing := (s.port d).passing ++ [⟨m, false⟩] }

/-- Send a message along both ports that are up. -/
def State.broadcast (s : State) (m : Msg) : State :=
  [0, 1].foldl (fun s d => if s.portUp d then s.sendOn d m else s) s

/-! ### Sending (R620 to R624) -/

/-- Flits held in a replay buffer. -/
def ChnPort.heldFlits (x : ChnPort) : Nat := (x.replay.map (fun e => msgFlits e.msg)).sum

/-- A message that could go next on a port: one that waits at the port, or one of this unit's own that is routed there. -/
inductive Candidate where
  | waits (w : Waiting)
  | own (m : Msg)
  deriving DecidableEq, Repr

/-- The message. -/
def candMsg : Candidate → Msg
  | .waits w => w.msg
  | .own m => m

/-- It passes through this unit. -/
def candPasses : Candidate → Bool
  | .waits w => w.came
  | .own _ => false

/-- The first message of a list on a virtual channel: GUARD class ahead of the others, and within a class one that passes through ahead of
one that this unit injects (R622; which of the two orders comes first: log entry 13). -/
def firstOn (ms : List Candidate) (vc : Nat) : Option Candidate :=
  let on := ms.filter (fun m => decide (msgVc (candMsg m) = vc))
  let guard := on.filter (fun m => decide ((candMsg m).cls = 0))
  (guard.find? candPasses) <|> guard.head? <|> (on.find? candPasses) <|> on.head?

/-- What could go on a port, what waits there first. -/
def State.candidates (s : State) (d : Port) : List Candidate :=
  (s.port d).passing.map .waits ++ (s.chn.inject.filter (fun m => decide (s.routeTo m.dst = some d))).map .own

/-- The next message of a virtual channel on a port: the replay buffer has room for it, and the far end for all its flits, with 33 to spare
where this unit injects it (R620, R622 to R624). -/
def State.nextOn (s : State) (d : Port) (vc : Nat) : Option Candidate :=
  let x := s.port d
  match firstOn (s.candidates d) vc with
  | none => none
  | some c =>
    let n := msgFlits (candMsg c)
    if n + (if candPasses c then 0 else 33) ≤ x.credits.of vc ∧ x.heldFlits + n ≤ 512 then some c else none

/-- Put a message on the wire and keep it for replay (R615, R624). -/
def State.putOnWire (s : State) (d : Port) (m : Msg) (resends : Nat) : State :=
  let x := s.port d
  let n := msgFlits m
  (s.setPort d { x with txSeq := (x.txSeq + n) % 1024, credits := x.credits.sub (msgVc m) n,
                        replay := x.replay ++ [⟨x.txSeq, resends, m⟩],
                        wdataLast := if msgVc m = 1 then false else if msgVc m = 2 then true else x.wdataLast }).incWrap (CHN_PORT_TX.FLITS d) n

/-- Remove the first message of a list that equals m. -/
def dropFirst (ms : List Msg) (m : Msg) : List Msg := ms.erase m

/-- A port sends its next flits in the order of R622: a NAK, the credits it owes, then CTRL, RESP, and REQ and WDATA in turn. -/
def State.portSend (s : State) (d : Port) : State :=
  let x := s.port d
  if !s.portUp d || x.held then s
  else if x.nak.isSome then (s.setPort d { x with nak := none }).incWrap (CHN_PORT_TX.FLITS d)
  else if x.owed ≠ ({ ctrl := 0, req := 0, wdata := 0, resp := 0 } : Credits) then
    (s.setPort d { x with owed := { ctrl := 0, req := 0, wdata := 0, resp := 0 } }).incWrap (CHN_PORT_TX.FLITS d)
  else
    match [0, 3, if x.wdataLast then 1 else 2, if x.wdataLast then 2 else 1].findSome? (s.nextOn d) with
    | none => s
    | some (.own m) => (s.setChn { s.chn with inject := dropFirst s.chn.inject m }).putOnWire d m 0
    | some (.waits w) =>
      let s := s.setPort d { x with passing := x.passing.erase w }
      let s := if w.came then
          s.setPort (otherPort d) { s.port (otherPort d) with owed := (s.port (otherPort d)).owed.add (msgVc w.msg) (msgFlits w.msg) }
        else s
      s.putOnWire d w.msg 0

/-! ### Receiving (R616, R621, R625, R626) -/

/-- Sequence numbers up to a, modulo 1024, are covered by an acknowledgement of b. -/
def seqCovered (a b : Nat) : Bool := decide ((b + 1024 - a % 1024) % 1024 < 512)

/-- Take an acknowledgement: what it covers leaves the replay buffer (R624). -/
def ChnPort.ack (x : ChnPort) (a : Nat) : ChnPort :=
  { x with replay := x.replay.filter (fun e => !seqCovered ((e.seq + msgFlits e.msg - 1) % 1024) a) }

/-- A broadcast message: every unit on its way takes it and passes it on, until it meets its sender or the end of a line. -/
def msgForAll (m : Msg) : Bool := [opGrant, opFold, opHeal, opDetach, opDecision].contains m.op

/-- This unit takes a message: a walk message, a broadcast, ANNOUNCE at the root, or one addressed to it. -/
def State.msgMine (s : State) (m : Msg) : Bool :=
  decide (m.op ≤ opEnumDone) || msgForAll m ||
    (if m.op = opAnnounce then s.bitF CHN_ID.ROOT else decide (m.dst = s.unit) && s.bitF CHN_ID.ID_VALID && !s.bitF CHN_ID.NO_ID)

/-- A message goes on by the other port. -/
def State.msgPasses (s : State) (d : Port) (m : Msg) : Bool :=
  !s.msgMine m || (msgForAll m && decide (m.src ≠ s.unit) && s.portUp (otherPort d))

/-- A message arrives on a port (R616, R620 to R626): it is released here, or goes on toward its destination. What its consumer
does with it is that consumer's own command. -/
def State.portReceive (s : State) (d : Port) (h : LinkHeader) (m : Msg) (crcOk : Bool) : State :=
  let x := s.port d
  if !s.portUp d then s
  else if !crcOk then (s.setPort d { x with nak := some x.rxSeq }).incSat (CHN_PORT_ERR.CRC_ERR d)
  else
    let x := (x.ack h.ackSeq)
    let x := { x with credits := x.credits.add h.crdVc (16 * h.crdN) }
    if h.seq ≠ x.rxSeq then
      if seqCovered h.seq ((x.rxSeq + 1023) % 1024) then s.setPort d x else s.setPort d { x with nak := some x.rxSeq }
    else
      let n := msgFlits m
      let on := s.msgPasses d m
      let x := { x with rxSeq := (x.rxSeq + n) % 1024, owed := if on then x.owed else x.owed.add (msgVc m) n }
      let s := (s.setPort d x).incWrap (CHN_PORT_RX.FLITS d) n
      if on then s.setPort (otherPort d) { s.port (otherPort d) with passing := (s.port (otherPort d)).passing ++ [⟨m, true⟩] }
      else s

/-! ### Links up and down (R611, R641, R642, R645) -/

/-- The link of the map at a port of a unit: its index. -/
def linkAt (m : ChainMap) (u : Nat) (d : Port) : Option Nat :=
  (m.ids.idxOf? u).map (fun i => if d = 1 then i else (i + m.ids.length - 1) % m.ids.length)

/-- The units of the map that no route reaches. -/
def State.lostUnits (s : State) : List Nat := s.chn.map.ids.filter (fun u => !s.reachable u)

/-- The root holds the IDs of units that became unreachable for their die serials (R639). -/
def State.holdLost (s : State) : State :=
  if !s.bitF CHN_ID.ROOT then s
  else s.setChn { s.chn with heldIds := s.lostUnits.foldl (fun m u => tabSet m u (tabGet 0 s.chn.serials u)) s.chn.heldIds }

/-- A link of the map opens: routes change, and every unit raises CHAIN_FOLD (R641). -/
def State.linkCut (s : State) (u : Nat) (d : Port) : State :=
  match linkAt s.chn.map u d with
  | none => s
  | some l =>
    if s.chn.map.cuts.contains l then s
    else
      let s := s.setChn { s.chn with map := { s.chn.map with cuts := l :: s.chn.map.cuts, mode := 2 } }
      (((s.setF CHN_ID.MODE 2).incSat CHN_FOLD_STAT.FOLDS).holdLost).raise .chainFold

/-- A link of the map heals (R645). -/
def State.linkHeal (s : State) (u : Nat) (d : Port) : State :=
  match linkAt s.chn.map u d with
  | none => s
  | some l =>
    if !s.chn.map.cuts.contains l then s
    else
      let cuts := s.chn.map.cuts.filter (fun k => decide (k ≠ l))
      let mode := if cuts.isEmpty then 1 else 2
      let s := s.setChn { s.chn with map := { s.chn.map with cuts := cuts, mode := mode } }
      let s := (s.setF CHN_ID.MODE mode).incSat CHN_FOLD_STAT.HEALS
      (s.setChn { s.chn with heldIds := s.chn.heldIds.filter (fun e => !s.reachable e.1) }).raise .chainFold

/-- The bit of CHN_FOLD_STAT that shows a port folded. -/
def foldBit (d : Port) : Fld := if d = 0 then CHN_FOLD_STAT.WEST else CHN_FOLD_STAT.EAST

/-- FOLD or HEAL as this unit sends it: the payload names the port. -/
def State.foldMsg (s : State) (op : Nat) (d : Port) : Msg := { op := op, src := s.unit, inline := [BitVec.ofNat 8 d.val] }

/-- A port that was up goes down: the unit folds it, sends FOLD along its other port, and sends what was not acknowledged the
other way (R641, R642). -/
def State.portFold (s : State) (d : Port) : State :=
  if s.getF (CHN_PORT_STAT.STATE d) ≠ psUp ∧ s.getF (CHN_PORT_STAT.STATE d) ≠ psRetrain then s
  else
    let x := s.port d
    let o := otherPort d
    let s := ((s.setF (CHN_PORT_STAT.STATE d) psDown).setF (CHN_PORT_STAT.FOLDED d) 1).incSat (CHN_PORT_ERR.LINK_DOWNS d)
    let s := (s.setF (foldBit d) 1).setPort d { goal := x.goal, longWait := x.longWait }
    let again := x.replay.map (fun e => (⟨{ e.msg with resend := true }, false⟩ : Waiting))
    let s := s.setPort o { s.port o with passing := (s.port o).passing ++ again ++ x.passing.map (fun w => { w with came := false }) }
    let s := s.incSat CHN_E2E_STAT.RESENDS again.length
    let mine (o : Outstanding) : Bool := x.replay.any (fun e => decide (e.msg.tag = o.msg.tag) && decide (e.msg.op = o.msg.op) &&
      decide (e.msg.dst = o.msg.dst) && decide (e.msg.src = s.unit))
    let s := s.setChn { s.chn with outs := s.chn.outs.map (fun o => { o with again := o.again || mine o }) }
    (s.sendOn o (s.foldMsg opFold d)).linkCut s.unit d

/-- The serial and the sticky request an ANNOUNCE carries (R638). -/
def State.announceMsg (s : State) (sticky : Option Nat) : Msg :=
  { op := opAnnounce, unaddr := true, inline := leBytes 8 s.otp.serial ++
      [match sticky with | some k => BitVec.ofNat 8 (128 + k) | none => 0] }

/-! ### The boot flash's chain configuration record (R631) -/

/-- Where the chain configuration record lies in the boot flash. -/
def chainRecordAt : Nat := 0x220000

/-- The sticky ID of the record; none where the record is not valid or holds none (R631). -/
def State.sticky (s : State) : Option Nat :=
  let b := s.qspi.read chainRecordAt 20
  if leAt b 0 4 = 0x4E48435A && decide (leAt b 16 4 = crc32 (b.take 16)) && (byteAt b 5).testBit 7 then some (byteAt b 5 % 16) else none

/-! ### Enumeration (R632 to R636) -/

/-- INLINE of ENUM_PROBE and ENUM_END. -/
def enumBytes (b : EnumBody) : List Byte :=
  leBytes 2 b.used.toNat ++ leBytes 1 b.pos ++ leBytes 8 b.serial ++ leBytes 1 b.yielded.toNat ++ b.ids.flatMap (fun e => leBytes 1 e.1)

/-- A walk message on its way. -/
def walkMsg (op : Nat) (b : EnumBody) : Msg := { op := op, unaddr := true, inline := enumBytes b }

/-- Send a probe on, or hold it until its port comes up (R634). -/
def State.probeOn (s : State) (d : Port) (b : EnumBody) : State :=
  if s.portUp d then (s.setChn { s.chn with walk := { s.chn.walk with held := none } }).sendOn d (walkMsg opEnumProbe b)
  else s.setChn { s.chn with walk := { s.chn.walk with held := some (d, b) } }

/-- The lowest ID whose bit is clear. -/
def lowestFree (used : Nat) : Option Nat := (List.range 16).find? (fun i => !used.testBit i)

/-- The ID a unit takes: its sticky one when it is free, else the lowest free one (R633). -/
def idChoice (sticky : Option Nat) (used : Nat) : Option Nat :=
  match sticky with
  | some k => if used.testBit k then lowestFree used else some k
  | none => lowestFree used

/-- Take an ID and a position (R632, R633). -/
def State.takeId (s : State) (id pos : Nat) (conflict : Bool) : State :=
  (((s.setF CHN_ID.UNIT_ID id).setF CHN_ID.ID_VALID 1).setF CHN_ID.POSITION pos).setF CHN_ID.CONFLICT conflict.toNat

/-- The root starts its walk: it takes the ID it kept, or its own sticky one, and sends the probe east (R632, R640). -/
def State.enumStart (s : State) : State :=
  let id := if s.bitF CHN_ID.ID_VALID then s.unit else s.sticky.getD 0
  let s := (s.takeId id 0 false).setF CHN_ID.MODE 3
  let s := s.setChn { s.chn with walk := { walking := true, lowest := some s.otp.serial }, serials := [(id, s.otp.serial)] }
  s.probeOn 1 { used := BitVec.ofNat 16 (2 ^ id), pos := 1, serial := s.otp.serial, ids := [] }

/-- A unit takes the map as its own. -/
def State.takeMap (s : State) (m : ChainMap) : State :=
  let s := s.setChn { s.chn with map := m }
  ((s.setF CHN_ID.MAP (m.ids.foldl (fun a u => a ||| 2 ^ u) 0)).setF CHN_ID.UNITS m.ids.length).setF CHN_ID.MODE m.mode

/-- The bytes that carry a map. -/
def mapBytes (m : ChainMap) : List Byte :=
  leBytes 1 m.mode ++ leBytes 1 m.ids.length ++ m.ids.flatMap (leBytes 1) ++ m.cuts.flatMap (leBytes 1)

/-- The walk ends at the root: the map is made and ENUM_DONE goes along every path (R632, R636). -/
def State.enumFinish (s : State) (b : EnumBody) (ring : Bool) : State :=
  let east := (s.chn.walk.west).getD b.ids.length
  let ids := s.unit :: (b.ids.take east).map (·.1) ++ ((b.ids.drop east).reverse).map (·.1)
  let m : ChainMap := { mode := if ring then 1 else 2, ids := ids, cuts := if ring then [] else [east] }
  let other := s.chn.walk.other || b.yielded
  let s := s.setChn { s.chn with walk := { s.chn.walk with walking := false, held := none },
                                 serials := b.ids.foldl (fun t e => tabSet t e.1 e.2) s.chn.serials }
  let s := (s.takeMap m).setF MKR_STATUS.ENUM_DONE 1
  let s := if other then s.setF CHN_ID.ROOT_CONFLICT 1 else s
  s.broadcast { op := opEnumDone, src := s.unit, unaddr := true,
                inline := leBytes 8 s.otp.serial ++ [BitVec.ofNat 8 other.toNat] ++ mapBytes m }

/-- The root learns that a direction has ended: it turns west, or its walk is over (R632). -/
def State.enumTurn (s : State) (b : EnumBody) : State :=
  if s.chn.walk.west.isSome then s.enumFinish b false
  else (s.setChn { s.chn with walk := { s.chn.walk with west := some b.ids.length } }).probeOn 0 b

/-- A unit that is no root takes part in a walk: it takes an ID and forwards the probe (R632, R633, R635). -/
def State.probeTake (s : State) (d : Port) (b : EnumBody) : State :=
  let s := s.setChn { s.chn with walk := { s.chn.walk with lowest := some b.serial } }
  match idChoice s.sticky b.used.toNat with
  | none => (s.setF CHN_ID.NO_ID 1).probeOn (otherPort d) b
  | some id =>
    let s := s.takeId id b.pos (match s.sticky with | some k => decide (k ≠ id) | none => false)
    s.probeOn (otherPort d) { b with used := b.used ||| BitVec.ofNat 16 (2 ^ id), pos := b.pos + 1, ids := b.ids ++ [(id, s.otp.serial)] }

/-- The unit takes part in walks: in phase ENUM, and in READY (R632, R636); a stop in HALT abandons the walk (R80). -/
def State.enumOn (s : State) : Bool := decide (s.getF MKR_STATUS.PHASE = 0x0B) || decide (s.getF MKR_STATUS.PHASE = 0x0C)

/-- A probe arrives (R632 to R636). -/
def State.enumProbe (s : State) (d : Port) (b : EnumBody) : State :=
  let w := s.chn.walk
  let higher := match w.lowest with | some l => decide (l < b.serial) | none => false
  if !s.enumOn then s
  else if s.bitF CHN_ID.ROOT then
    if b.serial = s.otp.serial then (if w.walking && w.west.isNone && decide (d = 0) then s.enumFinish b true else s)
    else
      let s := s.setChn { s.chn with walk := { w with other := true } }
      if s.otp.serial < b.serial then s
      else
        let s := (s.setF CHN_ID.ROOT 0).setF CHN_ID.ROOT_CONFLICT 1
        (s.setChn { s.chn with walk := { other := true } }).probeTake d { b with yielded := true }
  else if higher then s
  else if w.lowest = some b.serial ∧ s.bitF CHN_ID.ID_VALID ∧ s.getF CHN_ID.MODE = 3 then s
  else s.probeTake d b

/-- ENUM_END arrives: it goes back to the root that walks (R632, R636). -/
def State.enumEnd (s : State) (d : Port) (b : EnumBody) : State :=
  if !s.enumOn then s
  else if s.bitF CHN_ID.ROOT && decide (b.serial = s.otp.serial) then (if s.chn.walk.walking then s.enumTurn b else s)
  else if s.chn.walk.lowest = some b.serial then s.sendOn (otherPort d) (walkMsg opEnumEnd b)
  else s

/-- ENUM_DONE arrives: accepted only from the root with the lowest serial seen (R632, R636). A unit that took no ID passes it on and stays in
ENUM (R105, R635). -/
def State.enumDone (s : State) (d : Port) (b : EnumDoneBody) : State :=
  if !s.enumOn || (s.bitF CHN_ID.ROOT && decide (b.serial = s.otp.serial)) then s
  else if s.chn.walk.lowest ≠ some b.serial then s
  else
    let s := s.takeMap b.map
    let s := if s.bitF CHN_ID.NO_ID then s else s.setF MKR_STATUS.ENUM_DONE 1
    let s := if b.conflict then s.setF CHN_ID.ROOT_CONFLICT 1 else s
    let o := otherPort d
    if s.portUp o then s.sendOn o { op := opEnumDone, unaddr := true,
                                    inline := leBytes 8 b.serial ++ [BitVec.ofNat 8 b.conflict.toNat] ++ mapBytes b.map } else s

/-- HOP_WAIT_MS passes with the onward port still down: ENUM_END goes back (R634). -/
def State.hopExpire (s : State) : State :=
  match s.chn.walk.held with
  | none => s
  | some (d, b) =>
    let s := s.setChn { s.chn with walk := { s.chn.walk with held := none } }
    if s.chn.walk.walking then s.enumTurn b else s.sendOn (otherPort d) (walkMsg opEnumEnd b)

/-! ### Links up, attach and detach (R611, R638 to R640) -/

/-- The unit has no way to its root: it holds no map, or no route reaches the root (R638, R813). -/
def State.cutOff (s : State) : Bool := decide (s.chn.map.ids.length ≤ 1) || !s.reachable (s.chn.map.ids.headD 0)

/-- A link comes up, or shows MISWIRED (R611); a held probe goes on (R634); a unit that its root cannot reach announces itself (R638, R640,
R813); a root that has not ended its walk ignores that (log entry 13). -/
def State.linkUp (s : State) (d far : Port) : State :=
  if far = d then s.setF (CHN_PORT_STAT.STATE d) psMiswired
  else if s.portUp d then s
  else
    let x := s.port d
    let alone := s.cutOff
    let s := (s.setPort d { goal := x.goal, longWait := x.longWait, passing := x.passing }).setF (CHN_PORT_STAT.STATE d) psUp
    let s := s.setF (CHN_PORT_STAT.RATE d) x.goal
    let s := match s.chn.walk.held with
      | some (d', b) => if d' = d then s.probeOn d b else s
      | none => s
    if (s.bitF MKR_STATUS.READY || decide (s.getF MKR_STATUS.PHASE = 0x0B)) && alone &&
        !s.bitF CHN_ID.ROOT then
      s.sendOn d (s.announceMsg (if s.bitF CHN_ID.ID_VALID then some s.unit else s.sticky))
    else s

/-- The GRANT message. -/
def State.grantMsg (s : State) (id serial : Nat) : Msg :=
  { op := opGrant, src := s.unit, inline := leBytes 1 id ++ leBytes 8 serial ++ mapBytes s.chn.map }

/-- A map with a unit added at the end of the line that its announcement came from, or put back in its place (R638). -/
def mapAttach (m : ChainMap) (id : Nat) (d : Port) : ChainMap :=
  if m.ids.contains id then m
  else
    match m.cuts with
    | [] => { m with mode := 2, ids := m.ids ++ [id], cuts := [m.ids.length] }
    | l :: ls => { m with mode := 2, ids := m.ids.take (l + 1) ++ [id] ++ m.ids.drop (l + 1),
                          cuts := (if d = 1 then l + 1 else l) :: ls.map (fun k => if l < k then k + 1 else k) }

/-- ANNOUNCE at the root: it grants the ID held for the serial, or the next free one, and broadcasts the map (R638). -/
def State.announced (s : State) (d : Port) (serial : Nat) : State :=
  if !s.bitF CHN_ID.ROOT || s.chn.walk.walking || !s.bitF MKR_STATUS.ENUM_DONE then s
  else
    let held := s.chn.heldIds.find? (fun e => decide (e.2 = serial))
    let used := s.chn.map.ids.foldl (fun a u => a ||| 2 ^ u) 0
    let used := s.chn.heldIds.foldl (fun a e => a ||| 2 ^ e.1) used
    match (held.map (·.1)) <|> lowestFree used with
    | none => s
    | some id =>
      let s := s.setChn { s.chn with serials := tabSet s.chn.serials id serial, heldIds := tabDel s.chn.heldIds id }
      let s := s.takeMap (mapAttach s.chn.map id d)
      (s.broadcast (s.grantMsg id serial)).raise .chainAttach

/-- GRANT at a unit (R638). -/
def State.granted (s : State) (id serial : Nat) (m : ChainMap) : State :=
  let s :=
    if serial = s.otp.serial then
      ((s.takeId id ((m.ids.idxOf? id).getD 0) (match s.sticky with | some k => decide (k ≠ id) | none => false)).setF
        MKR_STATUS.ENUM_DONE 1).setF CHN_ID.NO_ID 0
    else s
  (s.takeMap m).raise .chainAttach

/-- A unit's ID is released: it leaves the map (R639). -/
def State.detached (s : State) (id : Nat) : State :=
  match s.chn.map.ids.idxOf? id with
  | none => s
  | some i =>
    let m := s.chn.map
    let cuts := (m.cuts.map (fun k => if i ≤ k ∧ 0 < k then k - 1 else k)).eraseDups
    (s.takeMap { m with ids := m.ids.erase id, cuts := cuts }).raise .chainAttach

/-- DETACH_MS passes for an ID the root holds (R639). -/
def State.detachExpire (s : State) (id : Nat) : State :=
  if !s.bitF CHN_ID.ROOT || !tabHas s.chn.heldIds id then s
  else
    let s := s.setChn { s.chn with heldIds := tabDel s.chn.heldIds id, serials := tabDel s.chn.serials id }
    (s.detached id).broadcast { op := opDetach, src := s.unit, inline := leBytes 1 id }

/-! ### Requests of other units (R646 to R648, R665, R696, R700) -/

/-- The status code a NACK carries (Table HST-6). -/
def nackCode : StkStatus → Nat
  | .poison => 0x0C
  | .denied _ => 0x10
  | _ => 0x11

/-- Answer a request: a response with its tag, or NACK with the status. -/
def State.respond (s : State) (m : Msg) (op : Nat) (a : StkAns) (inline data : List Byte) : State :=
  let r : Msg := { op := op, src := s.unit, dst := m.src, tag := m.tag, cls := m.cls, addr := m.addr }
  match a.status with
  | .ok => s.inject { r with prov := !a.deps.isEmpty, pid := (a.deps.headD (0, 0)).2, len := data.length, data := data,
                             inline := inline ++ a.deps.flatMap (fun x => leBytes 1 x.1 ++ leBytes 1 x.2) }
  | .wait => s
  | st => s.inject { r with op := opNack, stat := nackCode st }

/-- The stock access that a request asks for. -/
def msgReq (m : Msg) (op : AccessOp) : StkReq where
  src := m.src
  agent := agentRemote + m.src
  cls := m.cls
  op := op
  addr := m.addr
  owner := if m.prov ∧ ¬ accReads op then some (m.src, m.pid) else none
  provOk := m.prov
  epoch := m.epoch

/-- This unit turns every new request of another unit away once PFAIL is latched (R700). -/
def State.turnsAway (s : State) : Bool := s.bitF PKG_PFAIL_STATUS.PFAIL

/-- Serve READ or WRITE: the access is performed and answered; one that must wait is served when it comes again. -/
def State.serve (s : State) (m : Msg) (op : AccessOp) (ans : Nat) : State :=
  if s.turnsAway then s.respond m ans { status := .down s.unit } [] []
  else
    match s.homeDo (msgReq m op) with
    | (a, s) => s.respond m ans a [] a.data

/-- The atomic a message asks for (R618, R670). -/
def msgAtomic (m : Msg) : Option AccessOp :=
  let x : U64 := BitVec.ofNat 64 (leAt m.inline 0 8)
  match m.stat with
  | 0 => some (.fetchAdd x)
  | 1 => some (.compareSwap (BitVec.ofNat 64 (leAt m.inline 8 8)) x)
  | 2 => some (.swap x)
  | _ => none

/-- Serve ATOMIC: a repeated one is answered from the replay cache and not executed (R648). -/
def State.serveAtomic (s : State) (m : Msg) : State :=
  if s.turnsAway then s.respond m opAtomResult { status := .down s.unit } [] []
  else
    let src : Fin 16 := Fin.ofNat 16 m.src
    match (s.chn.atomics[src]).find? (fun e => decide (e.1 = m.tag)) with
    | some (_, v) => (s.incSat CHN_ATOM_STAT.CACHE_HITS).respond m opAtomResult {} (leBytes 8 v.toNat) []
    | none =>
      match msgAtomic m with
      | none => s
      | some op =>
        match s.homeDo (msgReq m op) with
        | (a, s) =>
          let s := if a.status = .ok then
              let cache := ((m.tag, BitVec.ofNat 64 (leNat a.data)) :: s.chn.atomics[src]).take 64
              (s.setChn { s.chn with atomics := s.chn.atomics.set src cache }).incSat CHN_ATOM_STAT.EXECUTED
            else s
          s.respond m opAtomResult a a.data []

/-- Serve FLUSH: every leaf the source stored to is written back, then ACK (R696). -/
def State.serveFlush (s : State) (m : Msg) : State :=
  if s.turnsAway then s.respond m opAck { status := .down s.unit } [] []
  else
    match s.duraFlush m.src with
    | (true, s) => s.respond m opAck {} [] []
    | (false, s) => s

/-! ### Answers (R643, R646) -/

/-- The provisional identities an RDATA names (log entry 13). -/
def rdataDeps (m : Msg) : List (Nat × Nat) :=
  if m.prov then (List.range (m.inline.length / 2)).map (fun i => (byteAt m.inline (2 * i), byteAt m.inline (2 * i + 1))) else []

/-- The status a NACK reports. -/
def nackStatus (m : Msg) : StkStatus := if m.stat = 0x0C then .poison else if m.stat = 0x10 then .denied m.src else .down m.src

/-- An answer to one of this unit's requests; one that answers none is counted (R646). -/
def State.answered (s : State) (m : Msg) (ops : List Nat) (a : StkAns) : State :=
  let hit (o : Outstanding) : Bool :=
    o.answer.isNone && decide (o.msg.tag = m.tag) && decide (o.msg.dst = m.src) && ops.contains o.msg.op
  match s.chn.outs.find? hit with
  | none => s.incSat CHN_E2E_STAT.DUP_RESP
  | some o =>
    if o.msg.op = opWrite ∧ a.status = .ok then s.setChn { s.chn with outs := s.chn.outs.erase o }
    else if o.agent = agentGone then s.setChn { s.chn with outs := s.chn.outs.erase o }
    else if o.msg.op = opWrite ∧ o.agent = agentHost then (s.setChn { s.chn with outs := s.chn.outs.erase o }).writeLost o a
    else
      let s := if (match a.status with | .down _ => true | _ => false) then s.incSat CHN_E2E_STAT.REMOTE_DOWN else s
      s.setChn { s.chn with outs := s.chn.outs.map (fun p => if p = o then { o with answer := some a } else p) }

/-- No answer within REMOTE_TO_US: the request is sent once more after a fold, else it is over (R643). -/
def State.remoteTimeout (s : State) (tag op : Nat) : State :=
  match s.chn.outs.find? (fun o => o.answer.isNone && decide (o.msg.tag = tag) && decide (o.msg.op = op)) with
  | none => s
  | some o =>
    if o.folds < s.folds ∧ ¬ o.resent ∧ s.reachable o.msg.dst then
      let s := s.setChn { s.chn with outs := s.chn.outs.map (fun p => if p = o then { o with resent := true, again := true, folds := s.folds } else p) }
      (s.inject { o.msg with resend := true }).incSat CHN_E2E_STAT.RESENDS
    else if o.agent = agentGone ∨ (o.msg.op = opWrite ∧ o.agent = agentHost) then
      ((s.setChn { s.chn with outs := s.chn.outs.erase o }).writeLost o {}).incSat CHN_E2E_STAT.REMOTE_DOWN
    else
      (s.setChn { s.chn with outs := s.chn.outs.map (fun p =>
        if p = o then { o with answer := some { status := .down o.msg.dst } } else p) }).incSat CHN_E2E_STAT.REMOTE_DOWN

/-! ### Lane rates (R655 to R658, R788 to R790) -/

/-- Count an override, record it and raise POLICY_CONFLICT with the notices that fall with it (R790, R791). -/
def State.override (s : State) (f : Fld) (source : Nat) (with_ : List Notice) : State :=
  let now := if s.bitF DTL_EPOCH_NOW.RUNNING then s.getF DTL_EPOCH_NOW.NUMBER else 2 ^ 32 - 1
  (((s.incSat f).setF LIM_CONFLICT_LAST.SOURCE source).setF LIM_CONFLICT_LAST.EPOCH now).raiseAll (with_ ++ [.policyConflict])

/-- Start a retraining to a rate (R657). -/
def State.retrain (s : State) (d : Port) (goal : Nat) : State :=
  (s.setPort d { s.port d with goal := goal, overWindows := 0, dirty := false }).setF (CHN_PORT_STAT.STATE d) psRetrain

/-- The port drops to HALF: the downshift is counted, and it is an override where FULL is forced (R655, R788, R790). -/
def State.downshift (s : State) (d : Port) (longWait : Bool) : State :=
  let s := (s.retrain d 1).incSat (CHN_PORT_STAT.DOWNSHIFTS d)
  let s := s.setPort d { s.port d with sinceUp := none, longWait := longWait }
  if s.getF (CHN_PORT_CFG.FORCE_RATE d) = 1 then
    s.override (if d = 0 then LIM_CONFLICT.LANE_WEST else LIM_CONFLICT.LANE_EAST) (2 + d.val) [.laneErr]
  else s.raise .laneErr

/-- A window of 2^20 flits ends (R655, R656, R788, R789). -/
def State.windowEnd (s : State) (d : Port) (resent : Nat) : State :=
  let x := s.port d
  let limit := s.getF (CHN_PORT_CFG.REPLAY_LIMIT d)
  if !s.portUp d || decide (s.getF (CHN_PORT_CFG.FORCE_RATE d) = 2) then s
  else if s.getF (CHN_PORT_STAT.RATE d) = 1 then
    s.setPort d { x with dirty := x.dirty || decide (limit < 4 * resent) }
  else
    let above := decide (limit < resent)
    let n := if above then x.overWindows + 1 else 0
    let early := match x.sinceUp with | some k => decide (k < 2) | none => false
    if above && early then s.downshift d true
    else if 2 ≤ n then s.downshift d false
    else s.setPort d { x with overWindows := n, sinceUp := x.sinceUp.map (· + 1),
                              longWait := x.longWait && (match x.sinceUp with | some k => decide (k < 1) | none => true) }

/-- UPSHIFT_S has passed at HALF (R656): with every window clean the port retrains at FULL. -/
def State.upshift (s : State) (d : Port) : State :=
  let x := s.port d
  if !s.portUp d || decide (s.getF (CHN_PORT_STAT.RATE d) = 0) || decide (s.getF (CHN_PORT_CFG.FORCE_RATE d) = 2) then s
  else if x.dirty then s.setPort d { x with dirty := false }
  else
    let s := s.retrain d 0
    (s.setPort d { s.port d with sinceUp := some 0 }).incSat (CHN_PORT_STAT.UPSHIFTS d)

/-- A write of FORCE_RATE holds the port at that rate (R658): a port that runs at the other one retrains. -/
def State.forceRate (s : State) (d : Port) : State :=
  let f := s.getF (CHN_PORT_CFG.FORCE_RATE d)
  if s.portUp d && decide (f ≠ 0) && decide (s.getF (CHN_PORT_STAT.RATE d) + 1 ≠ f) then s.retrain d (f - 1) else s

/-! ### Meanings -/

/-- CHAIN_LINK_UP (R611, R638). -/
def execChainLinkUp (d far : Port) (s : State) : Result := s.live (s.linkUp d far)

/-- CHAIN_MESSAGE_TX (R620 to R624). -/
def execChainMessageTx (d : Port) (s : State) : Result := s.live (s.portSend d)

/-- CHAIN_MESSAGE_RX (R615, R616, R625). -/
def execChainMessageRx (d : Port) (h : LinkHeader) (m : Msg) (crcOk : Bool) (s : State) : Result :=
  s.live (s.portReceive d h m crcOk)

/-- LINK_CREDIT (R617, R621). -/
def execLinkCredit (d : Port) (ctrl req wdata resp : Nat) (s : State) : Result :=
  s.live (let x := s.port d
    if !s.portUp d then s
    else s.setPort d { x with credits := (((x.credits.add 0 ctrl).add 1 req).add 2 wdata).add 3 resp })

/-- ENUM_PROBE (R632 to R636). -/
def execEnumProbe (d : Port) (b : EnumBody) (s : State) : Result := s.live (s.enumProbe d b)

/-- ENUM_END (R632). -/
def execEnumEnd (d : Port) (b : EnumBody) (s : State) : Result := s.live (s.enumEnd d b)

/-- ENUM_DONE (R632, R636). -/
def execEnumDone (d : Port) (b : EnumDoneBody) (s : State) : Result := s.live (s.enumDone d b)

/-- HOP_WAIT_EXPIRE (R634). -/
def execHopWaitExpire (s : State) : Result := s.live s.hopExpire

/-- ANNOUNCE (R638): the sticky request does not change what the root grants. -/
def execAnnounce (d : Port) (sticky : Option Nat) (serial : Nat) (s : State) : Result :=
  let _ := sticky
  s.live (s.announced d serial)

/-- GRANT (R638). -/
def execGrant (id : UnitId) (serial : Nat) (m : ChainMap) (s : State) : Result := s.live (s.granted id serial m)

/-- DETACH (R639). -/
def execDetach (id : UnitId) (s : State) : Result := s.live (s.detached id)

/-- DETACH_MS_EXPIRE (R639). -/
def execDetachMsExpire (id : UnitId) (s : State) : Result := s.live (s.detachExpire id)

/-- HEAL_HOLD_EXPIRE (R645): a folded port that retrained and stayed free of replays heals. -/
def execHealHoldExpire (d : Port) (s : State) : Result :=
  s.live (if !s.portUp d || !s.bitF (CHN_PORT_STAT.FOLDED d) then s
    else
      let s := (s.setF (CHN_PORT_STAT.FOLDED d) 0).setF (foldBit d) 0
      (s.broadcast (s.foldMsg opHeal d)).linkHeal s.unit d)

/-- HEAL (R645). -/
def execHeal (u : UnitId) (d : Port) (s : State) : Result := s.live (s.linkHeal u d)

/-- REMOTE_TIMEOUT (R643). -/
def execRemoteTimeout (tag op : Nat) (s : State) : Result := s.live (s.remoteTimeout tag op)

/-- READ (R646, R665). -/
def execRead (t : Tick) (m : Msg) (s : State) : Result := s.live ((s.at t).serve m (.read m.len) opRdata)

/-- WRITE (R646, R665). -/
def execWrite (t : Tick) (m : Msg) (s : State) : Result := s.live ((s.at t).serve m (.write m.data) opAck)

/-- ATOMIC (R648, R670). -/
def execAtomic (t : Tick) (m : Msg) (s : State) : Result := s.live ((s.at t).serveAtomic m)

/-- FLUSH (R696). -/
def execFlush (m : Msg) (s : State) : Result := s.live (s.serveFlush m)

/-- RDATA (R646). -/
def execRdata (m : Msg) (s : State) : Result := s.live (s.answered m [opRead] { data := m.data, deps := rdataDeps m })

/-- ATOM_RESULT (R648). -/
def execAtomResult (m : Msg) (s : State) : Result := s.live (s.answered m [opAtomic] { data := m.inline.take 8 })

/-- NACK (R619). -/
def execNack (m : Msg) (s : State) : Result :=
  s.live (s.answered m [opRead, opWrite, opAtomic, opFlush] { status := nackStatus m })

/-- REPLAY_WINDOW_END (R655, R656, R788 to R790). -/
def execReplayWindowEnd (d : Port) (resent : Nat) (s : State) : Result := s.live (s.windowEnd d resent)

/-- UPSHIFT_TIMER_EXPIRE (R656). -/
def execUpshiftTimerExpire (d : Port) (s : State) : Result := s.live (s.upshift d)

end Sys2Proof.Machine
end

