-- ==== Sys2Proof/Machine/Clamps.lean ====
section
/-!
DEFINITION. What a register stores of a value written to it (R10, R65, R88, R173, R218, R230, R330, R410, R422, R659, R708, R743, R791): the fields
for which the spec says that a value outside a range is stored as another one, and the reserved bits of the templates. Every other field
stores what is written (log entry 29).
-/

namespace Sys2Proof.Machine

/-- A field of a word replaced by a function of it. -/
def Fld.map (f : Fld) (g : Nat → Nat) (w : U64) : U64 := f.put w (g (f.get w))

/-- A value of 0 is stored as 1. -/
def atLeast1 (v : Nat) : Nat := max 1 v

/-- The offset is that of GAL_CFG_g, for the galley it names. -/
def galCfgOf (off : Nat) : Option Nat :=
  if 0x6000 ≤ off ∧ off < 0x6800 ∧ off % 0x20 = 0x18 then some ((off - 0x6000) / 0x20) else none

/-- The bits of word k of a template that Tables ING-6 and ING-7 name; the others are reserved (R10). -/
def tplMask (k : Nat) : Nat :=
  match k with
  | 0 => 0xFFFF001F
  | 1 => 0xFFFFFFFFFFFF
  | 2 => 0x103FFFFFFFFFF
  | 3 => 0xFFFFFFFFFFFF0007
  | 4 => 0xFFFFFFFF
  | 5 => 0x7FFFF
  | 6 => 0
  | 7 => 0
  | _ => 0xFFFFFFFF1FFFF37F

/-- The word that a register at an offset stores when w is what its fields would hold. -/
def storedWord (off : Nat) (w : U64) : U64 :=
  if off = PKG_SMON_CFG then PKG_SMON_CFG.WARN_LEVEL.map (clampNat 176 192) w
  else if off = PKG_DVFS_CTRL then PKG_DVFS_CTRL.FLOOR.map (min 4) (PKG_DVFS_CTRL.CEIL.map (min 4) w)
  else if off = HST_ARB then HST_ARB.BE_WEIGHT.map atLeast1 (HST_ARB.OP_WEIGHT.map atLeast1 w)
  else if off = RGS_SEED then RGS_SEED.SEED.map atLeast1 w
  else if off = CHN_CFG then CHN_CFG.REMOTE_TO_US.map (clampNat 5 45) w
  else if off = STK_CFG then STK_CFG.PROMOTE_N.map atLeast1 (STK_CFG.CACHE_EIGHTHS.map (min 6) w)
  else if off = GRD_CFG then GRD_CFG.BW_PCT.map (min 50) (GRD_CFG.PAT_MAX_GAP.map atLeast1 (GRD_CFG.VALID_N.map atLeast1 w))
  else if off = LIM_CFG then LIM_CFG.BUSY_PCT.map (clampNat 50 100) w
  else if off = DTL_SLEW_CFG then DTL_SLEW_CFG.SLEW_MAX.map (clampNat 1 500) w
  else if 0xB000 ≤ off ∧ off < 0xC000 then w &&& BitVec.ofNat 64 (tplMask (off % 0x100 / 8))
  else
    match galCfgOf off with
    | some g => match galTable g with
      | some (depth, true, _) => (GAL_CFG.MAX_ITEM g).map (clampNat 1 depth) w
      | some (_, false, _) => w
      | none => 0
    | none => w

end Sys2Proof.Machine
end

