-- ==== Sys2Proof/Machine/Crypto.lean ====
section
/-!
DEFINITION. SHA-256 and ECDSA P-256 as their standards define them (R95, R801; log entry 27).
-/

namespace Sys2Proof.Machine

/-! ### SHA-256 (FIPS 180-4) -/

/-- The first bits of the fraction of a root: the largest r of n bits whose power by k is at most v, found bit by bit from the top. -/
def rootOf (k v : Nat) : Nat → Nat → Nat
  | 0, r => r
  | n + 1, r => rootOf k v n (if (r + 2 ^ n) ^ k ≤ v then r + 2 ^ n else r)

/-- The primes below a bound, by trial. -/
def primesTo (bound : Nat) : List Nat :=
  (List.range bound).filter (fun p => decide (2 ≤ p) && (List.range p).all (fun d => decide (d < 2) || decide (p % d ≠ 0)))

/-- The round constants: 32 bits of the fractions of the cube roots of the first 64 primes, which end with 311. -/
def roundConstants : List U32 := (primesTo 312).map (fun p => BitVec.ofNat 32 (rootOf 3 (p * 2 ^ 96) 36 0))

/-- The starting hash: 32 bits of the fractions of the square roots of the first eight primes, which end with 19. -/
def startWords : List U32 := (primesTo 20).map (fun p => BitVec.ofNat 32 (rootOf 2 (p * 2 ^ 64) 36 0))

/-- A word mixed with itself, turned by three amounts; the third is a shift where `cut` says so. -/
def turned (i j k : Nat) (cut : Bool) (x : U32) : U32 :=
  x.rotateRight i ^^^ x.rotateRight j ^^^ (if cut then x >>> k else x.rotateRight k)

/-- The message schedule, newest word first: n words more than are there. -/
def extend : Nat → List U32 → List U32
  | 0, ws => ws
  | n + 1, ws =>
    let back (k : Nat) : U32 := ws.getD (k - 1) 0
    extend n ((turned 17 19 10 true (back 2) + back 7 + turned 7 18 3 true (back 15) + back 16) :: ws)

/-- One round on the two histories that the working variables are: the last four words of each, newest first. -/
def mixRound (x : List U32 × List U32) (kw : U32) : List U32 × List U32 :=
  let p (i : Nat) : U32 := x.1.getD i 0
  let q (i : Nat) : U32 := x.2.getD i 0
  let t := q 3 + turned 6 11 25 false (q 0) + (q 2 ^^^ (q 0 &&& (q 1 ^^^ q 2))) + kw
  let m := (p 0 &&& p 1) ||| (p 2 &&& (p 0 ||| p 1))
  ((t + turned 2 13 22 false (p 0) + m) :: x.1.take 3, (p 3 + t) :: x.2.take 3)

/-- One block of 64 bytes on a hash of eight words. -/
def hashBlock (h : List U32) (block : List Byte) : List U32 :=
  let first := (List.range 16).map (fun i => BitVec.ofNat 32 (beAt block (4 * i) 4))
  let sums := List.zipWith (· + ·) roundConstants (extend 48 first.reverse).reverse
  let y := sums.foldl mixRound (h.take 4, h.drop 4)
  List.zipWith (· + ·) h (y.1 ++ y.2)

/-- Blocks one after another. -/
def hashBlocks : Nat → List U32 → List Byte → List U32
  | 0, h, _ => h
  | n + 1, h, bs => hashBlocks n (hashBlock h (bs.take 64)) (bs.drop 64)

/-- The SHA-256 of bytes. -/
def sha256 (bs : List Byte) : List Byte :=
  let tail := 0x80 :: List.replicate ((119 - bs.length % 64) % 64) 0 ++ beBytes 8 (8 * bs.length)
  let m := bs ++ tail
  (hashBlocks (m.length / 64) startWords m).flatMap (fun w => beBytes 4 w.toNat)

/-! ### ECDSA P-256 -/

def ecP : Nat := 0xffffffff00000001000000000000000000000000ffffffffffffffffffffffff
def ecB : Nat := 0x5ac635d8aa3a93e7b3ebbd55769886bc651d06b0cc53b0f63bce3c3e27d2604b
def ecN : Nat := 0xffffffff00000000ffffffffffffffffbce6faada7179e84f3b9cac2fc632551
def ecGx : Nat := 0x6b17d1f2e12c4247f8bce6e563a440f277037d812deb33a0f4a13945d898c296
def ecGy : Nat := 0x4fe342e2fe1a7f9b8ee7eb4a7c0f9e162bce33576b315ececbb6406837bf51f5

/-- A power modulo m, by n bits of the exponent. -/
def powMod (m : Nat) : Nat → Nat → Nat → Nat
  | 0, _, _ => 1
  | n + 1, b, e =>
    let r := powMod m n (b * b % m) (e / 2)
    if e % 2 = 1 then r * b % m else r

/-- The inverse modulo a prime. -/
def invMod (m a : Nat) : Nat := powMod m 256 (a % m) (m - 2)

/-- A point of the curve; none is the point at infinity. -/
abbrev EcPoint := Option (Nat × Nat)

/-- The point lies on the curve. -/
def ecOn (x y : Nat) : Bool :=
  decide (x < ecP) && decide (y < ecP) && decide (y * y % ecP = (x * x * x + (ecP - 3) * x + ecB) % ecP)

/-- The sum of two points. -/
def ecAdd (a b : EcPoint) : EcPoint :=
  match a, b with
  | none, _ => b
  | _, none => a
  | some (x1, y1), some (x2, y2) =>
    if x1 = x2 ∧ (y1 + y2) % ecP = 0 then none
    else
      let l := if x1 = x2 then (3 * x1 * x1 + (ecP - 3)) * invMod ecP (2 * y1) % ecP
        else (y2 + ecP - y1) * invMod ecP (x2 + ecP - x1) % ecP
      let x := (l * l + 2 * ecP - x1 - x2) % ecP
      some (x, (l * (x1 + ecP - x) + ecP - y1) % ecP)

/-- A multiple of a point, by n bits of the factor. -/
def ecMul : Nat → Nat → EcPoint → EcPoint
  | 0, _, _ => none
  | n + 1, k, a =>
    let r := ecMul n (k / 2) (ecAdd a a)
    if k % 2 = 1 then ecAdd r a else r

/-- A signature (r, sg) over a hash is valid under the key (x, y). -/
def ecdsaOk (x y r sg : Nat) (hash : List Byte) : Bool :=
  if !ecOn x y || decide (r = 0) || decide (ecN ≤ r) || decide (sg = 0) || decide (ecN ≤ sg) then false
  else
    let w := invMod ecN sg
    let e := beNat hash
    match ecAdd (ecMul 256 (e * w % ecN) (some (ecGx, ecGy))) (ecMul 256 (r * w % ecN) (some (x, y))) with
    | none => false
    | some (px, _) => decide (px % ecN = r)

end Sys2Proof.Machine
end

