-- ==== Sys2Proof/Machine/Agents.lean ====
section
/-!
DEFINITION. The stock as the unit's own agents reach it (R679): accesses that are made, that wait, or that are turned away, and steps of an
agent that are made whole or not at all. A step that meets a waiting access leaves everything as it was but for the request itself, and is
taken again later (log entry 9).
-/

namespace Sys2Proof.Machine

/-- What a part of an agent's step comes to: a value; an access that waits; or an access that is denied, poisoned or finds its home
unreachable. -/
inductive Got (α : Type) where
  | ok (x : α)
  | held (a : Nat) (op : AccessOp)
  | bad (a : Nat) (op : AccessOp)
  deriving DecidableEq, Repr

/-- Go on from a part of a step that came to a value. -/
def gotThen {α β : Type} (r : Got α × State) (k : α → State → Got β × State) : Got β × State :=
  match r with
  | (.ok x, s) => k x s
  | (.held a op, s) => (.held a op, s)
  | (.bad a op, s) => (.bad a op, s)

/-- An access of the unit's own agent. -/
def State.ownAccess (s : State) (a : Nat) (op : AccessOp) : StkAns × State :=
  s.stkDo { src := s.unit, agent := agentOwn, own := true, op := op, addr := a }

/-- An access as a part of a step. -/
def State.agentDo (s : State) (a : Nat) (op : AccessOp) : Got (List Byte) × State :=
  match s.ownAccess a op with
  | (ans, t) =>
    match ans.status with
    | .ok => (.ok ans.data, t)
    | .wait => (.held a op, s)
    | _ => (.bad a op, s)

/-- Read n bytes. -/
def State.agentGet (s : State) (a n : Nat) : Got (List Byte) × State := s.agentDo a (.read n)

/-- Write bytes. -/
def State.agentPut (s : State) (a : Nat) (bs : List Byte) : Got Unit × State := gotThen (s.agentDo a (.write bs)) fun _ s => (.ok (), s)

/-- Write bytes, and go on without them where the access is turned away, which counts as the stock counts it. -/
def State.agentTry (s : State) (a : Nat) (bs : List Byte) : Got Unit × State :=
  match s.agentPut a bs with
  | (.bad a op, s) => (.ok (), (s.ownAccess a op).2)
  | r => r

/-- The end of a step that began in state s: made whole; or held, with only the request that waits; or dropped where an access is turned
away, which counts as the stock counts it. True where the agent goes on. -/
def State.stepEnd (s : State) (r : Got Unit × State) : Bool × State :=
  match r with
  | (.ok _, t) => (true, t)
  | (.held a op, _) =>
    let x := s.ownAccess a op
    (false, if x.1.status = .wait then x.2 else s)
  | (.bad a op, _) => (true, (s.ownAccess a op).2)

end Sys2Proof.Machine
end

