-- ==== Sys2Proof/Machine/Planes.lean ====
section
/-!
DEFINITION. The calibration table as registration reads it (Table RGS-2) and the image planes of the colour cameras (R405,
R406): their frames follow the frame starts and ends of the receivers, registration writes their lines.
-/

namespace Sys2Proof.Machine

/-! ### Calibration entries (R379) -/

/-- The entry of a slot in a table; all zero where no table was ever loaded. -/
def calEntry (cal : List Byte) (slot : Nat) : List Byte := slice cal (256 * slot) 256

/-- A signed field of an entry. -/
def calInt (e : List Byte) (o n : Nat) : Int := toSigned (8 * n) (leAt e o n)

/-- MODEL. -/
def calModel (e : List Byte) : Nat := byteAt e 0

/-- A bit of FLAGS. -/
def calFlag (e : List Byte) (i : Nat) : Bool := (byteAt e 1).testBit i

/-- Rot of the extrinsic, row i, column j, in Q2.30. -/
def calRot (e : List Byte) (i j : Nat) : Int := calInt e (0x10 + 16 * i + 4 * j) 4

/-- t of the extrinsic, row i, in Q26.6. -/
def calT (e : List Byte) (i : Nat) : Int := calInt e (0x1C + 16 * i) 4

/-! ### Image planes -/

/-- Bits a pixel of a data type takes (Table ING-4). -/
def pixelBits (dt : Nat) : Nat :=
  if dt = 0x2A then 8 else if dt = 0x2B then 10 else if dt = 0x2C then 12 else if dt = 0x2D then 14
  else if dt = 0x24 then 24 else 16

/-- The frames of a plane's ring. -/
def planeFrames (e : List Byte) : Nat := 2 ^ min 3 (max 1 (byteAt e 0x79))

/-- LS: the line length rounded up to a multiple of 64 (R405; log entry 11). -/
def State.planeLine (s : State) (slot : Nat) (e : List Byte) : Nat :=
  let dt := s.getF (ING_CAM_VC.DT (slot / 4) (slot % 4))
  ((leAt e 0x74 2 * pixelBits dt + 7) / 8 + 63) / 64 * 64

/-- The bytes of a frame. -/
def State.planeSize (s : State) (slot : Nat) (e : List Byte) : Nat := 64 + leAt e 0x76 2 * s.planeLine slot e

/-- The stock address of a frame of a plane. -/
def State.planeAddr (s : State) (slot : Nat) (e : List Byte) (pos : Nat) : Nat :=
  leAt e 0xA8 8 + pos * s.planeSize slot e

/-- The table that a frame's epoch took; the one in force where no line of it has been registered. -/
def State.planeCal (s : State) (f : PlaneFrame) : List Byte :=
  match f.regIn.bind s.epochRec with | some e => e.cal | none => s.rgs.cal

/-- The engine keeps a plane for a slot: the grid runs and its entry in the table in force is MODEL 2. -/
def State.planeOn (s : State) (slot : Nat) : Bool :=
  s.bitF RGS_GRID_CFG.GRID_EN && decide (calModel (calEntry s.rgs.cal slot) = 2)

/-- Replace the frames of a plane. -/
def State.setPlane (s : State) (slot : Nat) (fs : List PlaneFrame) : State := s.setRgs { s.rgs with planes := tabSet s.rgs.planes slot fs }

/-- A frame start moves the plane to its next frame slot (R405). -/
def State.planeStart (s : State) (slot num : Nat) : State :=
  if !s.planeOn slot then s
  else
    let fs := tabGet [] s.rgs.planes slot
    let n := planeFrames (calEntry s.rgs.cal slot)
    let pos := match fs.head? with | some f => (f.pos + 1) % n | none => 0
    s.setPlane slot ((({ pos := pos, number := num, startAt := s.dtl.count } : PlaneFrame) :: fs).take n)

/-- A frame end: the frame's header is due (R405). -/
def State.planeEnd (s : State) (slot : Nat) : State :=
  match tabGet [] s.rgs.planes slot with
  | f :: fs => if f.endAt.isNone then s.setPlane slot ({ f with endAt := some s.dtl.count } :: fs) else s
  | [] => s

/-- The frame in which a line was stamped. -/
def PlaneFrame.holds (f : PlaneFrame) (stamp : Tick) : Bool :=
  decide (f.startAt ≤ stamp) && (match f.endAt with | none => true | some e => decide (stamp ≤ e))

/-- Registration writes a line of epoch ep, registered into epoch num, to its place in the frame it was stamped in, as the table of epoch num
has it (R382, R405). A line outside every frame has no place (log entry 11). -/
def State.planePut (s : State) (num : Nat) (cal : List Byte) (slot line : Nat) (stamp : Tick) (pay : List Byte) : Got Unit × State :=
  let e := calEntry cal slot
  let fs := tabGet [] s.rgs.planes slot
  match fs.find? (fun f => f.holds stamp), s.epochAt stamp with
  | some f, some ep =>
    if calModel e ≠ 2 ∨ leAt e 0x76 2 ≤ line then (.ok (), s)
    else
      let ls := s.planeLine slot e
      gotThen (s.agentPut (s.planeAddr slot e f.pos + 64 + line * ls) (pay.take ls)) fun _ s =>
        (.ok (), s.setPlane slot (modFirst (fun g => g.holds stamp) (fun g =>
          { g with stamp := g.stamp <|> some stamp, epoch := if g.stamp.isNone then ep.num else g.epoch
                   regIn := g.regIn <|> some num, lines := (line, pay.length) :: g.lines }) fs))
  | _, _ => (.ok (), s)

/-- The header of a frame (R405). Of a frame with no line the spec gives no stamp and no epoch of a first line, and of every header no
more than the first 20 bytes: the others are those of a free generation (log entry 11). -/
def PlaneFrame.header (f : PlaneFrame) (gen : Nat) : List Byte :=
  let first := match f.stamp with
    | some t => leBytes 8 t ++ leBytes 4 f.number ++ leBytes 4 f.epoch
    | none => fillTo gen 0 8 [] ++ leBytes 4 f.number ++ fillTo gen 12 4 []
  fillTo gen 0 64 (first ++ leBytes 4 f.lines.length)

/-- The header of a plane's oldest frame that has ended and whose lines have all been taken is written (R405); true where none waits. -/
def State.planeHead (s : State) (slot : Nat) : Bool × State :=
  let fs := tabGet [] s.rgs.planes slot
  match fs.reverse.find? (fun f => f.endAt.isSome && !f.headed) with
  | none => (true, s)
  | some f =>
    if s.rgs.work.isSome || s.itemHeld slot f.holds then (false, s)
    else
      s.stepEnd (gotThen (s.bumpFree.agentPut (s.planeAddr slot (calEntry (s.planeCal f) slot) f.pos) (f.header s.free)) fun _ s =>
        (.ok (), s.setPlane slot (fs.map (fun g => if g = f then { g with headed := true } else g))))

/-- The headers of all planes that are due, one of each plane. -/
def State.planeHeads (s : State) : State :=
  if s.bitF RGS_GRID_CFG.GRID_EN then s.rgs.planes.foldl (fun s e => (s.planeHead e.1).2) s else s

end Sys2Proof.Machine
end

