-- ==== Sys2Proof/Machine/Forme.lean ====
section
/-!
DEFINITION. The forme (R383 to R399, R421): bricks and their pool, the directory, versions and guard copies, the dirty lists,
and what a reader sees. Registration reaches directory and bricks in the stock as one of the unit's own agents (R679).
-/

namespace Sys2Proof.Machine

/-! ### The brick pool (R383, R389, R390) -/

/-- No brick: the index that stands for none, which no brick has (Table RGS-4). -/
def noBrick : Nat := 0xFFFFF

/-- The bytes of a new brick (R383). -/
def newBrick : List Byte := (List.replicate 512 [0, 0, 0, 0, 0, 0, 0, 255]).flatten

/-- The stock address of brick b. -/
def State.brickAddr (s : State) (b : Nat) : Nat := (s.reg RGS_POOL_BASE).toNat + 4096 * b

/-- Bricks free in the pool, which holds at most 2^20 (R389). -/
def State.bricksFree (s : State) : Nat := min (s.getF RGS_POOL_CFG.POOL_BRICKS) noBrick - s.rgs.used.length

/-- The k-th number that a rising list leaves out. -/
def nthFree (used : FMap Bool) (k : Nat) : Nat := used.foldl (fun k e => if e.1 ≤ k then k + 1 else k) k

/-- Take a brick from the pool; which one is free (log entry 10). -/
def State.brickAlloc (s : State) : Option Nat × State :=
  if s.bricksFree = 0 then (none, s)
  else
    let f := s.takeFree
    let b := nthFree s.rgs.used (f.1.toNat % s.bricksFree)
    (some b, f.2.setRgs { f.2.rgs with used := tabSet f.2.rgs.used b true })

/-- A brick is freed: it returns to the pool after two further seals (R390). -/
def State.brickFree (s : State) (b : Nat) : State :=
  if b = noBrick then s else s.setRgs { s.rgs with quar := s.rgs.quar ++ [(b, 2)] }

/-- A seal passes: bricks whose two seals have gone by return to the pool (R390). -/
def State.poolSeal (s : State) : State :=
  let q := s.rgs.quar.map (fun e => (e.1, e.2 - 1))
  s.setRgs { s.rgs with quar := q.filter (fun e => decide (0 < e.2))
                        used := (q.filter (fun e => decide (e.2 = 0))).foldl (fun u e => tabDel u e.1) s.rgs.used }

/-- The bytes of a brick with every voxel's AGE moved on (R394). -/
def ageBrick (d : Nat) (bs : List Byte) : List Byte :=
  bs.zipIdx.map (fun p => if p.2 % 8 = 7 then BitVec.ofNat 8 (min 255 (p.1.toNat + d)) else p.1)

/-- The bytes of brick b. -/
def State.brickGet (s : State) (b : Nat) : Got (List Byte) × State := s.agentGet (s.brickAddr b) 4096

/-- Change one voxel of a brick in place. -/
def State.voxApply (s : State) (b off : Nat) (fn : List Byte → List Byte) : Got Unit × State :=
  gotThen (s.agentGet (s.brickAddr b + off) 8) fun v s => s.agentPut (s.brickAddr b + off) (fn v)

/-- A brick's bytes with one voxel changed. -/
def voxPatch (off : Nat) (fn : List Byte → List Byte) (bs : List Byte) : List Byte := patch bs off (fn (slice bs off 8))

/-! ### The directory (R385 to R388) -/

/-- A directory entry (Table RGS-4). -/
structure DirEnt where
  key       : Nat
  valid     : Bool
  tomb      : Bool
  liveLate  : Bool
  priorLate : Bool
  liveE     : Nat
  live      : Nat
  priorE    : Nat
  prior     : Nat
  guardE    : Nat
  guard     : Nat
  deriving DecidableEq, Repr

/-- Read an entry. -/
def DirEnt.ofBytes (b : List Byte) : DirEnt where
  key := leAt b 0 4 % 2 ^ 27
  valid := (leAt b 0 4).testBit 27
  tomb := (leAt b 0 4).testBit 28
  liveLate := (leAt b 0 4).testBit 29
  priorLate := (leAt b 0 4).testBit 30
  liveE := leAt b 4 4
  live := leAt b 8 4 % 2 ^ 20
  priorE := leAt b 12 4
  prior := leAt b 16 4 % 2 ^ 20
  guardE := leAt b 20 4
  guard := leAt b 24 4 % 2 ^ 20

/-- The bytes of an entry. -/
def DirEnt.bytes (e : DirEnt) : List Byte :=
  leBytes 4 (e.key + 2 ^ 27 * e.valid.toNat + 2 ^ 28 * e.tomb.toNat + 2 ^ 29 * e.liveLate.toNat + 2 ^ 30 * e.priorLate.toNat) ++
  leBytes 4 e.liveE ++ leBytes 4 e.live ++ leBytes 4 e.priorE ++ leBytes 4 e.prior ++ leBytes 4 e.guardE ++
  leBytes 4 e.guard ++ [0, 0, 0, 0]

/-- The home bucket of a key (R386). -/
def State.dirHome (s : State) (key : Nat) : Nat :=
  key * 0x9E3779B1 % 2 ^ 32 / 2 ^ (32 - s.getF RGS_GRID_CFG.HASH_LOG2)

/-- The addresses of the entries a lookup of a key reads, in order (R387). -/
def State.dirPath (s : State) (key : Nat) : List Nat :=
  let n := 2 ^ s.getF RGS_GRID_CFG.HASH_LOG2
  (List.range (s.getF RGS_GRID_CFG.PROBE_MAX)).flatMap (fun i =>
    (List.range 4).map (fun j => (s.reg RGS_DIR_BASE).toNat + 128 * ((s.dirHome key + i) % n) + 32 * j))

/-- What a lookup finds: the matching entry, or the place of an insert if there is one. -/
inductive Probe where
  | found (a : Nat) (e : DirEnt)
  | absent (place : Option Nat)
  deriving DecidableEq, Repr

/-- Walk the entries of a lookup (R387). -/
def State.dirWalk (s : State) (key : Nat) : List Nat → Option Nat → Got Probe × State
  | [], place => (.ok (.absent place), s)
  | a :: as, place =>
    match s.agentGet a 32 with
    | (.held a op, s) => (.held a op, s)
    | (.bad a op, s) => (.bad a op, s)
    | (.ok b, s) =>
      let e := DirEnt.ofBytes b
      if e.valid then
        if e.key = key then (.ok (.found a e), s) else s.dirWalk key as place
      else if e.tomb then s.dirWalk key as (place <|> some a)
      else (.ok (.absent (place <|> some a)), s)

/-- Look a key up. -/
def State.dirFind (s : State) (key : Nat) : Got Probe × State := s.dirWalk key (s.dirPath key) none

/-- Write an entry. -/
def State.dirPut (s : State) (a : Nat) (e : DirEnt) : Got Unit × State := s.agentPut a e.bytes

/-! ### Versions (R392 to R396, Table RGS-5) -/

/-- The case of Table RGS-5 an update falls in. -/
inductive VoxCase where
  | fresh | live | copyLive | both | copyPrior
  deriving DecidableEq, Repr

/-- A version that a late update is about to change or free: its brick and its epoch (R396). -/
structure Sealed where
  brick : Nat
  epoch : Nat
  deriving DecidableEq, Repr

/-- An update that can be made: the entry, its case, and the version to keep as guard copy first. -/
structure VoxPlan where
  addr  : Nat
  ent   : DirEnt
  case  : VoxCase
  guard : Option Sealed
  deriving DecidableEq, Repr

/-- The case of an update for epoch f; none where both versions are newer (log entry 10), or where a miss would have to make a
version (R392). -/
def DirEnt.caseOf (e : DirEnt) (f : Nat) (miss : Bool) : Option VoxCase :=
  let d := epDist e.liveE f
  if d = 0 then some .live
  else if d < 0 then (if miss then none else some .copyLive)
  else if e.prior ≠ noBrick ∧ e.priorE = f then some .both
  else if e.prior = noBrick ∨ epDist e.priorE f < 0 then some .copyPrior
  else none

/-- The version that existed at the seal and that a late update for epoch f is about to change or free (R396). -/
def DirEnt.guardOf (e : DirEnt) (f : Nat) (c : VoxCase) (miss : Bool) : Option Sealed :=
  match c with
  | .live => if e.liveLate then none else some ⟨e.live, f⟩
  | .both => if e.priorLate then none else some ⟨e.prior, f⟩
  | .copyPrior => if miss || decide (e.prior = noBrick) then none else some ⟨e.prior, e.priorE⟩
  | _ => none

/-- A late update for an epoch takes a guard copy of a brick: once, and not when the epoch's verdict is published or its deadline has passed,
which would free the copy (R396, R398; log entry 10). -/
def EpochRec.guards (f : EpochRec) (key : Nat) : Bool := f.isSealed && !f.guarded.contains key && !f.published && !f.missed

/-- The dirty list of an epoch has an entry of a brick. -/
def EpochRec.listed (f : EpochRec) (key : Nat) : Bool := f.dirty.contains (key, f.isSealed)

/-- What keeps an update from being made: the count of its drop, if it counts. -/
def State.voxDrop (s : State) (f : Option Fld) : Got (Option VoxPlan) × State :=
  (.ok none, match f with | none => s | some c => s.incSat c)

/-- Whether an update can be made, its drop counted where not (R387, R389, R392, R393, R421). -/
def State.voxPlan (s : State) (f : EpochRec) (key : Nat) (miss : Bool) : Got (Option VoxPlan) × State :=
  let blank : DirEnt := ⟨key, true, false, f.isSealed, false, f.num, noBrick, 0, noBrick, 0, noBrick⟩
  let full := !f.listed key && decide (262144 ≤ f.dirty.length)
  gotThen (s.dirFind key) fun p s =>
    match p with
    | .absent none => s.voxDrop (if miss then none else some RGS_DROP_0.BRICK_MISS)
    | .absent (some a) =>
      if miss then s.voxDrop none
      else if full then s.voxDrop (some RGS_DROP_0.BRICK_LIMIT)
      else if s.bricksFree = 0 then s.voxDrop (some RGS_DROP_0.POOL_EMPTY)
      else (.ok (some ⟨a, blank, .fresh, none⟩), s)
    | .found a e =>
      match e.caseOf f.num miss with
      | none => s.voxDrop none
      | some c =>
        let g := if f.guards key then e.guardOf f.num c miss else none
        let need := (match c with | .copyLive => 1 | .copyPrior => (!miss).toNat | _ => 0) + g.isSome.toNat
        if full then s.voxDrop (some RGS_DROP_0.BRICK_LIMIT)
        else if s.bricksFree < need then s.voxDrop (some RGS_DROP_0.POOL_EMPTY)
        else (.ok (some ⟨a, e, c, g⟩), s)

/-- A brick is copied for an epoch: it counts in COPIES. -/
def State.countCopy (s : State) (num : Nat) : State := s.epochSet num (fun x => { x with copies := x.copies + 1 })

/-- Put bytes into a brick newly taken from the pool. -/
def State.brickNew (s : State) (bs : List Byte) : Got Nat × State :=
  match s.brickAlloc with
  | (none, s) => (.ok noBrick, s)
  | (some b, s) => gotThen (s.agentPut (s.brickAddr b) bs) fun _ s => (.ok b, s)

/-- Keep a version as the entry's guard copy, its ages as they stood at the seal's epoch (R394, R396): the entry, and the bytes of the
version. An older copy that the entry still holds is freed (log entry 10). -/
def State.guardKeep (s : State) (f : EpochRec) (p : VoxPlan) : Got (DirEnt × Option (List Byte)) × State :=
  match p.guard with
  | none => (.ok (p.ent, none), s)
  | some v =>
    gotThen (s.brickGet v.brick) fun bs s =>
      gotThen (s.brickNew (ageBrick (epDist f.num v.epoch).toNat bs)) fun g s =>
        let s := ((s.brickFree p.ent.guard).countCopy f.num).epochSet f.num (fun x => { x with guarded := p.ent.key :: x.guarded })
        (.ok ({ p.ent with guard := g, guardE := f.num }, some bs),
          s.setRgs { s.rgs with guards := (f.num, p.addr) :: s.rgs.guards.filter (fun k => decide (k.2 ≠ p.addr)) })

/-- Append to the dirty list on a brick's first on-time or late update (R421). -/
def State.dirtyAdd (s : State) (f : EpochRec) (key : Nat) : Got Unit × State :=
  match s.epochRec f.num with
  | none => (.ok (), s)
  | some x =>
    if x.listed key then (.ok (), s)
    else
      let a := (s.reg RGS_DIRTY_BASE).toNat + twoMiB * (f.num % 4) + 64 + 4 * x.dirty.length
      gotThen (s.agentPut a (leBytes 4 (key + 2 ^ 27 * x.isSealed.toNat))) fun _ s =>
        (.ok (), s.epochSet f.num (fun x => { x with dirty := (key, x.isSealed) :: x.dirty }))

/-- Change the versions of a brick as Table RGS-5 has them, and the voxel with them; kept holds the bytes of a version that has just gone to
the guard copy (R393, R394). -/
def State.voxCase (s : State) (f : EpochRec) (c : VoxCase) (a : Nat) (e : DirEnt) (kept : Option (List Byte)) (off : Nat) (miss : Bool)
    (fn : List Byte → List Byte) : Got Unit × State :=
  match c with
  | .fresh => gotThen (s.brickNew (voxPatch off fn newBrick)) fun b s => s.dirPut a { e with live := b }
  | .live => gotThen (s.voxApply e.live off fn) fun _ s => s.dirPut a e
  | .copyLive =>
    gotThen (s.brickGet e.live) fun bs s =>
      gotThen (s.brickNew (voxPatch off fn (ageBrick (epDist f.num e.liveE).toNat bs))) fun b s =>
        ((s.countCopy f.num).brickFree e.prior).dirPut a
          { e with priorE := e.liveE, prior := e.live, priorLate := e.liveLate, liveE := f.num, live := b, liveLate := f.isSealed }
  | .both => gotThen (s.voxApply e.prior off fn) fun _ s => gotThen (s.voxApply e.live off fn) fun _ s => s.dirPut a e
  | .copyPrior =>
    if miss then gotThen (s.voxApply e.live off fn) fun _ s => s.dirPut a e
    else
      let old : Got (List Byte) × State :=
        if e.prior = noBrick then (.ok newBrick, s)
        else match kept with
          | some bs => (.ok (ageBrick (epDist f.num e.priorE).toNat bs), s.countCopy f.num)
          | none => gotThen (s.brickGet e.prior) fun bs s => (.ok (ageBrick (epDist f.num e.priorE).toNat bs), s.countCopy f.num)
      gotThen old fun bs s =>
        gotThen (s.brickNew (voxPatch off fn bs)) fun b s =>
          gotThen ((s.brickFree e.prior).voxApply e.live off fn) fun _ s =>
            s.dirPut a { e with priorE := f.num, prior := b, priorLate := f.isSealed }

/-- Make an update: the guard copy, the versions and the voxel, and the dirty list (R393, R394, R396, R421). -/
def State.voxMake (s : State) (f : EpochRec) (p : VoxPlan) (off : Nat) (miss : Bool) (fn : List Byte → List Byte) : Got Unit × State :=
  gotThen (s.guardKeep f p) fun e s =>
    gotThen (s.voxCase f p.case p.addr e.1 e.2 off miss fn) fun _ s =>
      gotThen (s.dirtyAdd f p.ent.key) fun _ s =>
        (.ok (), s.epochSet f.num (fun x => { x with updates := x.updates + 1 }))

/-! ### What a reader sees (R395, R397) -/

/-- What a read for an epoch finds of a brick. -/
inductive BrickSeen where
  | absent | fresh
  | version (b e : Nat) (late guard : Bool)
  deriving DecidableEq, Repr

/-- The version that work on epoch e reads (R395, R397), and whether the read counts in VERSION_MISS. -/
def DirEnt.see (x : DirEnt) (e : Nat) (guard : Bool) : BrickSeen × Bool :=
  let old (v : Nat) : Bool := decide (epDist v e ≤ 0)
  let pass (v : Nat) (late : Bool) : Bool := guard && late && decide (v = e)
  if guard && decide (x.guard ≠ noBrick) && decide (x.guardE = e) then (.version x.guard e false true, false)
  else if old x.liveE && !pass x.liveE x.liveLate then (.version x.live x.liveE x.liveLate false, false)
  else if x.prior = noBrick then (.fresh, false)
  else if old x.priorE then
    if pass x.priorE x.priorLate then (.fresh, false) else (.version x.prior x.priorE x.priorLate false, false)
  else (.version x.prior x.priorE x.priorLate false, true)

/-- Look a brick up for work on an epoch; while GRID_EN empties the directory no brick is found. -/
def State.brickSee (s : State) (key e : Nat) (guard : Bool) : Got BrickSeen × State :=
  if s.rgs.clear.isSome then (.ok .absent, s)
  else
    gotThen (s.dirFind key) fun p s =>
      match p with
      | .absent _ => (.ok .absent, s)
      | .found _ x =>
        let r := x.see e guard
        (.ok r.1, if r.2 then s.incSat RGS_DROP_2.VERSION_MISS else s)

/-! ### Guard copies and the sweep -/

/-- Free the guard copy of one entry (R398). -/
def State.guardDrop (s : State) (k : Nat × Nat) : Got Unit × State :=
  gotThen (s.agentGet k.2 32) fun b s =>
    let e := DirEnt.ofBytes b
    if e.valid && decide (e.guard ≠ noBrick) && decide (e.guardE = k.1) then
      (s.brickFree e.guard).dirPut k.2 { e with guard := noBrick, guardE := 0 }
    else (.ok (), s)

/-- Free the guard copies that are on their way out, as far as no access waits. -/
def State.guardFreeing (s : State) : Nat → State
  | 0 => s
  | n + 1 =>
    match s.rgs.freeing with
    | [] => s
    | k :: ks =>
      match s.stepEnd (s.guardDrop k) with
      | (false, s) => s
      | (true, s) => State.guardFreeing (s.setRgs { s.rgs with freeing := ks }) n

/-- Free the guard copies of an epoch (R398). -/
def State.guardFree (s : State) (num : Nat) : State :=
  let mine := s.rgs.guards.filter (fun k => decide (k.1 = num))
  let fs := s.rgs.freeing ++ mine
  (s.setRgs { s.rgs with guards := s.rgs.guards.filter (fun k => decide (k.1 ≠ num)), freeing := fs }).guardFreeing fs.length

/-- One entry of the sweep at the seal of an epoch (R391). -/
def State.sweepOne (s : State) (num a : Nat) : Got Unit × State :=
  gotThen (s.agentGet a 32) fun b s =>
    let e := DirEnt.ofBytes b
    if e.valid && decide (e.guard = noBrick) && decide ((s.getF RGS_CLOSE_CFG.SWEEP_EPOCHS : Int) ≤ epDist num e.liveE) then
      ((s.brickFree e.live).brickFree e.prior).dirPut a { e with valid := false, tomb := true }
    else (.ok (), s)

/-- The sweep goes on over n entries, as far as no access waits (R391). -/
def State.sweepRun (s : State) : Nat → State
  | 0 => s.setRgs { s.rgs with sweep := none }
  | n + 1 =>
    match s.rgs.sweep with
    | none => s
    | some (num, i) =>
      match s.stepEnd (s.sweepOne num ((s.reg RGS_DIR_BASE).toNat + 32 * i)) with
      | (false, s) => s
      | (true, s) => State.sweepRun (s.setRgs { s.rgs with sweep := some (num, i + 1) }) n

/-- Entries of the directory. -/
def State.dirEntries (s : State) : Nat := 4 * 2 ^ s.getF RGS_GRID_CFG.HASH_LOG2

/-- The sweep under way goes on in the background. -/
def State.sweepOn (s : State) : State :=
  match s.rgs.sweep with
  | none => s
  | some (_, i) => s.sweepRun (s.dirEntries - i)

/-- The sweep at the seal of an epoch (R391). -/
def State.sweepAt (s : State) (num : Nat) : State :=
  if s.getF RGS_CLOSE_CFG.SWEEP_EPOCHS = 0 ∨ ¬ s.bitF RGS_GRID_CFG.GRID_EN then s
  else (s.setRgs { s.rgs with sweep := some (num, 0) }).sweepOn

/-! ### Emptying the grid (R422) -/

/-- Zero a range of stock in pieces of 4 KiB, as far as no access waits; what is left stays to be done. -/
def State.clearRun (s : State) : Nat → State
  | 0 => s.setRgs { s.rgs with clear := none }
  | n + 1 =>
    match s.rgs.clear with
    | none => s
    | some (a, left) =>
      if left = 0 then s.setRgs { s.rgs with clear := none }
      else
        match s.stepEnd (s.agentPut a (List.replicate (min 4096 left) 0)) with
        | (false, s) => s
        | (true, s) => State.clearRun (s.setRgs { s.rgs with clear := some (a + min 4096 left, left - min 4096 left) }) n

/-- The directory that GRID_EN empties: at once where it lies in this unit's flat tier, else piece by piece. -/
def State.clearOn (s : State) : State :=
  match s.rgs.clear with
  | none => s
  | some (a, n) =>
    if decide (stkUnit a = s.unit) && decide (stkTier a = 0) && s.inTier a n && !s.inInit a n && !s.inCheckBits a n && !s.pptForeign none a n then
      ((s.setStk { s.stk with dram := s.stk.dram.erase (stkOff a) n }).cleanse a n).setRgs { s.rgs with clear := none }
    else s.clearRun (n / 4096 + 1)

/-- GRID_EN = 1 empties the directory and the pool (R422); an item in hand goes with them. -/
def State.gridEnable (s : State) : State :=
  let s := s.setF RGS_GRID_CFG.GRID_EN 1
  (s.setRgs { s.rgs with used := [], quar := [], guards := [], freeing := [], sweep := none, work := none
                         clear := some ((s.reg RGS_DIR_BASE).toNat, 128 * 2 ^ s.getF RGS_GRID_CFG.HASH_LOG2) }).clearOn

/-! ### Finalisation (R419, R421) -/

/-- The dirty-list header and the epoch registers at finalisation (R419, R421). -/
def State.formeFinal (s : State) (f : EpochRec) : Got Unit × State :=
  let a := (s.reg RGS_DIRTY_BASE).toNat + twoMiB * (f.num % 4)
  let head := leBytes 4 f.num ++ leBytes 4 f.dirty.length ++ leBytes 4 (f.dirty.countP (·.2)) ++ List.replicate 52 0
  gotThen (if s.bitF RGS_GRID_CFG.GRID_EN then s.agentTry a head else (.ok (), s)) fun _ s =>
    (.ok (), (((s.setF RGS_EPOCH_STAT.LAST_FINAL f.num).setF RGS_EPOCH_STAT.TOUCHED (f.dirty.map (·.1)).eraseDups.length).setF
      RGS_UPD_STAT.UPDATES (min f.updates (2 ^ 32 - 1))).setF RGS_UPD_STAT.COPIES (min f.copies (2 ^ 32 - 1)))

end Sys2Proof.Machine
end

