-- ==== Sys2Proof/Machine/Ptp.lean ====
section
/-!
DEFINITION. Precision time on the Ethernet ports (R279 to R311): recognition, stamps, one-step insertion, the
end-to-end transparent clock and the roles. Frames are byte lists from the destination address on, without their
FCS; what leaves a port carries the FCS.
-/

namespace Sys2Proof.Machine

/-- The transports of R280. -/
inductive PtpTransport where
  | l2 | ipv4 | ipv6
  deriving DecidableEq, Repr

/-- The transport's number in the item record (R288). -/
def PtpTransport.code : PtpTransport → Nat
  | .l2 => 0 | .ipv4 => 1 | .ipv6 => 2

/-- Where a PTP message lies in a frame: its transport, the offset of its header, and of the UDP header. -/
structure PtpLoc where
  tr  : PtpTransport
  hdr : Nat
  udp : Nat
  deriving DecidableEq, Repr

/-- The offset of a frame's Ethertype: zero or one 802.1Q tag (R280). -/
def etherOff (f : List Byte) : Nat := if beAt f 12 2 = 0x8100 then 16 else 12

/-- A UDP header at u leads to a PTP message: an event message on destination port 319, a general one on 320 (R280). The types below 8
are the event messages. -/
def ptpPortOk (f : List Byte) (u : Nat) : Bool :=
  decide (beAt f (u + 2) 2 = if byteAt f (u + 8) % 16 < 8 then 319 else 320)

/-- Recognise a PTP message (R280). -/
def ptpFind (f : List Byte) : Option PtpLoc :=
  let e := etherOff f
  let ty := beAt f e 2
  let p := e + 2
  if ty = 0x88F7 then some ⟨.l2, p, 0⟩
  else if ty = 0x0800 then
    let u := p + 4 * (byteAt f p % 16)
    if byteAt f (p + 9) = 17 ∧ ptpPortOk f u then some ⟨.ipv4, u + 8, u⟩ else none
  else if ty = 0x86DD then
    let u := p + 40
    if byteAt f (p + 6) = 17 ∧ ptpPortOk f u then some ⟨.ipv6, u + 8, u⟩ else none
  else none

/-- Recognise a PTP message on the transports a port has enabled (R280, R311). -/
def State.ptpFindOn (s : State) (p : Nat) (f : List Byte) : Option PtpLoc :=
  match ptpFind f with
  | none => none
  | some l =>
    if (match l.tr with
        | .l2 => s.bitF (PTP_PORT_CFG.L2_EN p)
        | .ipv4 => s.bitF (PTP_PORT_CFG.IPV4_EN p)
        | .ipv6 => s.bitF (PTP_PORT_CFG.IPV6_EN p)) then some l else none

/-- The messageType: the low nibble of header byte 0. -/
def ptpType (f : List Byte) (l : PtpLoc) : Nat := byteAt f l.hdr % 16

/-- The twoStepFlag: bit 1 of header byte 6. -/
def ptpTwoStep (f : List Byte) (l : PtpLoc) : Bool := byteAt f (l.hdr + 6) / 2 % 2 = 1

/-- The domainNumber: header byte 4. -/
def ptpDomain (f : List Byte) (l : PtpLoc) : Nat := byteAt f (l.hdr + 4)

/-- The sequenceId: header bytes 30 and 31. -/
def ptpSeq (f : List Byte) (l : PtpLoc) : Nat := beAt f (l.hdr + 30) 2

/-- The residence key of a message (R298). -/
def ptpKey (f : List Byte) (l : PtpLoc) : TcKey := ⟨ptpDomain f l, beAt f (l.hdr + 20) 10, ptpSeq f l⟩

/-- Add to the correctionField, header bytes 8 to 15. -/
def ptpCorrect (f : List Byte) (l : PtpLoc) (d : Int) : List Byte :=
  patch f (l.hdr + 8) (beBytes 8 (ofSigned 64 ((beAt f (l.hdr + 8) 8 : Int) + d)))

/-- Set the UDP checksum of a message over UDP/IPv4 to 0 (R292, R300). -/
def ptpNoSum (f : List Byte) (l : PtpLoc) : List Byte :=
  if l.tr = .ipv4 then patch f (l.udp + 6) (beBytes 2 0) else f

/-- A frame with its FCS behind it (R293). -/
def withFcs (f : List Byte) : List Byte := f ++ leBytes 4 (crc32 f)

/-- What the PTP engine of port p keeps. -/
def State.ptpPort (s : State) (p : EthPort) : PtpPort := s.ptp[p]

/-- Replace what the PTP engine of port p keeps. -/
def State.setPtp (s : State) (p : EthPort) (x : PtpPort) : State := { s with ptp := s.ptp.set p x }

/-- A frame leaves port p. -/
def State.ethSend (s : State) (p : EthPort) (wire : List Byte) : State := s.setPtp p { s.ptpPort p with out := wire }

/-- A latency in ps as 2^-16 ticks of 2 ns (R285). -/
def latTicks (ps : Nat) : Int := roundQ ((ps : Int) * 65536) 2000

/-- The MDI time of a departure at count c and sub-tick sub (2^-16 tick), in 2^-16 ns, truncated (R223, R283, R285, R291). -/
def State.departTime (s : State) (p : EthPort) (c sub : Nat) : Int :=
  ((s.dtl.timeAt c * 65536 + (s.rate : Int) * sub) * 1000 + (s.getF (PTP_LAT.TX_LAT_PS p) : Int) * 2 ^ 48) / (1000 * 2 ^ 32)

/-- Seconds and nanoseconds of a time in 2^-16 ns, as originTimestamp writes them. -/
def originStamp (T : Int) : List Byte :=
  beBytes 6 (ofSigned 48 (T / (1000000000 * 65536))) ++ beBytes 4 ((T / 65536) % 1000000000).toNat

/-- One-step insertion into a Sync (R291, R292). -/
def insertOneStep (f : List Byte) (l : PtpLoc) (T : Int) : List Byte :=
  ptpNoSum (ptpCorrect (patch f (l.hdr + 34) (originStamp T)) l (T % 65536)) l

/-- Queue a transmit stamp for the Foreman (R290). -/
def State.txStamp (s : State) (p : EthPort) (mtype seq c sub : Nat) : State :=
  let x := s.ptpPort p
  if 16 ≤ x.txFifo.length then s.incSat (PTP_ERR.TX_STAMP_LOST p)
  else
    let v : Int := (c : Int) * 65536 + sub + latTicks (s.getF (PTP_LAT.TX_LAT_PS p))
    s.setPtp p { x with txFifo := x.txFifo ++ [{ mtype := mtype, seq := seq, stamp := v }] }

/-- Whether a message is addressed to the engine (the text under R289). IP transports go by the IP destination (log entry 4). -/
def State.ptpMine (s : State) (p : EthPort) (f : List Byte) (l : PtpLoc) : Bool :=
  let own := beAt f 0 6 = s.getF (ING_ETH_MAC.MAC p)
  let group := match l.tr with
    | .l2 => decide (beAt f 0 6 = 0x011B19000000)
    | .ipv4 => decide (beAt f (etherOff f + 2 + 16) 4 = 0xE0000181)
    | .ipv6 => decide (beAt f (etherOff f + 2 + 24) 16 = 0xFF0E0000000000000000000000000181)
  (decide own || group) && decide (ptpDomain f l = s.getF (PTP_PORT_CFG.DOMAIN p))

/-- The galley of port p's PTP messages. -/
def ptpGalley (p : EthPort) : GalleyId := ⟨20 + p.val, by omega⟩

/-- The record before a delivered message (R288): the receive stamp referred to the MDI, its 16-bit sub-tick, port and
transport; a message that is not stamped carries no VALID stamp (log entry 4). -/
def State.ptpRecord (s : State) (p : EthPort) (l : PtpLoc) (stamped : Bool) (c sub : Nat) : List Byte :=
  let v := ((c : Int) * 65536 + sub - latTicks (s.getF (PTP_LAT.RX_LAT_PS p))).toNat
  let w := if stamped then (stampWord (v / 65536) (v % 65536 / 8192) false false).toNat else 0
  leBytes 8 w ++ leBytes 2 (if stamped then v % 65536 else 0) ++ leBytes 1 p.val ++ leBytes 1 l.tr.code ++ leBytes 4 0

/-- A frame with a PTP message is received (R287 to R289); what the galley drops counts there too (R182 to R184). -/
def State.ptpReceive (s : State) (p : EthPort) (sub : Nat) (f : List Byte) : State :=
  if !s.bitF (PTP_PORT_CFG.PORT_EN p) then s
  else
    match s.ptpFindOn p f with
    | none => s
    | some l =>
      let stamped := decide (ptpType f l ≤ 1)
      let s := if stamped then s.incWrap (PTP_STAT.RX_STAMPED p) else s
      if !s.ptpMine p f l then s
      else
        let item := wordsOf (s.ptpRecord p l stamped s.dtl.count sub ++ slice f l.hdr (beAt f (l.hdr + 2) 2))
        let g := ptpGalley p
        let s :=
          if (s.gal g).state = .normal && !s.galRoom g then s.incSat (PTP_ERR.DROPPED p)
          else if s.getF (GAL_CFG.MAX_ITEM g) < item.length then s.incSat (PTP_ERR.TOO_LONG p)
          else s
        s.galPushItem g item

/-- Whether a port may not send this message now: a MASTER port while the Dateline is UNSET (R310). -/
def State.ptpMuted (s : State) (p : EthPort) (mtype : Nat) : Bool :=
  decide (s.getF (PTP_PORT_CFG.ROLE p) = 2) && decide (s.getF DTL_STATE.STATE = stUnset) &&
    [0x0, 0x9, 0xB].contains mtype

/-- The engine's own frame departs from port p (R287, R290 to R294, R310). -/
def State.ptpTransmit (s : State) (p : EthPort) (sub : Nat) (f : List Byte) : State :=
  match if s.bitF (PTP_PORT_CFG.PORT_EN p) then s.ptpFindOn p f else none with
  | none => s.ethSend p (withFcs f)
  | some l =>
    let m := ptpType f l
    if s.ptpMuted p m || m = 2 || m = 3 then s
    else if m = 0 && !ptpTwoStep f l then
      let s := s.incWrap (PTP_STAT.TX_STAMPED p)
      if l.tr = .ipv6 then ((s.txStamp p m (ptpSeq f l) s.dtl.count sub).incSat (PTP_ERR.ONESTEP_REFUSED p)).ethSend p (withFcs f)
      else s.ethSend p (withFcs (insertOneStep f l (s.departTime p s.dtl.count sub)))
    else if m ≤ 1 then
      ((s.incWrap (PTP_STAT.TX_STAMPED p)).txStamp p m (ptpSeq f l) s.dtl.count sub).ethSend p (withFcs f)
    else s.ethSend p (withFcs f)

/-! ### The transparent clock -/

/-- The other port of a pair. -/
def ethPartner (p : EthPort) : EthPort := ⟨if p.val % 2 = 0 then p.val + 1 else p.val - 1, by split <;> omega⟩

/-- The residence of a frame in 2^-16 ns, rounded to nearest (R296, R297). -/
def State.residence (s : State) (p : EthPort) (f : Forward) : Int :=
  let ticks : Int := ((s.dtl.count : Int) - f.inCount) * 65536 + f.outSub - f.inSub
  let ps := s.getF (PTP_LAT.TX_LAT_PS (ethPartner p)) + s.getF (PTP_LAT.RX_LAT_PS p)
  nearQ (ticks * s.rate * 1000 + (ps : Int) * 2 ^ 48) (1000 * 2 ^ 32)

/-- Count a corrected message and its residence (R311). -/
def State.tcCount (s : State) (q : Nat) (res : Int) : State :=
  (s.incWrap (PTP_PAIR_STAT.CORRECTED q)).maxF (PTP_PAIR_RES.MAX_RES_NS q) (res / 65536).toNat

/-- Correct a frame that crosses the pair: the frame that leaves and the state (R296, R298 to R300). -/
def State.tcCorrect (s : State) (p : EthPort) (f : Forward) : List Byte × State :=
  let q := p.val / 2
  match s.ptpFindOn p f.frame with
  | none => (f.frame, s)
  | some l =>
    let m := ptpType f.frame l
    if l.tr = .ipv6 ∧ m < 8 then (f.frame, s.incSat (PTP_PAIR_STAT.UNCORRECTED q))
    else if m ≤ 1 then
        let r := s.residence p f
        let fixed := ptpNoSum (ptpCorrect f.frame l r) l
        if m = 0 && ptpTwoStep f.frame l then
          let x := s.ptpPort p
          if 64 ≤ x.resid.length then (f.frame, s.incSat (PTP_PAIR_STAT.UNCORRECTED q))
          else (fixed, (s.setPtp p { x with resid := x.resid ++ [(ptpKey f.frame l, r)] }).tcCount q r)
        else (fixed, s.tcCount q r)
    else if m = 8 then
      let x := s.ptpPort p
      match x.resid.find? (fun e => decide (e.1 = ptpKey f.frame l)) with
      | none => (f.frame, s.incSat (PTP_PAIR_STAT.UNCORRECTED q))
      | some e => (ptpCorrect f.frame l e.2, (s.setPtp p { x with resid := x.resid.erase e }).incWrap (PTP_PAIR_STAT.CORRECTED q))
    else (f.frame, s)

/-- What each direction of a pair buffers, in bytes (R302). -/
def pairBuffer : Nat := 65536

/-- Frames leave a direction of a pair in the order they came, so what a frame that came at count c found in the buffer is the frames
before it that had not left. -/
def PtpPort.held (x : PtpPort) (c : Tick) : List (Tick × Nat) := x.buffer.filter (fun e => decide (c < e.1))

/-- The frame found room behind those in the buffer, its FCS with it (R302). -/
def State.tcRoom (s : State) (p : EthPort) (f : Forward) : Bool :=
  decide ((((s.ptpPort p).held f.inCount).map (·.2)).sum + f.frame.length + 4 ≤ pairBuffer)

/-- The frame is in the buffer until it leaves now. -/
def State.tcBuffer (s : State) (p : EthPort) (f : Forward) : State :=
  let x := s.ptpPort p
  s.setPtp p { x with buffer := x.held f.inCount ++ [(s.dtl.count, f.frame.length + 4)] }

/-- A frame that arrived at port p crosses to the other port of the pair (R295, R296, R301, R302). -/
def State.tcForward (s : State) (p : EthPort) (f : Forward) : State :=
  let q := p.val / 2
  if !s.bitF (PTP_PAIR_CFG.TC_EN q) || decide (beAt f.frame 0 6 = s.getF (ING_ETH_MAC.MAC p)) then s
  else if !s.tcRoom p f || !f.linkUp then s.incSat (PTP_PAIR_STAT.FWD_DROP q)
  else
    let s := s.tcBuffer p f
    if !f.fcsOk then
      (s.incSat (PTP_PAIR_STAT.FWD_DROP q)).ethSend (ethPartner p)
        (f.frame ++ leBytes 4 (0xFFFFFFFF - crc32 f.frame))
    else
      let r := s.tcCorrect p f
      r.2.ethSend (ethPartner p) (withFcs r.1)

/-! ### Roles -/

/-- A configuration that R304 and R305 permit. -/
def State.ptpCfgOk (s : State) (p : EthPort) : Bool :=
  let role := s.getF (PTP_PORT_CFG.ROLE p)
  if role = 1 then decide (p.val % 2 = 0)
  else if role = 2 then !s.bitF (PTP_PAIR_CFG.TC_EN (p.val / 2))
  else true

/-- Set PORT_EN; the port's galley leaves DISABLED (R199, R306). -/
def State.ptpEnable (s : State) (p : EthPort) : State :=
  if s.ptpCfgOk p then
    let s := ((s.setF (PTP_PORT_CFG.PORT_EN p) 1).setF (PTP_ERR.CFG_ERR p) 0).galEnable (ptpGalley p)
    s.setPtp p { s.ptpPort p with syncAt := none, annAt := none }
  else s.setF (PTP_ERR.CFG_ERR p) 1

/-- A write of PTP_PORT_CFG_p (R199, R306, R307). -/
def State.writePtpCfg (s : State) (p : EthPort) (v : U64) : State :=
  let en := v.getLsbD 0
  if s.bitF (PTP_PORT_CFG.PORT_EN p) then (if en then s else (s.setF (PTP_PORT_CFG.PORT_EN p) 0).galDisable (ptpGalley p))
  else
    let s := (s.writeKind (PTP_PORT_CFG p) .rw v).setF (PTP_PORT_CFG.PORT_EN p) 0
    if en then s.ptpEnable p else s

/-- Whether a MASTER port sends its own messages now (R308, R310). -/
def State.ptpMaster (s : State) (p : EthPort) : Bool :=
  s.bitF (PTP_PORT_CFG.PORT_EN p) && decide (s.getF (PTP_PORT_CFG.ROLE p) = 2) && decide (s.getF DTL_STATE.STATE ≠ stUnset)

/-- The frame of an own message over layer 2 (the header of IEEE 1588, log entry 4). -/
def State.ptpFrame (s : State) (p : EthPort) (mtype seq logInt : Nat) (body : List Byte) : List Byte :=
  beBytes 6 0x011B19000000 ++ beBytes 6 (s.getF (ING_ETH_MAC.MAC p)) ++ beBytes 2 0x88F7 ++
  [BitVec.ofNat 8 mtype, 2#8] ++ beBytes 2 (34 + body.length) ++ [BitVec.ofNat 8 (s.getF (PTP_PORT_CFG.DOMAIN p)), 0#8] ++
  beBytes 2 0 ++ beBytes 8 0 ++ beBytes 4 0 ++ beBytes 10 (Config.portIdentity p.val) ++ beBytes 2 seq ++
  [if mtype = 0 then 0#8 else 5#8, BitVec.ofNat 8 (ofSigned 8 (toSigned 4 logInt))] ++ body

/-- The body of an Announce (R309). -/
def State.announceBody (s : State) (p : EthPort) : List Byte :=
  let cls := if s.getF DTL_STATE.STATE = stLocked then s.getF (PTP_PORT_CFG.CLASS_LOCKED p) else s.getF (PTP_PORT_CFG.CLASS_OTHER p)
  originStamp (s.time / 65536) ++ [Config.announceByte 10, Config.announceByte 11, 0#8, Config.announceByte 13] ++
  [BitVec.ofNat 8 cls, Config.announceByte 15, Config.announceByte 16, Config.announceByte 17, Config.announceByte 18] ++
  beBytes 8 (Config.portIdentity p.val / 65536) ++ beBytes 2 0 ++ [Config.announceByte 29]

/-- Counts of the Dateline in 2^log seconds, log a signed field of 4 bits from −7 on (R308). -/
def logTicks (log : Nat) : Nat := 500000000 * 2 ^ (toSigned 4 log + 7).toNat / 2 ^ 7

/-- The next message of its kind is due: none has left since the port was enabled, or its interval has passed (R308). -/
def State.masterDue (s : State) (last : Option Tick) (log : Nat) : Bool :=
  match last with
  | none => true
  | some c => decide (c + logTicks log ≤ s.dtl.count)

/-- A Sync of a MASTER port departs, 2^SYNC_LOG s after the last (R308). -/
def State.masterSync (s : State) (p : EthPort) : State :=
  let x := s.ptpPort p
  if !s.ptpMaster p || !s.masterDue x.syncAt (s.getF (PTP_PORT_CFG.SYNC_LOG p)) then s
  else
    let f := s.ptpFrame p 0 x.syncSeq (s.getF (PTP_PORT_CFG.SYNC_LOG p)) (List.replicate 10 0)
    (s.setPtp p { x with syncSeq := (x.syncSeq + 1) % 65536, syncAt := some s.dtl.count }).ptpTransmit p 0 f

/-- An Announce of a MASTER port departs, 2^ANN_LOG s after the last (R308, R309). -/
def State.masterAnnounce (s : State) (p : EthPort) : State :=
  let x := s.ptpPort p
  if !s.ptpMaster p || !s.masterDue x.annAt (s.getF (PTP_PORT_CFG.ANN_LOG p)) then s
  else
    let f := s.ptpFrame p 0xB x.annSeq (s.getF (PTP_PORT_CFG.ANN_LOG p)) (s.announceBody p)
    (s.setPtp p { x with annSeq := (x.annSeq + 1) % 65536, annAt := some s.dtl.count }).ptpTransmit p 0 f

/-- The Foreman takes the oldest transmit stamp of port p (R290). -/
def State.txTake (s : State) (p : EthPort) : State :=
  let x := s.ptpPort p
  s.setPtp p { x with txFifo := x.txFifo.drop 1 }

/-! ### Meanings -/

/-- PTP_RX_MESSAGE (R287). -/
def execPtpRxMessage (t : Tick) (p : EthPort) (sub : Nat) (frame : List Byte) (s : State) : Result :=
  s.live ((s.at t).ptpReceive p (sub % 65536) frame)

/-- PTP_TX_MESSAGE (R287). -/
def execPtpTxMessage (t : Tick) (p : EthPort) (sub : Nat) (frame : List Byte) (s : State) : Result :=
  s.live ((s.at t).ptpTransmit p (sub % 65536) frame)

/-- TC_FORWARD (R296). -/
def execTcForward (t : Tick) (p : EthPort) (f : Forward) (s : State) : Result := s.live ((s.at t).tcForward p f)

/-- TC_ENTRY_EXPIRE (R298). -/
def execTcEntryExpire (p : EthPort) (key : TcKey) (s : State) : Result :=
  let x := s.ptpPort p
  s.live (match x.resid.find? (fun e => decide (e.1 = key)) with
    | none => s
    | some e => (s.setPtp p { x with resid := x.resid.erase e }).incSat (PTP_PAIR_STAT.UNCORRECTED (p.val / 2)))

/-- MASTER_SYNC_TX (R308). -/
def execMasterSyncTx (t : Tick) (p : EthPort) (s : State) : Result := s.live ((s.at t).masterSync p)

/-- MASTER_ANNOUNCE_TX (R308, R309). -/
def execMasterAnnounceTx (t : Tick) (p : EthPort) (s : State) : Result := s.live ((s.at t).masterAnnounce p)

/-- PTP_PORT_ENABLE (R306). -/
def execPtpPortEnable (p : EthPort) (s : State) : Result :=
  s.host (if s.bitF (PTP_PORT_CFG.PORT_EN p) then s else s.ptpEnable p)

end Sys2Proof.Machine
end

