-- ==== Sys2Proof/Machine/Ingress.lean ====
section
/-!
DEFINITION. Sensor ingress (R312 to R361): camera receivers, scanner templates, encoders, IMU scripts, pattern
injection, MDIO, and the counting of delivered, dropped and missing units by epoch.
-/

namespace Sys2Proof.Machine

/-! ### Slots -/

/-- Whether a sensor slot is enabled: its port, and its channel or template (R361). -/
def State.slotOn (s : State) (slot : Nat) : Bool :=
  if slot < 32 then s.bitF (ING_CAM_CFG.EN (slot / 4)) && s.bitF (ING_CAM_VC.EN (slot / 4) (slot % 4))
  else if slot < 48 then s.bitF (ING_ETH_CFG.EN ((slot - 32) / 4)) && (s.reg (ING_TPL (slot - 32) 0)).getLsbD 0
  else if slot < 52 then s.bitF (ING_ENC_CFG.EN (slot - 48))
  else if slot < 54 then s.bitF (ING_IMU_CFG.EN (slot - 52))
  else false

/-- The mask of the enabled slots. -/
def State.slotMask (s : State) : Nat := (List.range 54).foldl (fun m i => if s.slotOn i then m + 2 ^ i else m) 0

/-- A slot enabled while an epoch is open counts for it (log entry 7). -/
def State.slotsRefresh (s : State) : State :=
  match s.epochs with
  | [] => s
  | e :: es => if e.closeAt.isNone then { s with epochs := { e with enabled := e.enabled ||| s.slotMask } :: es } else s

/-- What an epoch takes from the ingress registers at its opening (R361). -/
def State.covOpen (s : State) : State :=
  match s.epochs with
  | [] => s
  | e :: es =>
    { s with epochs := { e with enabled := s.slotMask
                                sensors := (List.range 60).map (fun i =>
                                  (s.getF (ING_SENSOR.COV_MIN i), s.getF (ING_SENSOR.SILENT_N i))) } :: es }

/-! ### Items -/

/-- Word 1 of an item header (Table ING-2). -/
def itemHeader (slot kind : Nat) (suspect pattern first : Bool) (length seq index : Nat) : U64 :=
  BitVec.ofNat 64 (slot % 64 + 64 * kind + 256 * suspect.toNat + 512 * pattern.toNat + 1024 * first.toNat +
    2 ^ 16 * (length % 65536) + 2 ^ 32 * (seq % 65536) + 2 ^ 48 * (index % 65536))

/-- An item of a port: two header words and its payload (R316). -/
def State.item (s : State) (stamp : Tick) (slot kind : Nat) (first : Bool) (length seq index : Nat) (pay : List U64) :
    List U64 :=
  BitVec.ofNat 64 stamp :: itemHeader slot kind (s.suspectAt stamp) false first length seq index :: pay

/-- Galley g takes an item of a port: it has the room of R183, or discards every word (R196, R199). -/
def State.galAdmits (s : State) (g : GalleyId) : Bool := decide ((s.gal g).state ≠ .normal) || s.galRoom g

/-- Galley g stores what it takes: it is neither in discard-to-end nor DISABLED. -/
def State.galStores (s : State) (g : GalleyId) : Bool := decide ((s.gal g).state = .normal)

/-! ### Test patterns (R345 to R350) -/

/-- The words of a pattern item (R345); its stamp is the count at which the injection starts (log entry 7). -/
def State.patWords (s : State) (slot kind code seq n : Nat) : List U64 :=
  let st := s.dtl.count
  BitVec.ofNat 64 st :: itemHeader slot kind (s.suspectAt st) true false n 0 0 ::
    (List.range n).map (fun i => BitVec.ofNat 64 (2 ^ 56 * code + 2 ^ 32 * (seq % 2 ^ 24) + 2 ^ 16 * i + (65535 - i)))

/-- Whether a galley lacks the room a pattern needs (R347). -/
def State.patNoRoom (s : State) (g : GalleyId) (n : Nat) : Bool :=
  decide (galDepth g - (s.gal g).words.length < n + 2) || decide (s.getF (GAL_CFG.MAX_ITEM g) < n + 2)

/-- The camera receiver of port p. -/
def State.cam (s : State) (p : CamPort) : Cam := s.ing.cams[p]

/-- Replace the camera receiver of port p. -/
def State.setCam (s : State) (p : CamPort) (x : Cam) : State := s.setIng { s.ing with cams := s.ing.cams.set p x }

/-- The galley of a camera port. -/
def camGalley (p : CamPort) : GalleyId := ⟨p.val, by omega⟩

/-- Words of an item whose room R347 has assured, all but the last without an end mark. -/
def State.galPutWords (s : State) (g : GalleyId) (n : Nat) (ws : List U64) : State := ws.foldl (fun s w => s.galPutWord g n w false) s

/-- Start a pattern item on a camera path (R346, R347). One word is accepted a SENS cycle (log entry 7). -/
def State.camInject (s : State) (p : CamPort) (slot : Nat) : State :=
  let n := s.getF ING_PAT_CFG.PAT_WORDS
  let x := s.cam p
  if x.inj.isSome then s
  else if s.patNoRoom (camGalley p) n then s.incSat (ING_CAM_PAT.PAT_SKIP p)
  else
    let ws := s.patWords slot 0 p x.patSeq n
    (s.galPutWords (camGalley p) (n + 2) ws.dropLast).setCam p
      { x with inj := some { last := ws.getLastD 0, doneAt := s.dtl.count + ((n + 2) * 8 + 9) / 10 }, patSeq := x.patSeq + 1 }

/-- A pattern item whose end word has been accepted by now is in the galley; one that a flush has cut is not sent. -/
def State.camSettle (s : State) (p : CamPort) : State :=
  let x := s.cam p
  match x.inj with
  | none => s
  | some j =>
    if j.doneAt ≤ s.dtl.count then
      let t := (s.setCam p { x with inj := none }).galPutWord (camGalley p) 0 j.last true
      if s.galStores (camGalley p) then t.incSat (ING_CAM_PAT.PAT_SENT p) else t
    else s

/-- The same on every camera path. -/
def State.camsSettle (s : State) : State := (List.finRange 8).foldl State.camSettle s

/-- A packet header cuts a pattern item that is not complete: the item vanishes (R182, R348). -/
def State.camCutPattern (s : State) (p : CamPort) : State :=
  let x := s.cam p
  match x.inj with
  | none => s
  | some _ => ((s.setCam p { x with inj := none }).galAbandon (camGalley p)).incSat (ING_CAM_PAT.PAT_CUT p)

/-! ### Cameras (R318 to R325) -/

/-- The sensor slot of a camera channel (Table ING-1). -/
def camSlot (p : CamPort) (vc : Nat) : Nat := 4 * p.val + vc

/-- The payload limit of a long packet (R321). -/
def State.camLimit (s : State) (p : CamPort) : Nat := min 16368 ((s.getF (GAL_CFG.MAX_ITEM (camGalley p)) - 2) * 8)

/-- Change a virtual channel of a receiver. -/
def State.setVc (s : State) (p : CamPort) (vc : Fin 4) (v : CamVc) : State :=
  let x := s.cam p
  s.setCam p { x with vcs := x.vcs.set vc v }

/-- A unit of a camera channel is dropped, in the frame and in the epoch. -/
def State.camDrop (s : State) (p : CamPort) (vc : Fin 4) (stamp : Tick) : State :=
  let v := (s.cam p).vcs[vc]
  (s.setVc p vc { v with dropped := v.dropped + 1 }).covX (camSlot p vc) stamp

/-- A long packet that fails its CRC: its item is abandoned (Table ING-5 CRC_DROP). -/
def State.camLose (s : State) (p : CamPort) (c : CamCur) : State :=
  ((s.galAbandon (camGalley p)).incSat (ING_CAM_ERR.CRC_DROP p)).camDrop p (Fin.ofNat 4 c.vc) c.stamp

/-- A long packet whose end never came before what follows it has lost its CRC (log entry 7). -/
def State.camUnfinished (s : State) (p : CamPort) : State :=
  let x := s.cam p
  match x.cur with
  | none => s
  | some c => (s.setCam p { x with cur := none }).camLose p c

/-- A long packet's header, checked in the order of R322. A packet that is admitted begins its item with its stamp (R183); a corrected
header counts once the packet is stored, since a packet counts in one class only (R322, Table ING-5). -/
def State.camHeader (s : State) (p : CamPort) (ecc : Ecc) (vc dt wc : Nat) : State :=
  let x := s.cam p
  if !s.bitF (ING_CAM_CFG.EN p) || x.skip then s
  else if ecc = .double then (s.setCam p { x with skip := true }).incSat (ING_CAM_ERR.ECC_DROP p)
  else if h : vc < 4 then
    if !s.bitF (ING_CAM_VC.EN p vc) then s.incSat (ING_CAM_ERR2.VC_OFF p)
    else if dt ≠ s.getF (ING_CAM_VC.DT p vc) then s.incSat (ING_CAM_ERR2.DT_SKIP p)
    else
      let c : Fin 4 := ⟨vc, h⟩
      let v := x.vcs[c]
      let s := s.setVc p c { v with index := v.index + 1 }
      if s.camLimit p < wc then (s.incSat (ING_CAM_ERR2.LONG p)).camDrop p c s.dtl.count
      else if !s.galAdmits (camGalley p) then (s.incSat (ING_CAM_ERR2.FULL p)).camDrop p c s.dtl.count
      else
        let s := s.galPushPart (camGalley p) [BitVec.ofNat 64 s.dtl.count]
        s.setCam p { s.cam p with cur := some { stamp := s.dtl.count, vc := vc, wc := wc, idx := v.index
                                                seq := if v.isOpen then v.number else 0
                                                first := v.isOpen && decide (v.index = 0)
                                                fixed := decide (ecc = .single) } }
  else s.incSat (ING_CAM_ERR2.VC_OFF p)

/-- The end of a long packet: it is stored whole when its CRC holds over as many bytes as its header named, else its item is abandoned
(R314, R320, R323). One that a flush has cut meanwhile is a dropped unit (R351). -/
def State.camEnd (s : State) (p : CamPort) (pay : List Byte) (crcOk : Bool) : State :=
  let x := s.cam p
  match x.cur with
  | none => s
  | some c =>
    let s := s.setCam p { x with cur := none }
    let vc : Fin 4 := Fin.ofNat 4 c.vc
    let g := camGalley p
    if crcOk && decide (pay.length = c.wc) then
      let kept := s.galStores g
      let s := s.galPushItem g ((s.item c.stamp (camSlot p c.vc) 0 c.first pay.length c.seq c.idx (wordsOf pay)).drop 1)
      let s := if c.fixed then s.incSat (ING_CAM_ERR.ECC_FIXED p) else s
      if kept then
        let v := (s.cam p).vcs[vc]
        s.setVc p vc { v with delivered := v.delivered + 1 }
      else s.camDrop p vc c.stamp
    else s.camLose p c

/-- Close the open frame of a channel: its missing lines become gap in the epoch of the present stamp (R324). -/
def State.frameClose (s : State) (p : CamPort) (vc : Fin 4) : State :=
  let s := s.planeEnd (camSlot p vc)
  let v := (s.cam p).vcs[vc]
  let lines := s.getF (ING_CAM_VC.LINES p vc)
  let s := s.setVc p vc { v with isOpen := false, index := 0, delivered := 0, dropped := 0 }
  s.covG (camSlot p vc) s.dtl.count (lines - v.delivered - v.dropped)

/-- Frame numbers missing between two nonzero numbers, which run from 1 to 0xFFFF (R325). -/
def framesMissing (prev num : Nat) : Nat := (num + 0xFFFF - prev - 1) % 0xFFFF

/-- A frame start (R323 to R325). -/
def State.frameStart (s : State) (p : CamPort) (vc : Fin 4) (num : Nat) : State :=
  let s := if ((s.cam p).vcs[vc]).isOpen then (s.incSat (ING_CAM_ERR2.SYNC_ERR p)).frameClose p vc else s
  let v := (s.cam p).vcs[vc]
  let miss := if num = 0 ∨ v.prev = 0 then 0 else framesMissing v.prev num
  let s := s.setVc p vc { v with isOpen := true, number := num, prev := if num = 0 then v.prev else num
                                 index := 0, delivered := 0, dropped := 0 }
  let s := s.planeStart (camSlot p vc) num
  if miss = 0 then s
  else
    let slot := camSlot p vc
    let s := s.incSat (ING_CAM_ERR2.FRAME_GAP p)
    let s := s.covAdd slot s.dtl.count (fun c => { c with frameGap := true })
    s.covG slot s.dtl.count (miss * s.getF (ING_CAM_VC.LINES p vc))

/-- A frame end (R323, R324, R346). -/
def State.frameEnd (s : State) (p : CamPort) (vc : Fin 4) : State :=
  if ((s.cam p).vcs[vc]).isOpen then
    let s := s.frameClose p vc
    if s.bitF (ING_CAM_VC.PAT_EN p vc) then s.camInject p (camSlot p vc) else s
  else s.incSat (ING_CAM_ERR2.SYNC_ERR p)

/-- Whether a short packet of a channel is taken: the port and the channel are on, and the burst is not discarded. -/
def State.camHears (s : State) (p : CamPort) : Bool :=
  s.bitF (ING_CAM_CFG.EN p) && !(s.cam p).skip

/-- A short packet's header, too, cuts a pattern item and shows that a long packet has lost its end. -/
def State.camShort (s : State) (p : CamPort) : State :=
  if s.bitF (ING_CAM_CFG.EN p) then (s.camCutPattern p).camUnfinished p else s

/-! ### Scanner packets (R326 to R336) -/

/-- A word of template t. -/
def State.tplWord (s : State) (t k : Nat) : Nat := (s.reg (ING_TPL t k)).toNat

/-- The field descriptor of a kind in template t (Table ING-7); the first one where several name the kind. -/
def State.tplField (s : State) (t kind : Nat) : Option Nat :=
  ((List.range 8).map (fun k => s.tplWord t (8 + k))).find? (fun d => decide (d % 16 = kind))

/-- A byte of a payload; a field past its end reads a free value (log entry 7). -/
def payByte (pay : List Byte) (o : Nat) : Byte := (pay[o]?).getD (Config.pastEnd o)

/-- n payload bytes from an offset. -/
def payBytes (pay : List Byte) (o n : Nat) : List Byte := (List.range n).map (fun i => payByte pay (o + i))

/-- The raw value of a field descriptor at a byte offset of the payload (Table ING-7). -/
def fieldRaw (pay : List Byte) (d o : Nat) : Int :=
  let n := bitsOf d 9 8 + 1
  let bs := payBytes pay o n
  let v := if d.testBit 6 then beNat bs else leNat bs
  if d.testBit 5 then toSigned (8 * n) v else v

/-- The conversion of a raw value (R331). -/
def fieldConv (d : Nat) (raw : Int) : Int :=
  let sh := bitsOf d 28 24
  let h : Int := if sh = 0 then 0 else 2 ^ (sh - 1)
  (raw * toSigned 24 (bitsOf d 55 32) + h) / 2 ^ sh + toSigned 8 (bitsOf d 63 56)

/-- The value of a field for a record whose first byte lies at base (Table ING-7: HDR counts from the payload). -/
def fieldValue (pay : List Byte) (d base : Nat) : Int :=
  fieldConv d (fieldRaw pay d ((if d.testBit 4 then 0 else base) + bitsOf d 23 12))

/-- A converted value clamped to its output field, and whether it was clamped (R331). -/
def fieldClamp (kind : Nat) (v : Int) : Int × Nat :=
  let lim : Int × Int := if kind = 1 then (0, 2 ^ 20 - 1) else if kind = 3 then (-(2 ^ 15), 2 ^ 15 - 1)
    else if kind = 5 then (-(2 ^ 31), 2 ^ 31 - 1) else (0, 255)
  if kind = 2 then (v % 65536, 0)
  else if v < lim.1 then (lim.1, 1) else if lim.2 < v then (lim.2, 1) else (v, 0)

/-- One field of a record: 0 without a descriptor (R333). -/
def State.tplOut (s : State) (t kind : Nat) (pay : List Byte) (base : Nat) : Int × Nat :=
  match s.tplField t kind with
  | none => (0, 0)
  | some d => fieldClamp kind (fieldValue pay d base)

/-- A point: its two words, its azimuth and the clamps it took (R333). -/
structure ScanPoint where
  wordA  : U64
  wordB  : U64
  az     : Nat
  clamps : Nat
  deriving DecidableEq, Repr

/-- The point of record i, none where its VALID field converts to 0 (R332, R333). -/
def State.tplPoint (s : State) (t : Nat) (pay : List Byte) (i : Nat) : Option ScanPoint :=
  let w2 := s.tplWord t 2
  let base := bitsOf w2 15 0 + i * bitsOf w2 31 16
  let skip := match s.tplField t 8 with
    | none => false
    | some d => decide (fieldValue pay d base = 0)
  if skip then none
  else
    let r := s.tplOut t 1 pay base
    let a := s.tplOut t 2 pay base
    let e := s.tplOut t 3 pay base
    let n := s.tplOut t 4 pay base
    let c := s.tplOut t 6 pay base
    let f := match s.tplField t 5 with
      | none => (fit32 ((bitsOf (s.tplWord t 3) 63 32 * i : Nat) : Int), 0)
      | some _ => s.tplOut t 5 pay base
    some { wordA := BitVec.ofNat 64 (r.1.toNat + 2 ^ 20 * a.1.toNat + 2 ^ 36 * ofSigned 16 e.1 + 2 ^ 52 * n.1.toNat)
           wordB := BitVec.ofNat 64 (ofSigned 32 f.1 + 2 ^ 32 * c.1.toNat)
           az := a.1.toNat
           clamps := r.2 + a.2 + e.2 + n.2 + c.2 + f.2 }

/-- Where the payload of a template's transport starts in a frame, if the frame is of that transport and key (R328, Table
ING-6). -/
def State.tplPayload (s : State) (t : Nat) (f : List Byte) : Option (List Byte) :=
  let w0 := s.tplWord t 0
  let key := bitsOf w0 31 16
  let src := s.tplWord t 1
  let e := etherOff f
  let p := e + 2
  let tr := bitsOf w0 2 1
  let srcOn := w0.testBit 3
  if tr = 0 then
    if beAt f e 2 = key ∧ (srcOn = false ∨ beAt f 6 6 = src % 2 ^ 48) then some (f.drop p) else none
  else if tr = 1 then
    let u := p + 4 * (byteAt f p % 16)
    if beAt f e 2 = 0x0800 ∧ byteAt f (p + 9) = 17 ∧ beAt f (u + 2) 2 = key ∧
        (srcOn = false ∨ beAt f (p + 12) 4 = src % 2 ^ 32) then some ((f.drop (u + 8)).take (beAt f (u + 4) 2 - 8)) else none
  else if tr = 2 then
    let u := p + 40
    if beAt f e 2 = 0x86DD ∧ byteAt f (p + 6) = 17 ∧ beAt f (u + 2) 2 = key then
      some ((f.drop (u + 8)).take (beAt f (u + 4) 2 - 8)) else none
  else none

/-- The first template of port p that matches a frame, with the payload (R328, R332). -/
def State.tplMatch (s : State) (p : EthPort) (f : List Byte) : Option (Fin 16 × List Byte) :=
  (List.finRange 16).findSome? (fun (t : Fin 16) =>
    if t.val / 4 = p.val ∧ (s.tplWord t 0).testBit 0 ∧ (s.tplField t 1).isSome ∧ bitsOf (s.tplWord t 2) 41 32 ≠ 0
    then (s.tplPayload t f).map (fun pay => (t, pay)) else none)

/-- The records a packet carries (Table ING-6: COUNT, or the COUNT field limited to COUNT). -/
def State.tplCount (s : State) (t : Nat) (pay : List Byte) : Nat :=
  let w2 := s.tplWord t 2
  let n := bitsOf w2 41 32
  if w2.testBit 48 then
    match s.tplField t 7 with
    | none => 0
    | some d => min n (fieldValue pay d (bitsOf w2 15 0)).toNat
  else n

/-- The count at which time reaches T on one segment, near a count. -/
def Seg.countFor (g : Seg) (T : Int) (lo hi : Tick) : Tick := Dtl.countFor { segs := [{ g with start := 0 }] } T 64 lo hi

/-- The payload time of a packet in 2^-32 ns (Table ING-6 TIME_SRC 1 and 2). -/
def State.tplTime (s : State) (t : Nat) (pay : List Byte) : Int :=
  let w3 := s.tplWord t 3
  let o := bitsOf w3 31 16
  let num (bs : List Byte) : Nat := if w3.testBit 2 then beNat bs else leNat bs
  let ns : Nat := if bitsOf w3 1 0 = 1 then num (payBytes pay o 8)
    else num (payBytes pay o 4) * 1000000000 + num (payBytes pay (o + 4) 4)
  (ns : Int) * unitNs

/-- The stamp of a packet, or none where its payload time lies more than 1 s from its arrival (R334, R335). The receive stamp is referred to
the MDI (R285). -/
def State.tplStamp (s : State) (t : Nat) (pay : List Byte) : Option Tick :=
  let n := s.dtl.count
  let src := bitsOf (s.tplWord t 3) 1 0
  if src = 1 ∨ src = 2 then
    let T := s.tplTime t pay
    if unitSec < (T - s.time).natAbs then none
    else some (s.dtl.seg.countFor T (n - 600000000) (n + 600000000))
  else
    let lat := roundQ ((s.rate : Int) * latTicks (s.getF (PTP_LAT.RX_LAT_PS (t / 4)))) 65536
    some (s.dtl.countFor (s.time - lat - (bitsOf (s.tplWord t 4) 31 0 : Int) * unitNs) 64 0 n)

/-- The sequence number of a packet and its modulus; the modulus is 1 without a sequence field (Table ING-6). -/
def State.tplSeq (s : State) (t : Nat) (pay : List Byte) : Nat × Nat :=
  let w5 := s.tplWord t 5
  let w := bitsOf w5 17 16
  if w = 0 then (0, 1)
  else
    let n := 2 ^ (w - 1)
    let bs := payBytes pay (bitsOf w5 15 0) n
    (if w5.testBit 18 then beNat bs else leNat bs, 2 ^ (8 * n))

/-- What template t keeps. -/
def State.tpl (s : State) (t : Fin 16) : Tpl := s.ing.tpls[t]

/-- Replace what template t keeps. -/
def State.setTpl (s : State) (t : Fin 16) (x : Tpl) : State := s.setIng { s.ing with tpls := s.ing.tpls.set t x }

/-- A packet of template t is dropped (R351). -/
def State.tplDrop (s : State) (t : Fin 16) (stamp : Tick) : State :=
  let x := s.tpl t
  (s.setTpl t { x with drops := x.drops + 1 }).covX (32 + t.val) stamp

/-- Inject a pattern behind a packet that ends a revolution (R346, R347). -/
def State.ethInject (s : State) (p : EthPort) (slot : Nat) (g : GalleyId) : State :=
  let n := s.getF ING_PAT_CFG.PAT_WORDS
  if s.patNoRoom g n then s.incSat (ING_ETH_ERR2.PAT_SKIP p)
  else
    let q := s.ing.ethPat[p]
    let ws := s.patWords slot 1 (8 + p.val) q n
    ((s.setIng { s.ing with ethPat := s.ing.ethPat.set p (q + 1) }).galPutWords g (n + 2) ws.dropLast).galPutWord g (n + 2) (ws.getLastD 0) true

/-- The galley of a scanner port. -/
def ethGalley (p : EthPort) : GalleyId := ⟨16 + p.val, by omega⟩

/-- A matched packet becomes an item (R330 to R336, R351). -/
def State.tplTake (s : State) (p : EthPort) (t : Fin 16) (pay : List Byte) : State :=
  match s.tplStamp t pay with
  | none => (s.incSat (ING_ETH_ERR.TIME_ERR p)).tplDrop t s.dtl.count
  | some stamp =>
    let pts := (List.range (s.tplCount t pay)).filterMap (s.tplPoint t pay)
    let s := s.incSat (ING_ETH_ERR2.CLAMPED p) (pts.map (·.clamps)).sum
    let q := s.tplSeq t pay
    let x := s.tpl t
    let ends := match pts.head?, x.lastAz with
      | some h, some z => decide (h.az + 32768 < z)
      | _, _ => false
    let x := { x with rev := if ends then x.rev + 1 else x.rev
                      lastAz := match pts.getLast? with | some l => some l.az | none => x.lastAz }
    let s := s.setTpl t x
    let g := ethGalley p
    let slot := 32 + t.val
    let ws := s.item stamp slot 1 ends pts.length q.1 x.rev (pts.flatMap (fun a => [a.wordA, a.wordB]))
    let pat := ends && (s.tplWord t 0).testBit 4
    let s :=
      if s.getF (GAL_CFG.MAX_ITEM g) < ws.length then (s.incSat (ING_ETH_ERR2.LONG p)).tplDrop t stamp
      else if !s.galAdmits g then (s.incSat (ING_ETH_ERR2.FULL p)).tplDrop t stamp
      else if !s.galStores g then (s.galPushItem g ws).tplDrop t stamp
      else
        let s := s.galPushItem g ws
        if q.2 = 1 then s
        else
          let gap := match x.lastSeq with
            | none => 0
            | some l => (q.1 + q.2 - l - 1) % q.2 - x.drops
          (s.setTpl t { x with lastSeq := some q.1, drops := 0 }).covG slot stamp gap
    if pat then s.ethInject p slot g else s

/-- Whether a frame is delivered locally: always outside transparent-clock mode, else when it is addressed to the port or to a
group (R295, R328; log entry 7). -/
def State.ethLocal (s : State) (p : EthPort) (f : List Byte) : Bool :=
  !s.bitF (PTP_PAIR_CFG.TC_EN (p.val / 2)) || decide (beAt f 0 6 = s.getF (ING_ETH_MAC.MAC p)) || decide (byteAt f 0 % 2 = 1)

/-- Whether the PTP engine takes a frame before template matching (R327). -/
def State.ethIsPtp (s : State) (p : EthPort) (f : List Byte) : Bool :=
  s.bitF (PTP_PORT_CFG.PORT_EN p) &&
    (match s.ptpFindOn p f with
     | none => false
     | some l => s.ptpMine p f l)

/-- A frame arrives at a scanner port (R326 to R329). -/
def State.ethReceive (s : State) (p : EthPort) (f : List Byte) (fcsOk : Bool) : State :=
  if !s.bitF (ING_ETH_CFG.EN p) then s
  else if f.length + 4 < 64 ∨ 9216 < f.length + 4 then s.incSat (ING_ETH_ERR.BAD_LEN p)
  else if !fcsOk then
    match s.tplMatch p f with
    | none => s.incSat (ING_ETH_ERR.FCS_DROP p)
    | some (t, _) => s.tplDrop t s.dtl.count
  else if s.ethIsPtp p f || !s.ethLocal p f then s
  else
    match s.tplMatch p f with
    | none => s.incSat (ING_ETH_ERR.NO_MATCH p)
    | some (t, pay) => s.tplTake p t pay

/-! ### Encoders (R337 to R340) -/

/-- The encoder port n. -/
def State.enc (s : State) (n : Fin 4) : Enc := s.ing.encs[n]

/-- Replace encoder port n; its registers show the position and the latched position. -/
def State.setEnc (s : State) (n : Fin 4) (x : Enc) : State :=
  ((s.setIng { s.ing with encs := s.ing.encs.set n x }).setF (ING_ENC_POS.POS n) x.pos.toNat).setF (ING_ENC_ZPOS.ZPOS n) x.zpos.toNat

/-- The place of a state of A and B in the cycle A leads: 00, 10, 11, 01. -/
def quadPhase (a b : Bool) : Nat :=
  match a, b with
  | false, false => 0 | true, false => 1 | true, true => 2 | false, true => 3

/-- A filtered change of A and B (R337, R338). A disabled port follows the levels and counts nothing. -/
def State.encEdge (s : State) (n : Fin 4) (a b : Bool) : State :=
  let x := s.enc n
  if !s.bitF (ING_ENC_CFG.EN n) then s.setEnc n { x with a := a, b := b }
  else
    let d := (quadPhase a b + 4 - quadPhase x.a x.b) % 4
    if d = 0 then s
    else if d = 2 then (s.setEnc n { x with a := a, b := b, illegal := true }).incSat (ING_ENC_ERR.ILLEGAL n)
    else
      let up := (decide (d = 1) == Config.encALeadsUp n.val) != s.bitF (ING_ENC_CFG.DIR n)
      let pos := if up then x.pos + 1 else x.pos - 1
      s.setEnc n { x with a := a, b := b, pos := pos, posEdge := pos, edges := x.edges + 1, lastUp := up, stamp := s.dtl.count }

/-- The galley of an encoder port. -/
def encGalley (n : Fin 4) : GalleyId := ⟨8 + n.val, by omega⟩

/-- A sensor's item goes to its galley; where that has no room it counts in FULL, and where it is not stored it is a dropped unit (R183,
R351). -/
def State.unitPush (s : State) (g : GalleyId) (ws : List U64) (slot : Nat) (stamp : Tick) (full : Fld) : State :=
  if !s.galAdmits g || decide (s.getF (GAL_CFG.MAX_ITEM g) < ws.length) then (s.incSat full).covX slot stamp
  else if !s.galStores g then (s.galPushItem g ws).covX slot stamp
  else s.galPushItem g ws

/-- An encoder port emits an item (R340); a NO_EDGE item repeats the stamp of the last counted edge, and is judged by it (R351). -/
def State.encItem (s : State) (n : Fin 4) : State :=
  let x := s.enc n
  let dir := x.lastUp == Config.encUpBit n.val
  let w2 := x.posEdge.toNat + 2 ^ 32 * min x.edges 65535 + 2 ^ 48 * x.zSeen.toNat + 2 ^ 49 * dir.toNat +
    2 ^ 50 * x.illegal.toNat + 2 ^ 51 * (decide (x.edges = 0)).toNat
  let ws := s.item x.stamp (48 + n.val) 2 false 0 0 0 [BitVec.ofNat 64 w2, BitVec.ofNat 64 x.zpos.toNat]
  let s := s.setEnc n { x with edges := 0, zSeen := false, illegal := false }
  s.unitPush (encGalley n) ws (48 + n.val) x.stamp (ING_ENC_ERR.FULL n)

/-- A filtered rising edge of Z (R339). -/
def State.encZ (s : State) (n : Fin 4) : State :=
  let x := s.enc n
  if !s.bitF (ING_ENC_CFG.EN n) || (s.bitF (ING_ENC_CFG.Z_GATE n) && !(x.a && x.b)) then s
  else (s.setEnc n { x with zpos := x.pos, zSeen := true, pos := if s.bitF (ING_ENC_CFG.Z_RESET n) then 0 else x.pos }).encItem n

/-! ### IMUs (R341 to R344) -/

/-- IMU controller i. -/
def State.imu (s : State) (i : Fin 2) : Imu := s.ing.imus[i]

/-- Replace IMU controller i. -/
def State.setImu (s : State) (i : Fin 2) (x : Imu) : State := s.setIng { s.ing with imus := s.ing.imus.set i x }

/-- What n steps of a script do from step k on, up to END; a step with another OP does nothing, and lengths beyond their ranges are taken as
the limit (R342; log entry 7). -/
def State.imuScript (s : State) (i : Fin 2) : Nat → Nat → List SpiAct
  | 0, _ => []
  | n + 1, k =>
    let w := (s.reg (ING_IMU_SCRIPT i k)).toNat
    match w % 256 with
    | 0 => []
    | 1 => .xfer (leBytes (min 4 (bitsOf w 11 8)) (w / 2 ^ 32)) (min 64 (bitsOf w 22 16)) :: State.imuScript s i n (k + 1)
    | 2 => .high (w / 2 ^ 32) :: State.imuScript s i n (k + 1)
    | _ => State.imuScript s i n (k + 1)

/-- The bytes that a step clocks in. -/
def spiGot : SpiAct → Nat
  | .xfer _ n => n
  | .high _ => 0

/-- The script begins with a transfer, which asserts IMUn_CS_n. -/
def spiAsserts : List SpiAct → Bool
  | .xfer _ _ :: _ => true
  | _ => false

/-- A script starts (R341, R342). -/
def State.imuStart (s : State) (i : Fin 2) : State :=
  let as := s.imuScript i 16 0
  (s.setImu i { stamp := s.dtl.count, acts := as, csLow := spiAsserts as }).setF (ING_IMU_STAT.BUSY i) 1

/-- A data-ready edge (R341, R344). -/
def State.imuDrdy (s : State) (i : Fin 2) (rise : Bool) : State :=
  if !s.bitF (ING_IMU_CFG.EN i) || s.bitF (ING_IMU_CFG.TRIG i) || (rise == s.bitF (ING_IMU_CFG.DRDY_FALL i)) then s
  else if s.bitF (ING_IMU_STAT.BUSY i) then (s.incSat (ING_IMU_STAT.OVERRUN i)).covX (52 + i.val) s.dtl.count
  else s.imuStart i

/-- The period of a script elapses (R341). -/
def State.imuPeriod (s : State) (i : Fin 2) : State :=
  if !s.bitF (ING_IMU_CFG.EN i) || !s.bitF (ING_IMU_CFG.TRIG i) || s.bitF (ING_IMU_STAT.BUSY i) then s else s.imuStart i

/-- The galley of an IMU. -/
def imuGalley (i : Fin 2) : GalleyId := ⟨12 + i.val, by omega⟩

/-- A script ends with the bytes it clocked in, and releases IMUn_CS_n (R342, R343). -/
def State.imuEnd (s : State) (i : Fin 2) (miso : List Byte) : State :=
  if !s.bitF (ING_IMU_STAT.BUSY i) then s
  else
    let x := s.imu i
    let n := (x.acts.map spiGot).sum
    let s := (s.setImu i { x with csLow := false }).setF (ING_IMU_STAT.BUSY i) 0
    let s := if 240 < n then s.incSat (ING_IMU_STAT.LONG i) else s
    s.unitPush (imuGalley i) (s.item x.stamp (52 + i.val) 3 false n 0 0 (wordsOf (payBytes miso 0 (min n 240)))) (52 + i.val) x.stamp
      (ING_IMU_STAT.FULL i)

/-! ### Ports on and off (R361) -/

/-- The enable field of a port. -/
def ingEn : IngPort → Fld
  | .cam p => ING_CAM_CFG.EN p
  | .enc n => ING_ENC_CFG.EN n
  | .imu i => ING_IMU_CFG.EN i
  | .eth p => ING_ETH_CFG.EN p

/-- The galley of a port. -/
def ingGalley : IngPort → GalleyId
  | .cam p => camGalley p
  | .enc n => encGalley n
  | .imu i => imuGalley i
  | .eth p => ethGalley p

/-- What a port was receiving when it was switched off: a packet in progress counts as dropped, in its galley and for its sensor; a running
script ends without its item (R188, R351). -/
def State.ingCut (s : State) : IngPort → State
  | .cam p =>
    let x := s.cam p
    let s' := s.setCam p { x with cur := none, skip := false, inj := none, vcs := Vector.replicate 4 {} }
    let s' := if x.cur.isSome || x.inj.isSome then s'.galAbandon (camGalley p) else s'
    match x.cur with
    | none => s'
    | some c => s'.covX (camSlot p c.vc) c.stamp
  | .imu i =>
    if s.bitF (ING_IMU_STAT.BUSY i) then
      ((s.setImu i { s.imu i with csLow := false }).setF (ING_IMU_STAT.BUSY i) 0).covX (52 + i.val) (s.imu i).stamp
    else s
  | .enc _ => s
  | .eth _ => s

/-- Switch a port on: its galley is flushed and leaves DISABLED (R199, R361). -/
def State.ingEnable (s : State) (p : IngPort) : State :=
  if s.bitF (ingEn p) then s
  else
    let g := ingGalley p
    let s := (s.setF (ingEn p) 1).galFlush g
    (s.galEnable g).slotsRefresh

/-- Switch a port off: its galley is flushed and DISABLED (R193 to R199, R361). -/
def State.ingDisable (s : State) (p : IngPort) : State :=
  if s.bitF (ingEn p) then ((s.ingCut p).setF (ingEn p) 0).galDisable (ingGalley p) else s

/-! ### MDIO -/

/-- A write of ING_MDIO stores its fields; with OP 0, 1 or 3, and no frame under way, it starts a Clause 45 frame (R14, R361). -/
def State.mdioStart (s : State) (op : Nat) (v : U64) : State :=
  let s := s.writeKind ING_MDIO .rw v
  if s.bitF ING_MDIO.BUSY || decide (op = 2) then s
  else
    let s := s.setIng { s.ing with mdio := some { op := op, prtad := s.getF ING_MDIO.PRTAD, devad := s.getF ING_MDIO.DEVAD
                                                  data := s.getF ING_MDIO.DATA } }
    s.setF ING_MDIO.BUSY 1

/-- The frame ends; a read brings its data in. -/
def State.mdioDone (s : State) (data : U16) : State :=
  if !s.bitF ING_MDIO.BUSY then s
  else
    let s := s.setF ING_MDIO.BUSY 0
    match s.ing.mdio with
    | some m => if m.op = 3 then s.setF ING_MDIO.DATA data.toNat else s
    | none => s

/-! ### Final coverage (R352 to R358) -/

/-- Coverage and flags of one slot at an epoch's end; sus tells whether some of its units lie in a warning window (R352, R353, Table
ING-8). -/
def EpochRec.slotFinal (e : EpochRec) (silent : Nat) (sus : Bool) (i : Nat) : Nat × Nat :=
  if e.enabled.testBit i then
    let c := tabGet {} e.cov i
    let th := (e.sensors[i]?).getD (0, 0)
    let due := c.d + c.x + c.g
    let base := if due = 0 then 10000 else 10000 * c.d / due
    let isSilent := decide (th.2 ≠ 0) && decide (th.2 ≤ silent)
    let v := if isSilent then 0 else base
    (v, 1 + 2 * (decide (due = 0)).toNat + 4 * isSilent.toNat + 8 * sus.toNat +
        16 * (decide (v < th.1)).toNat + 32 * c.frameGap.toNat)
  else (0, 0)

/-- The count of silent epochs of a slot once epoch e ends (R353). -/
def State.silentNext (s : State) (e : EpochRec) (i : Nat) : Nat :=
  if (tabGet {} e.cov i).d = 0 then tabGet 0 s.ing.silent i + 1 else 0

/-- Finalise the coverage of epoch num (R352 to R355). The count of a slot's silent epochs starts afresh in an epoch that has the slot
disabled (log entry 7). -/
def State.covFinal (s : State) (num : Nat) : State :=
  match s.epochRec num with
  | none => s
  | some e =>
    let slots := (List.range 60).map (fun i => e.slotFinal (s.silentNext e i) (s.covSuspect (tabGet {} e.cov i)) i)
    let on := (List.range 60).filter (fun i => e.enabled.testBit i)
    let low := on.foldl (fun (b : Nat × Nat) i =>
      let c := ((slots[i]?).getD (0, 0)).1
      if c < b.1 then (c, i) else b) (0xFFFF, 0xFF)
    let below := on.foldl (fun m i => if (((slots[i]?).getD (0, 0)).2).testBit 4 then m + 2 ^ i else m) 0
    let sil := (List.range 60).foldl (fun m i => FMap.set (fun _ => 0) m i (if e.enabled.testBit i then s.silentNext e i else 0)) s.ing.silent
    let s := s.setIng { s.ing with silent := sil }
    let s := s.epochSet num (fun e => { e with final := some { slots := slots, lowest := low.1, lowestSlot := low.2, below := below } })
    if below = 0 then s else s.raise .coverageLow

/-- The 1024-byte coverage record of an epoch (Table ING-8). -/
def EpochRec.record (e : EpochRec) : List Byte :=
  let f := e.final.getD {}
  leBytes 4 e.num ++ leBytes 2 f.lowest ++ leBytes 1 f.lowestSlot ++ leBytes 1 1 ++ leBytes 8 e.openAt ++
    leBytes 8 (e.closeAt.getD 0) ++ leBytes 8 f.below ++ leBytes 8 e.enabled ++ List.replicate 24 0 ++
    (List.range 60).flatMap (fun i =>
      let c := tabGet {} e.cov i
      let v := (f.slots[i]?).getD (0, 0)
      if e.enabled.testBit i then leBytes 2 v.1 ++ leBytes 2 v.2 ++ leBytes 4 c.d ++ leBytes 4 c.x ++ leBytes 4 c.g
      else List.replicate 16 0)

/-! ### Meanings -/

/-- The consumer of galley g takes a word, with its flags (Table GAL-1, R178, R179): the gutter that empties it, the Foreman, the press,
which keeps the flags of the word, or a read by the host. An empty galley stalls its consumer. -/
def State.galConsume (s : State) (g : GalleyId) : State :=
  match galCrossing g with
  | some x => s.gutterTransfer x (.galley g) .clean
  | none =>
    if g = 49 then s.galHostRead .full
    else
      match s.galPop g with
      | (none, _) => s
      | (some w, s) =>
        if g = 48 then s.setMkr { s.mkr with inbox := s.mkr.inbox ++ [{ word := w, galley := some g }] }
        else if h : 32 ≤ g.val ∧ g.val < 48 then
          let n : Fin 16 := ⟨g.val - 32, by omega⟩
          { s with presses := s.presses.set n { s.presses[n] with popEnd := w.isEnd, popAbort := w.isAbort } }
        else s

/-- GALLEY_POP (R176, R179): ecc is what the check of the word finds, as an error in its stored bits has it. -/
def execGalleyPop (g : GalleyId) (ecc : Ecc) (s : State) : Result :=
  s.live ((s.camsSettle.galStrike g (eccUpset ecc)).galConsume g)

/-- CSI2_LONG_HEADER (R322). -/
def execCsi2LongHeader (t : Tick) (p : CamPort) (ecc : Ecc) (vc dt wc : Nat) (s : State) : Result :=
  s.live (
    let s := (s.at t).camSettle p
    ((if s.bitF (ING_CAM_CFG.EN p) then (s.camCutPattern p).camUnfinished p else s).camHeader p ecc vc dt wc))

/-- CSI2_PACKET_END (R314, R323). -/
def execCsi2PacketEnd (t : Tick) (p : CamPort) (payload : List Byte) (crcOk : Bool) (s : State) : Result :=
  s.live (((s.at t).camSettle p).camEnd p payload crcOk)

/-- CSI2_SOT_ERR (R323): the burst is discarded. -/
def execCsi2SotErr (p : CamPort) (s : State) : Result :=
  s.live (
    if s.bitF (ING_CAM_CFG.EN p) then
      let s := s.camUnfinished p
      (s.setCam p { s.cam p with skip := true }).incSat (ING_CAM_ERR.SOT_ERR p)
    else s)

/-- HIGH_SPEED_TRANSMISSION_END (R323): the next burst is received again. -/
def execHighSpeedTransmissionEnd (p : CamPort) (s : State) : Result :=
  s.live (
    let s := s.camUnfinished p
    s.setCam p { s.cam p with skip := false })

/-- CSI2_FRAME_START (R323, R325). -/
def execCsi2FrameStart (t : Tick) (p : CamPort) (vc : Nat) (frame : U16) (s : State) : Result :=
  s.live (
    let s := ((s.at t).camSettle p).camShort p
    (if !s.camHears p then s
      else if h : vc < 4 then
        if s.bitF (ING_CAM_VC.EN p vc) then s.frameStart p ⟨vc, h⟩ frame.toNat
        else s.incSat (ING_CAM_ERR2.VC_OFF p)
      else s.incSat (ING_CAM_ERR2.VC_OFF p)).planeHeads)

/-- CSI2_FRAME_END (R324, R346). -/
def execCsi2FrameEnd (t : Tick) (p : CamPort) (vc : Nat) (frame : U16) (s : State) : Result :=
  s.live (
    let _ := frame
    let s := ((s.at t).camSettle p).camShort p
    (if !s.camHears p then s
      else if h : vc < 4 then
        if s.bitF (ING_CAM_VC.EN p vc) then s.frameEnd p ⟨vc, h⟩
        else s.incSat (ING_CAM_ERR2.VC_OFF p)
      else s.incSat (ING_CAM_ERR2.VC_OFF p)).planeHeads)

/-- ETH_FRAME_RX (R328). -/
def execEthFrameRx (t : Tick) (p : EthPort) (frame : List Byte) (fcsOk : Bool) (s : State) : Result :=
  s.live ((s.at t).ethReceive p frame fcsOk)

/-- ENC_EDGE (R337). -/
def execEncEdge (t : Tick) (n : Fin 4) (a b : Bool) (s : State) : Result := s.live ((s.at t).encEdge n a b)

/-- ENC_Z_EDGE (R339). -/
def execEncZEdge (t : Tick) (n : Fin 4) (s : State) : Result := s.live ((s.at t).encZ n)

/-- ENC_PERIOD_ITEM (R340). -/
def execEncPeriodItem (n : Fin 4) (s : State) : Result :=
  s.live (if s.bitF (ING_ENC_CFG.EN n) then s.encItem n else s)

/-- IMU_DRDY_EDGE (R341, R344). -/
def execImuDrdyEdge (t : Tick) (i : Fin 2) (rise : Bool) (s : State) : Result := s.live ((s.at t).imuDrdy i rise)

/-- IMU_PERIOD (R341). -/
def execImuPeriod (t : Tick) (i : Fin 2) (s : State) : Result := s.live ((s.at t).imuPeriod i)

/-- IMU_SCRIPT_END (R343). -/
def execImuScriptEnd (i : Fin 2) (miso : List Byte) (s : State) : Result := s.live (s.imuEnd i miso)

/-- ING_PORT_ENABLE (R361). -/
def execIngPortEnable (p : IngPort) (s : State) : Result := s.host (s.ingEnable p)

/-- ING_PORT_DISABLE (R361). -/
def execIngPortDisable (p : IngPort) (s : State) : Result := s.host (s.ingDisable p)

/-- MDIO_ADDRESS (R361). -/
def execMdioAddress (v : U64) (s : State) : Result := s.host (s.mdioStart 0 v)

/-- MDIO_WRITE (R361). -/
def execMdioWrite (v : U64) (s : State) : Result := s.host (s.mdioStart 1 v)

/-- MDIO_READ (R361). -/
def execMdioRead (v : U64) (s : State) : Result := s.host (s.mdioStart 3 v)

/-- MDIO_FRAME_DONE (R361). -/
def execMdioFrameDone (data : U16) (s : State) : Result := s.live (s.mdioDone data)

end Sys2Proof.Machine
end

