-- ==== Sys2Proof/Machine/Safe.lean ====
section
/-!
DEFINITION. The SAFE pins and the INVALID causes (R729, R735 to R738): the entry into the safe state that a detection brings, the
latch of a latching cause, and the cause bits of an epoch.
-/

namespace Sys2Proof.Machine

/-! ### Cause bits (Table GRD-1) -/

def causeCoverage : Nat := 0x01
def causeSupply : Nat := 0x02
def causePattern : Nat := 0x04
def causeGap : Nat := 0x08
def causeProof : Nat := 0x10
def causeKat : Nat := 0x20
def causeSingle : Nat := 0x40
def causeLatched : Nat := 0x80

/-- Replace the guard controller. -/
def State.setGrd (s : State) (x : Grd) : State := { s with grd := x }

/-- A detection of Table GRD-2: the pins go to the safe state, and SAFE_STATE is raised on each entry (R736). Validity is counted
afresh from here (R738; log entry 19). -/
def State.safeEnter (s : State) : State :=
  let s := s.setGrd { s.grd with run := 0 }
  if s.bitF GRD_STATUS.VALID then
    ((s.setF GRD_STATUS.VALID 0).incSat GRD_COUNT.SAFE_ENTRIES).raise .safeState
  else s

/-- Set cause bits of an epoch. -/
def State.guardCause (s : State) (num bits : Nat) : State := s.epochSet num (fun x => { x with causes := x.causes ||| bits })

/-- A latching cause of an epoch: it holds until REARM (R729, R737). -/
def State.guardLatch (s : State) (num bits : Nat) : State :=
  if !s.bitF GRD_CFG.EN then s
  else
    let first := match s.grd.latched with | some l => if epDist l num ≤ 0 then l else num | none => num
    let s := s.setGrd { s.grd with latched := some first }
    (s.setF GRD_STATUS.LATCHED 1).setF GRD_STATUS.LATCH_CAUSE (s.getF GRD_STATUS.LATCH_CAUSE ||| bits)

/-- REARM clears the latch (R737). -/
def State.guardRearm (s : State) : State :=
  ((s.setGrd { s.grd with latched := none }).setF GRD_STATUS.LATCHED 0).setF GRD_STATUS.LATCH_CAUSE 0

/-- The latch is held from an epoch earlier than e (Table GRD-1, bit 7). -/
def State.latchedBefore (s : State) (e : Nat) : Bool :=
  match s.grd.latched with
  | some l => decide (epDist l e < 0)
  | none => false

/-- GRD_REARM (R737): REARM with the key clears the latch. -/
def execGrdRearm (v : U64) (s : State) : Result :=
  s.host (if v.getLsbD 0 && decide (GRD_CTRL.KEY.get v = 0xC3) then s.guardRearm else s)

end Sys2Proof.Machine
end

