-- ==== Sys2Proof/Machine/Screens.lean ====
section
/-!
DEFINITION. The screens and the stipple unit (R407 to R412). A screen is held as its seed, its segment and its draws; its
state is the seed moved on by that many steps. The register shifts toward bit 0 (log entry 12).
-/

namespace Sys2Proof.Machine

/-- The polynomial x^64 + x^63 + x^61 + x^60 + 1 over x: one step multiplies the state by it (R409). -/
def screenTaps : Nat := 0xD800000000000000

/-- Multiply by x modulo the polynomial. -/
def gfDouble (a : Nat) : Nat := if a < 2 ^ 63 then 2 * a else (2 * a) % 2 ^ 64 ^^^ 0xB000000000000001

/-- Multiply two states as polynomials: n bits of b from the top. -/
def gfMulGo (a b : Nat) : Nat → Nat → Nat
  | 0, r => r
  | n + 1, r => gfMulGo a b n (if b.testBit n then gfDouble r ^^^ a else gfDouble r)

/-- The product of two states as polynomials. -/
def gfMul (a b : Nat) : Nat := gfMulGo a b 64 0

/-- The power of a state, by the bits of the exponent. -/
def gfPow (a : Nat) : Nat → Nat → Nat
  | 0, _ => 1
  | n + 1, k => if k = 0 then 1 else
      let h := gfPow (gfMul a a) n (k / 2)
      if k % 2 = 1 then gfMul h a else h

/-- A state moved on by k steps (R409). -/
def screenSteps (x k : Nat) : Nat := gfMul x (gfPow screenTaps 64 k)

/-- The state a screen yields at its last draw (R409, R410). -/
def Screen.word (x : Screen) : Nat := screenSteps x.seed.toNat (x.seg * 2 ^ 58 + 64 * x.draws)

/-- Make a draw; a screen that has made 2^52 returns to the start of its segment (R411). -/
def State.screenDraw (s : State) (i : Fin 64) : Nat × State :=
  let x := s.rgs.screens[i]
  let wrap := decide (x.draws = 2 ^ 52)
  let x := { x with draws := if wrap then 1 else x.draws + 1, left := 8 }
  let s := if wrap then s.incSat RGS_SCREEN_CTRL.WRAPS else s
  (x.word, s.setRgs { s.rgs with screens := s.rgs.screens.set i x })

/-- Take the next byte of a screen, low byte first (R409). A screen that failed with no spare left yields free bytes (R746). -/
def State.screenByte (s : State) (i : Fin 64) : Nat × State :=
  if i.val < 16 && (s.getF REP_SCREEN.FAILED).testBit i.val then (s.takeFree.1.toNat % 256, s.bumpFree) else
  let s := if (s.rgs.screens[i]).left = 0 then (s.screenDraw i).2 else s
  let x := s.rgs.screens[i]
  (x.word / 256 ^ (8 - x.left) % 256, s.setRgs { s.rgs with screens := s.rgs.screens.set i { x with left := x.left - 1 } })

/-- Bit i of the stream of operand x drawn with screen byte r (R407). -/
def streamBit (x r i : Nat) : Bool := decide ((i + 256 - r % 256) % 256 < x)

/-- The stipple product of two operands and their screen bytes (R408). -/
def stipple (x rx y ry : Nat) : Nat := (List.range 256).countP (fun i => streamBit x rx i && streamBit y ry i)

/-- A screen derived anew from SEED as it stands now (R410; DEDUCED, log entry 12). -/
def State.screenSeed (s : State) (i : Fin 64) : State :=
  s.setRgs { s.rgs with screens := s.rgs.screens.set i { seed := s.reg RGS_SEED, seg := (s.rgs.screens[i]).seg } }

/-- The write of RESEED: the screens of registration and the spares wait for the next opening, each press's for its next
boundary between launches (R410). -/
def State.reseed (s : State) : State := s.setRgs { s.rgs with reseed := true, reseedPress := 0xFFFF }

/-- The epoch opening after RESEED (R410). -/
def State.reseedOpen (s : State) : State :=
  if s.rgs.reseed then
    let s := s.setRgs { s.rgs with reseed := false }
    (List.finRange 64).foldl (fun s i => if i.val < 16 ∨ 48 ≤ i.val then s.screenSeed i else s) s
  else s

/-- The two screens of a press (Table ARC-3). -/
def pressScreens (n : Press) : Fin 64 × Fin 64 := (⟨16 + 2 * n.val, by omega⟩, ⟨17 + 2 * n.val, by omega⟩)

/-- A boundary between launches of a press after RESEED (R410). -/
def State.reseedAtPress (s : State) (n : Press) : State :=
  if s.rgs.reseedPress.testBit n.val then
    let s := s.setRgs { s.rgs with reseedPress := s.rgs.reseedPress - 2 ^ n.val }
    (s.screenSeed (pressScreens n).1).screenSeed (pressScreens n).2
  else s

/-- RESEED (R410). -/
def execReseed (s : State) : Result := s.host s.reseed

end Sys2Proof.Machine
end

