-- ==== Sys2Proof/Machine/Registration.lean ====
section
/-!
DEFINITION. Registration (R362 to R382, R400 to R404, R417 to R422): items are re-timed, placed, freed of motion and turned
into voxel updates; calibration tables; pattern checks (R721, R722) and the known-answer item (R725); the seal of an epoch.
Fixed-point results for which the spec gives no rounding take either neighbour (log entries 1 and 10).
-/

namespace Sys2Proof.Machine

/-! ### Arithmetic in the formats of Table RGS-1 -/

/-- A quotient in such a format; a zero divisor has no stated result. -/
def fitQ (num den : Int) : Int :=
  if den = 0 then Config.outOfRange num else if den < 0 then fit32 (roundQ (-num) (-den)) else fit32 (roundQ num den)

/-- A product in Q4.28. -/
def mul28 (a b : Int) : Int := fitQ (a * b) (2 ^ 28)

/-- A vector: a position in Q26.6 mm unless said otherwise. -/
abbrev V3 := Int × Int × Int

/-- Component i of a vector. -/
def V3.at (v : V3) (i : Nat) : Int := match i with | 0 => v.1 | 1 => v.2.1 | _ => v.2.2

/-- Build a vector by components. -/
def V3.of (f : Nat → Int) : V3 := (f 0, f 1, f 2)

/-- The whole part of a square root, bit by bit. -/
def isqrtGo (n : Nat) : Nat → Nat → Nat
  | 0, r => r
  | k + 1, r => let c := r + 2 ^ k; isqrtGo n k (if c * c ≤ n then c else r)

/-- The whole part of a square root below 2^64. -/
def isqrt (n : Nat) : Nat := isqrtGo n 64 0

/-- a / √n, rounded to a neighbour. -/
def overRoot (a : Int) (n : Nat) : Int :=
  let q := isqrt (a.natAbs * a.natAbs / n)
  let m := if q * q * n = a.natAbs * a.natAbs then q else if Config.roundsUp a n then q + 1 else q
  if a < 0 then -(m : Int) else m

/-! ### From sample to point (R368 to R373) -/

/-- One whole turn in radians, in 2^-64 units: 2π × 2^64, rounded down. -/
def turnFix : Int := 115904311329233965478

/-- n terms of an alternating series t − t·x²/((k+1)(k+2)) + … in 2^-64 units, from the term t of degree k on. -/
def turnSeries (x2 : Int) : Nat → Nat → Int → Int
  | 0, _, _ => 0
  | n + 1, k, t => t + turnSeries x2 n (k + 2) (-(t * x2 / 2 ^ 64 / ((k + 1) * (k + 2))))

/-- The cosine of r / 65536 of a turn in 2^-64 units, for r up to a quarter turn. -/
def cosQuarter (r : Nat) : Int :=
  let x (k : Nat) : Int := turnFix * k / 65536
  if r ≤ 8192 then turnSeries (x r * x r / 2 ^ 64) 12 0 (2 ^ 64)
  else let y := x (16384 - r); turnSeries (y * y / 2 ^ 64) 12 1 y

/-- The cosine of k / 65536 of a turn in 2^-64 units, to about 2^-58 (R371; log entry 10). -/
def cosTurn (k : Nat) : Int :=
  let r := k % 16384
  match k % 65536 / 16384 with
  | 0 => cosQuarter r
  | 1 => -cosQuarter (16384 - r)
  | 2 => -cosQuarter r
  | _ => cosQuarter (16384 - r)

/-- The sine of k / 65536 of a turn. -/
def sinTurn (k : Nat) : Int := cosTurn (k + 49152)

/-- The sensor-frame point of a scanner point word; none for a RANGE of 0. The products of R371 are formed as half sums
(2 cos e cos a = cos(a + e) + cos(a − e), 2 cos e sin a = sin(a + e) + sin(a − e)), and each component is rounded to a
neighbour (R333, R371; log entry 10). -/
def scanPoint (a : Nat) : Option V3 :=
  let r : Int := ((a % 2 ^ 20 * 16 : Nat) : Int)
  let az := a / 2 ^ 20 % 65536
  let el := a / 2 ^ 36 % 65536
  let up := az + el
  let dn := az + (65536 - el)
  if r = 0 then none
  else some (fitQ (r * (cosTurn up + cosTurn dn)) (2 ^ 65), fitQ (r * (sinTurn up + sinTurn dn)) (2 ^ 65), fitQ (r * sinTurn el) (2 ^ 64))

/-- The radial factor of the Brown–Conrady model, its products and sums taken from left to right in Q4.28 (R370). -/
def lensRad (k : Nat → Int) (r2 : Int) : Int :=
  fit32 (fit32 (fit32 (2 ^ 28 + mul28 (k 0) r2) + mul28 (mul28 (k 1) r2) r2) + mul28 (mul28 (mul28 (k 2) r2) r2) r2)

/-- The tangential shift along the axis of x, a and b being the coefficients that R370 has there in this order. -/
def lensShift (a b r2 x y : Int) : Int := fit32 (mul28 (mul28 (fit32 (2 * a)) x) y + mul28 b (fit32 (r2 + mul28 (fit32 (2 * x)) x)))

/-- The squared radius. -/
def lensR2 (x y : Int) : Int := fit32 (mul28 x x + mul28 y y)

/-- The inverse Brown–Conrady model, iterated (R370). -/
def undistort (k : Nat → Int) (xd yd : Int) : Nat → Int → Int → Int × Int
  | 0, x, y => (x, y)
  | n + 1, x, y =>
    let r2 := lensR2 x y
    let rad := lensRad k r2
    let dx := lensShift (k 3) (k 4) r2 x y
    let dy := fit32 (mul28 (k 3) (fit32 (r2 + mul28 (fit32 (2 * y)) y)) + mul28 (mul28 (fit32 (2 * k 4)) x) y)
    undistort k xd yd n (fitQ (fit32 (xd - dx) * 2 ^ 28) rad) (fitQ (fit32 (yd - dy) * 2 ^ 28) rad)

/-- The lens coefficients K1, K2, K3, P1, P2 of an entry. -/
def calLens (e : List Byte) (i : Nat) : Int := calInt e (0x60 + 4 * i) 4

/-- FX, FY, CX, CY of an entry. -/
def calOptic (e : List Byte) (i : Nat) : Int := (leAt e (0x50 + 4 * i) 4 : Int)

/-- The camera-frame point of a depth pixel; none for a raw value of 0 (R370). UNDIST_ITERS outside 1 to 7 is taken as the nearest limit (log
entry 10). -/
def depthPoint (e : List Byte) (u v raw : Nat) : Option V3 :=
  if raw = 0 then none
  else
    let d := fitQ ((raw * leAt e 0x0C 4 * 64 : Nat) : Int) 1000
    let xd := fitQ (((u : Int) * 65536 - calOptic e 2) * 2 ^ 28) (calOptic e 0)
    let yd := fitQ (((v : Int) * 65536 - calOptic e 3) * 2 ^ 28) (calOptic e 1)
    let p := undistort (calLens e) xd yd (clampNat 1 7 (byteAt e 0x78)) xd yd
    some (fitQ (p.1 * d) (2 ^ 28), fitQ (p.2 * d) (2 ^ 28), d)

/-- Rot·q + t by the extrinsic of an entry (R372). -/
def extrinsic (e : List Byte) (q : V3) : V3 :=
  V3.of (fun i => fit32 (fitQ (calRot e i 0 * q.1 + calRot e i 1 * q.2.1 + calRot e i 2 * q.2.2) (2 ^ 30) + calT e i))

/-! ### Motion compensation (R374 to R378) -/

/-- Items an encoder or an IMU keeps (R374; log entry 10 for IMUs). -/
def historyKeep : Nat := 256

/-- The pair of kept items that decides the position at a time, the older first; none where there is none (R374). -/
def bracket : List (Int × Int) → Int → Option ((Int × Int) × (Int × Int))
  | b :: a :: r, t => if a.1 ≤ t then some (a, b) else bracket (a :: r) t
  | _, _ => none

/-- An encoder's position at a time in 2^-16 counts; none where the point is stale (R374). -/
def State.encPos (s : State) (f : EpochRec) (n : Nat) (t : Int) : Option Int :=
  let h := (s.rgs.encs.toList[n]?).getD []
  let stale := (bitsOf f.motion.toNat 47 32 : Int) * 1000 * unitNs
  match h.head? with
  | none => none
  | some b =>
    if stale < t - b.1 then none
    else if t = b.1 then some (b.2 * 65536)
    else (bracket h t).map (fun p =>
      if p.1.1 = p.2.1 then p.2.2 * 65536 else p.1.2 * 65536 + roundQ ((p.2.2 - p.1.2) * 65536 * (t - p.1.1)) (p.2.1 - p.1.1))

/-- The box of encoder n holds a point (R375). -/
def inBox (e : List Byte) (p : V3) : Bool :=
  decide (calModel e = 4) &&
  [0, 1, 2].all (fun i => decide (calInt e (0x90 + 4 * i) 4 ≤ p.at i) && decide (p.at i ≤ calInt e (0x9C + 4 * i) 4))

/-- The conveyor move of a point between the sample's time and the reference instant (R375); none where it is stale. -/
def State.conveyor (s : State) (f : EpochRec) (p : V3) (ts : Int) : Option V3 :=
  match (List.range 4).find? (fun n => inBox (calEntry f.cal (48 + n)) p) with
  | none => some p
  | some n =>
    let e := calEntry f.cal (48 + n)
    match s.encPos f n f.refTime, s.encPos f n ts with
    | some a, some b =>
      some (V3.of (fun i => fit32 (p.at i + fitQ ((a - b) * (leAt e 0x80 4 : Int) * calInt e (0x84 + 4 * i) 4 * 64) (2 ^ 62))))
    | _, _ => none

/-- A gyroscope component of an IMU item's payload (Table RGS-2). -/
def gyroRaw (e pay : List Byte) (i : Nat) : Int :=
  let d := leAt e (0x80 + 2 * i) 2
  let n := if d.testBit 9 then 4 else 2
  let b := payBytes pay (d % 256) n
  toSigned (8 * n) (if d.testBit 8 then beNat b else leNat b)

/-- The integral of the gyroscope over a stretch, by the trapezoid rule, in 2 LSB × 2^-32 ns; samples newest first, the stretch
inside their times (R376). -/
def gyroIntegral (e : List Byte) (i : Nat) (lo hi : Int) : List (Int × List Byte) → Int
  | b :: a :: r =>
    let wa := gyroRaw e a.2 i
    let wb := gyroRaw e b.2 i
    let w (t : Int) : Int := if b.1 = a.1 then wb else wa + roundQ ((wb - wa) * (t - a.1)) (b.1 - a.1)
    let x := max lo a.1
    let y := min hi b.1
    (if x < y then (w x + w y) * (y - x) else 0) + gyroIntegral e i lo hi (a :: r)
  | _ => 0

/-- The integral from one time to another, in either direction (R376). -/
def gyroFrom (e : List Byte) (i : Nat) (lo hi : Int) (h : List (Int × List Byte)) : Int :=
  if lo ≤ hi then gyroIntegral e i lo hi h else -gyroIntegral e i hi lo h

/-- A pose record. -/
structure Pose where
  count : Nat
  bytes : List Byte
  deriving DecidableEq, Repr

/-- The newest of an IMU's pose records at or before a stamp, head being the index of the newest of all (R376). -/
def poseOf (b : List Byte) (head : Nat) (stamp : Tick) : Option Pose :=
  let rs := (List.range 16).map (fun k => slice b (128 * ((head + 16 - k) % 16)) 128)
  (rs.find? (fun r => decide (leAt r 0 8 ≤ stamp))).map (fun r => ⟨leAt r 0 8, r⟩)

/-- How a gripper sample is lost. -/
inductive GripDrop where
  | stale | rotLimit
  deriving DecidableEq, Repr

/-- The IMU items cover the stretch between two times (R377). -/
def imuCovers (h : List (Int × List Byte)) (a b : Int) : Bool :=
  match h.head?, h.getLast? with
  | some n, some o => decide (o.1 ≤ min a b) && decide (max a b ≤ n.1)
  | _, _ => false

/-- A point placed by the gripper: the point and the sensor origin in the cell frame (R376, R377). A pose ring that cannot be read gives no
pose, and a sample without a pose is stale (log entry 10). -/
def State.gripper (s : State) (f : EpochRec) (e : List Byte) (stamp : Tick) (ts : Int) (q : V3) (ring : List Byte) :
    Except GripDrop (V3 × V3) :=
  let i := (calFlag e 2).toNat
  match poseOf ring (if i = 0 then s.getF RGS_POSE_HEAD.HEAD_0 else s.getF RGS_POSE_HEAD.HEAD_1) stamp with
  | none => .error .stale
  | some p =>
    let tp := s.dtl.timeAt p.count
    let h := (s.rgs.imus.toList[i]?).getD []
    if (bitsOf f.motion.toNat 31 16 : Int) * 1000 * unitNs < s.dtl.timeAt stamp - tp || !imuCovers h tp ts then .error .stale
    else
      let ie := calEntry f.cal (52 + i)
      let g (j : Nat) : Int := gyroFrom ie j tp ts h
      let phi (j : Nat) : Int :=
        roundQ ((calInt ie (0x8C + 12 * j) 4 * g 0 + calInt ie (0x90 + 12 * j) 4 * g 1 + calInt ie (0x94 + 12 * j) 4 * g 2) *
          (leAt ie 0x88 4 : Int)) (2 ^ 79 * 1000000000)
      if [0, 1, 2].any (fun j => decide ((f.motion.toNat % 65536 : Int) < (phi j).natAbs)) then .error .rotLimit
      else
        let rot (r c : Nat) : Int := toSigned 32 (leAt p.bytes (8 + 16 * r + 4 * c) 4)
        let turn (v : V3) : V3 :=
          (v.1 + fitQ (phi 1 * v.2.2 - phi 2 * v.2.1) 65536, v.2.1 + fitQ (phi 2 * v.1 - phi 0 * v.2.2) 65536,
           v.2.2 + fitQ (phi 0 * v.2.1 - phi 1 * v.1) 65536)
        let go (v : V3) : V3 :=
          let w := turn v
          V3.of (fun r => fit32 (fitQ (rot r 0 * w.1 + rot r 1 * w.2.1 + rot r 2 * w.2.2) (2 ^ 30) + rot r 3 +
            fitQ (toSigned 32 (leAt p.bytes (56 + 4 * r) 4) * (ts - tp)) (unitNs * 1000000000)))
        .ok (go (extrinsic e q), go (calT e 0, calT e 1, calT e 2))

/-! ### Voxel updates (R384, R385, R400 to R404) -/

/-- The size of a voxel in Q26.6 mm (R384). -/
def State.voxSize (s : State) : Int := 16 * 2 ^ s.getF RGS_GRID_CFG.VOX_LOG2

/-- The voxel of a point (R384). -/
def State.voxOf (s : State) (p : V3) : V3 :=
  let o : V3 := (toSigned 32 (s.getF RGS_ORIGIN_XY.X), toSigned 32 (s.getF RGS_ORIGIN_XY.Y), toSigned 32 (s.getF RGS_ORIGIN_Z.Z))
  V3.of (fun i => (p.at i - o.at i) / s.voxSize)

/-- A voxel lies in the grid. -/
def State.inGrid (s : State) (v : V3) : Bool :=
  [0, 1, 2].all (fun i => decide (0 ≤ v.at i) && decide (v.at i < 2 ^ s.getF RGS_GRID_CFG.EXTENT_LOG2))

/-- The brick key of a voxel (R385). -/
def voxKey (v : V3) : Nat := (v.1 / 8).toNat + 2 ^ 9 * (v.2.1 / 8).toNat + 2 ^ 18 * (v.2.2 / 8).toNat

/-- The byte of a voxel in its brick (R383). -/
def voxByte (v : V3) : Nat := 8 * ((v.1 % 8).toNat + 8 * (v.2.1 % 8).toNat + 64 * (v.2.2 % 8).toNat)

/-- The octahedral code of a view direction (R404). -/
def octahedral (n : V3) : Int × Int :=
  let m : Int := n.1.natAbs + n.2.1.natAbs + n.2.2.natAbs
  let sg (x : Int) : Int := if x < 0 then -1 else 1
  if m = 0 then (Config.originNormal false, Config.originNormal true)
  else if n.2.2 < 0 then (nearQ (127 * (m - n.2.1.natAbs) * sg n.1) m, nearQ (127 * (m - n.1.natAbs) * sg n.2.1) m)
  else (nearQ (127 * n.1) m, nearQ (127 * n.2.1) m)

/-- A field that moves toward a new value by an arithmetic shift, or takes it when the voxel had no confidence (R403, R404). -/
def blend (fresh : Bool) (sh : Nat) (old new : Int) : Int := if fresh then new else old + (new - old) / 2 ^ sh

/-- What a hit brings to its voxel. -/
structure Hit where
  inc    : Int
  conf   : Nat
  bytes  : Nat × Nat
  normal : Int × Int
  colour : Option (Nat × Nat × Nat)
  deriving DecidableEq, Repr

/-- A hit's voxel (R400, R402 to R404); cfg is RGS_UPDATE_CFG as the epoch took it. -/
def hitVoxel (cfg : Nat) (h : Hit) (v : List Byte) : List Byte :=
  let l := clampInt (toSigned 8 (bitsOf cfg 15 8)) (toSigned 8 (bitsOf cfg 23 16)) (toSigned 8 (byteAt v 0) + h.inc)
  let c := byteAt v 1
  let c' := min 255 (c + h.conf - stipple c h.bytes.1 h.conf h.bytes.2)
  let col (o : Nat) (x : Nat) : Int := blend (decide (c = 0)) (bitsOf cfg 26 24) (byteAt v o : Int) (x : Int)
  let cols := match h.colour with
    | none => slice v 2 3
    | some (r, g, b) => [BitVec.ofInt 8 (col 2 r), BitVec.ofInt 8 (col 3 g), BitVec.ofInt 8 (col 4 b)]
  let nrm (o : Nat) (x : Int) : Byte := BitVec.ofInt 8 (blend (decide (c = 0)) (bitsOf cfg 30 28) (toSigned 8 (byteAt v o)) x)
  BitVec.ofInt 8 l :: BitVec.ofNat 8 c' :: cols ++ [nrm 5 h.normal.1, nrm 6 h.normal.2, 0]

/-- A miss's voxel (R401). -/
def missVoxel (cfg : Nat) (dec : Int) (v : List Byte) : List Byte :=
  BitVec.ofInt 8 (clampInt (toSigned 8 (bitsOf cfg 15 8)) (toSigned 8 (bitsOf cfg 23 16)) (toSigned 8 (byteAt v 0) + dec)) :: v.drop 1

/-- The pixel of a camera that a point of the cell falls on, by the forward Brown–Conrady model; none behind the camera (R403). -/
def lensPixel (c : List Byte) (p : V3) : Option (Int × Int) :=
  let d : V3 := V3.of (fun i => p.at i - calT c i)
  let q : V3 := V3.of (fun i => fitQ (calRot c 0 i * d.1 + calRot c 1 i * d.2.1 + calRot c 2 i * d.2.2) (2 ^ 30))
  if q.2.2 ≤ 0 then none
  else
    let x := fitQ (q.1 * 2 ^ 28) q.2.2
    let y := fitQ (q.2.1 * 2 ^ 28) q.2.2
    let k := calLens c
    let r2 := lensR2 x y
    let rad := lensRad k r2
    let xd := fit32 (mul28 x rad + lensShift (k 3) (k 4) r2 x y)
    let yd := fit32 (mul28 y rad + fit32 (mul28 (k 3) (fit32 (r2 + mul28 (fit32 (2 * y)) y)) + mul28 (mul28 (fit32 (2 * k 4)) x) y))
    some (nearQ (calOptic c 0 * xd + calOptic c 2 * 2 ^ 28) (2 ^ 44), nearQ (calOptic c 1 * yd + calOptic c 3 * 2 ^ 28) (2 ^ 44))

/-- The colour of a depth hit from the paired camera's plane: the channels, or nothing and the hit counts (R403). A camera with IMAGE_ONLY is
never used for colouring (R406); a hit whose colour cannot be read counts too. -/
def State.pairColour (s : State) (f : EpochRec) (e : List Byte) (stamp : Tick) (p : V3) : Got (Option (Nat × Nat × Nat)) × State :=
  let slot := byteAt e 7
  let miss : Got (Option (Nat × Nat × Nat)) × State := (.ok none, s.incSat RGS_DROP_2.COLOUR_MISS)
  let c := calEntry f.cal slot
  let win := (bitsOf f.upd.toNat 47 32 : Int) * 1000 * unitNs
  let now := s.dtl.timeAt stamp
  if calModel e ≠ 1 ∨ slot = 0xFF then (.ok none, s)
  else if calModel c = 2 ∧ calFlag c 0 then miss
  else
    match (tabGet [] s.rgs.planes slot).find? (fun g => match g.stamp with
        | none => false
        | some t => decide ((s.dtl.timeAt t - now).natAbs ≤ win)), lensPixel c p with
    | some g, some (u, v) =>
      if u < 0 ∨ v < 0 ∨ (leAt c 0x74 2 : Int) ≤ u ∨ (leAt c 0x76 2 : Int) ≤ v then miss
      else if !g.lines.any (fun l => decide (l.1 = v.toNat) && decide (3 * u.toNat + 3 ≤ l.2)) then miss
      else
        let pc := calEntry (s.planeCal g) slot
        match s.agentGet (s.planeAddr slot pc g.pos + 64 + v.toNat * s.planeLine slot pc + 3 * u.toNat) 3 with
        | (.ok b, s) => (.ok (some (byteAt b 2, byteAt b 1, byteAt b 0)), s)
        | (.held a op, s) => (.held a op, s)
        | (.bad _ _, _) => miss
    | _, _ => miss

/-- A screen of a calibration entry. -/
def calScreen (e : List Byte) (o : Nat) : Fin 64 := ⟨byteAt e o % 16, by omega⟩

/-- The screen bytes of a hit, SCREEN_A first (R402, R409). -/
def State.hitBytes (s : State) (e : List Byte) : (Nat × Nat) × State :=
  let a := s.screenByte (calScreen e 2)
  let b := a.2.screenByte (calScreen e 3)
  ((a.1, b.1), b.2)

/-- What a hit brings, its screen bytes drawn. -/
def State.hitOf (s : State) (e : List Byte) (view : V3) (colour : Option (Nat × Nat × Nat)) : Hit × State :=
  match s.hitBytes e with
  | (b, s) => ({ inc := calInt e 5 1, conf := byteAt e 4, bytes := b, normal := octahedral view, colour := colour }, s)

/-- The voxel of the k-th miss of a sample, at k voxel sizes from the hit toward the sensor origin (R401); none where there is no way to go
(log entry 10). -/
def State.missPoint (s : State) (x : Placed) (k : Nat) : Option V3 :=
  let d : V3 := V3.of (fun i => V3.at x.org i - V3.at x.p i)
  let n := (d.1 * d.1 + d.2.1 * d.2.1 + d.2.2 * d.2.2).toNat
  if n = 0 then none
  else some (s.voxOf (V3.of (fun i => V3.at x.p i + overRoot (k * s.voxSize * V3.at d i) n)))

/-- The voxel that the k-th miss changes, if it differs from the hit's and from the one before and lies in the grid (R373, R401). -/
def State.missTarget (s : State) (x : Placed) (k : Nat) : Option V3 :=
  match s.missPoint x k with
  | none => none
  | some v =>
    let prev := if k = 1 then s.voxOf x.p else (s.missPoint x (k - 1)).getD v
    if v ≠ s.voxOf x.p ∧ v ≠ prev ∧ s.inGrid v then some v else none

/-- The hit of a placed sample (R363, R373, R400, R402 to R404). -/
def State.hitUpdate (s : State) (f : EpochRec) (e : List Byte) (stamp : Tick) (x : Placed) : Got Unit × State :=
  let v := s.voxOf x.p
  if !s.inGrid v then (.ok (), s.incSat RGS_DROP_2.RANGE_OUT)
  else
    gotThen (s.voxPlan f (voxKey v) false) fun plan s =>
      match plan with
      | none => (.ok (), s)
      | some plan =>
        gotThen (s.pairColour f e stamp x.p) fun c s =>
          match s.hitOf e x.view c with
          | (h, s) => s.voxMake f plan (voxByte v) false (hitVoxel f.upd.toNat h)

/-- The k-th miss of a placed sample (R401). -/
def State.missUpdate (s : State) (f : EpochRec) (e : List Byte) (x : Placed) (k : Nat) : Got Unit × State :=
  match s.missTarget x k with
  | none => (.ok (), s)
  | some w =>
    gotThen (s.voxPlan f (voxKey w) true) fun plan s =>
      match plan with
      | none => (.ok (), s)
      | some plan => s.voxMake f plan (voxByte w) true (missVoxel f.upd.toNat (calInt e 6 1))

/-- A sensor-frame point is placed, with the motion its entry asks for (R372 to R378): the sample, or nothing where it is dropped and
counted. -/
def State.samplePlace (s : State) (f : EpochRec) (e : List Byte) (stamp : Tick) (ts : Int) (q : V3) : Got (Option Placed) × State :=
  let i := (calFlag e 2).toNat
  let ring : Got (List Byte) × State :=
    if !calFlag e 1 then (.ok [], s)
    else
      match s.agentGet ((s.reg RGS_POSE_BASE).toNat + 2048 * i) 2048 with
      | (.bad a op, s) => (.ok (List.replicate 2048 0xFF), (s.ownAccess a op).2)
      | r => r
  gotThen ring fun ring s =>
    match (if calFlag e 1 then s.gripper f e stamp ts q ring else .ok (extrinsic e q, (calT e 0, calT e 1, calT e 2))) with
    | .error .stale => (.ok none, s.incSat RGS_DROP_1.MOTION_STALE)
    | .error .rotLimit => (.ok none, s.incSat RGS_DROP_1.ROT_LIMIT)
    | .ok (p, o) =>
      match (if calFlag e 3 then s.conveyor f p ts else some p) with
      | none => (.ok none, s.incSat RGS_DROP_1.MOTION_STALE)
      | some p' => (.ok (some { p := p', view := V3.of (fun i => o.at i - p.at i), org := o }), s)

/-- The time of a sample: the reference instant plus Δt to the nearest ns (R368). -/
def State.sampleTime (s : State) (f : EpochRec) (e : List Byte) (stamp : Tick) (tofs : Int) : Int :=
  f.refTime + fit32 (nearQ (s.dtl.timeAt stamp - f.refTime) unitNs + calInt e 8 4 + tofs) * unitNs

/-! ### Items (R362 to R366, R417) -/

/-- Take the words of galley g up to the end of its item. -/
def State.galTakeGo (s : State) (g : GalleyId) : Nat → List GWord → List GWord × State
  | 0, ws => (ws, s)
  | n + 1, ws =>
    match s.galPop g with
    | (none, s) => (ws, s)
    | (some w, s) => if w.isEnd then (ws ++ [w], s) else s.galTakeGo g n (ws ++ [w])

/-- Registration takes what has crossed X07 or X08, oldest first (R362). -/
def State.crossTake (s : State) (x : XLane) : State :=
  let es := (s.gutter x).words
  if es = [] then s
  else
    let s := es.foldl (fun s _ => s.setGutter x (s.gutter x).take) s
    s.setRgs { s.rgs with inbox := s.rgs.inbox ++ es }

/-- The words of an inbox with those of galley g taken out up to the end of an item. -/
def inboxDrop (g : GalleyId) : List GEntry → List GEntry
  | [] => []
  | e :: es =>
    if e.galley = some g then (if e.word.isEnd then es else inboxDrop g es) else e :: inboxDrop g es

/-- Take the next complete item of galley g, if there is one: the words of it that have crossed already, then the rest, which cross within
the command (log entry 5). -/
def State.galTake (s : State) (g : GalleyId) : Option (List GWord) × State :=
  let s := match galCrossing g with | some x => s.crossTake x | none => s
  let mine := s.crossed g
  let x := s.gal g
  match mine.findIdx? (·.isEnd) with
  | some i => (some (mine.take (i + 1)), s.setRgs { s.rgs with inbox := inboxDrop g s.rgs.inbox })
  | none =>
    if x.synth || decide (0 < x.complete) then
      match (s.setRgs { s.rgs with inbox := inboxDrop g s.rgs.inbox }).galTakeGo g (x.words.length + 1) mine with
      | (ws, s) => (some ws, s)
    else (none, s)

/-- Unwrap an encoder position against the newest kept one. -/
def unwrapPos (h : List (Int × Int)) (raw : Nat) : Int :=
  match h with
  | [] => toSigned 32 raw
  | x :: _ => x.2 + toSigned 32 (ofSigned 32 ((raw : Int) - x.2))

/-- Keep an encoder item (R374). -/
def State.encKeep (s : State) (n : Nat) (t : Int) (raw : Nat) : State :=
  s.setRgs { s.rgs with encs := s.rgs.encs.mapIdx (fun i h =>
    if i = n then ((t, unwrapPos h raw) :: h).take historyKeep else h) }

/-- Keep an IMU item. -/
def State.imuKeep (s : State) (n : Nat) (t : Int) (pay : List Byte) : State :=
  s.setRgs { s.rgs with imus := s.rgs.imus.mapIdx (fun i h => if i = n then ((t, pay) :: h).take historyKeep else h) }

/-- The item in hand. -/
def State.setWork (s : State) (w : Option RegWork) : State := s.setRgs { s.rgs with work := w }

/-- The samples of an item (R363). -/
def itemCount (e : List Byte) (ws : List U64) : Nat :=
  let len := bitsOf (ws.getD 1 0).toNat 31 16
  if calModel e = 1 then len / 2 else if calModel e = 3 then min len ((ws.length - 2) / 2) else 0

/-- A sample of an item: its sensor-frame point, if it is valid, and its TOFS (R369 to R371). -/
def itemPoint (e : List Byte) (ws : List U64) (i : Nat) : Option V3 × Int :=
  if calModel e = 1 then
    (depthPoint e i (bitsOf (ws.getD 1 0).toNat 63 48) (bitsOf (ws.getD (2 + i / 4) 0).toNat (16 * (i % 4) + 15) (16 * (i % 4))), 0)
  else (scanPoint (ws.getD (2 + 2 * i) 0).toNat, toSigned 32 ((ws.getD (3 + 2 * i) 0).toNat % 2 ^ 32))

/-- The next part of the item in hand: a sample is placed, or one of its updates is made, or a line goes to its plane, or an encoder or IMU
item is kept (R363, R374, R382, R401, R405). -/
def State.workStep (s : State) (w : RegWork) : Got Unit × State :=
  match s.epochRec w.num with
  | none => (.ok (), s.setWork none)
  | some f =>
    let hd := (w.words.getD 1 0).toNat
    let slot := hd % 64
    let stamp := (w.words.getD 0 0).toNat
    let bytes := (bytesOf (w.words.drop 2)).take (bitsOf hd 31 16)
    let e := calEntry f.cal slot
    let skip : State := s.setWork (some { w with next := w.next + 1, placed := none, k := 0 })
    if 48 ≤ slot ∧ slot < 52 then
      (.ok (), (s.encKeep (slot - 48) (s.dtl.timeAt stamp) ((w.words.getD 2 0).toNat % 2 ^ 32)).setWork none)
    else if 52 ≤ slot then (.ok (), (s.imuKeep (slot - 52) (s.dtl.timeAt stamp) bytes).setWork none)
    else if slot < 32 ∧ calModel e = 2 then
      gotThen (s.planePut w.num f.cal slot (bitsOf hd 63 48) stamp bytes) fun _ s => (.ok (), s.setWork none)
    else if itemCount e w.words ≤ w.next then (.ok (), s.setWork none)
    else
      match w.placed with
      | some x =>
        if w.k = 0 then gotThen (s.hitUpdate f e stamp x) fun _ s => (.ok (), s.setWork (some { w with k := 1 }))
        else if w.k ≤ f.upd.toNat % 16 then
          gotThen (s.missUpdate f e x w.k) fun _ s => (.ok (), s.setWork (some { w with k := w.k + 1 }))
        else (.ok (), skip)
      | none =>
        match itemPoint e w.words w.next with
        | (none, _) => (.ok (), skip)
        | (some q, tofs) =>
          gotThen (s.samplePlace f e stamp (s.sampleTime f e stamp tofs) q) fun x s =>
            match x with
            | none => (.ok (), s.setWork (some { w with next := w.next + 1, placed := none, k := 0 }))
            | some x => (.ok (), s.setWork (some { w with placed := some x, k := 0 }))

/-- Registration goes on with the item in hand until it is done or an access waits; an update that an access turned away cannot make is
passed over (log entry 10). -/
def State.workRun (s : State) : Nat → State
  | 0 => s
  | n + 1 =>
    match s.rgs.work with
    | none => s
    | some w =>
      match s.workStep w with
      | (.bad a op, _) => State.workRun ((s.ownAccess a op).2.setWork (w.placed.map (fun _ => { w with k := w.k + 1 }))) n
      | r =>
        match s.stepEnd r with
        | (false, s) => s
        | (true, s) => State.workRun s n

/-- Parts that an item has at most: each sample is placed, hits, misses up to 15 times, and is left. -/
def workParts (w : RegWork) : Nat := 18 * (4 * w.words.length + 2)

/-- Registration works on the item in hand, while the grid runs and its directory is empty of what was there before. -/
def State.workOn (s : State) : State :=
  match s.rgs.work with
  | none => s
  | some w => if s.bitF RGS_GRID_CFG.GRID_EN && s.rgs.clear.isNone then s.workRun (workParts w) else s

/-- The close policy of a slot as the open epoch took it (Table RGS-6, R422). -/
def State.policyOf (s : State) (slot : Nat) : Nat :=
  match s.epochs.head? with
  | none => 0
  | some f => f.policy / 4 ^ slot % 4

/-- The epoch an item is registered into, if any, and whether its coverage counts there; its drop is counted where not (R366, R417,
R420). -/
def State.itemEpoch (s : State) (slot : Nat) (stamp : Tick) : Option (Nat × Bool) × State :=
  if !s.bitF RGS_GRID_CFG.GRID_EN then (none, s.incSat RGS_DROP_0.NO_EPOCH)
  else
    match s.epochAt stamp with
    | none => (none, s.incSat RGS_DROP_0.NO_EPOCH)
    | some f =>
      if !f.isSealed then (some (f.num, true), s)
      else
        match s.policyOf slot with
        | 0 =>
          match s.epochOpen with
          | none => (none, s.incSat RGS_DROP_0.NO_EPOCH)
          | some o => (some (o.num, false), s.incSat RGS_DROP_1.LATE_NEXT)
        | 2 => if f.closed then (none, s.incSat RGS_DROP_1.LATE_DROP) else (some (f.num, true), s)
        | _ => (none, s.incSat RGS_DROP_1.LATE_DROP)

/-- Note an item's arrival for the close policies and for delivery (R418, R587). -/
def State.noteStamp (s : State) (slot : Nat) (stamp : Tick) : State :=
  s.setRgs { s.rgs with latest := tabSet s.rgs.latest slot (max stamp (tabGet 0 s.rgs.latest slot)) }

/-! ### Pattern checks (R721, R722) -/

/-- Why a pattern item fails, as GRD_PATTERN records it; none where it passes. -/
def State.patternKind (s : State) (port slot : Nat) (ws : List GWord) : Option Nat :=
  let n := s.getF ING_PAT_CFG.PAT_WORDS
  let hd := ((ws.getD 1 { data := 0 }).data).toNat
  let pay := ws.drop 2
  let seq := bitsOf ((pay.getD 0 { data := 0 }).data).toNat 55 32
  let mine := if port < 8 then decide (slot / 4 = port) else decide (32 ≤ slot) && decide ((slot - 32) / 4 = port - 8) && decide (slot < 48)
  if ws.any (·.isPoison) then some 4
  else if bitsOf hd 31 16 ≠ n ∨ pay.length ≠ n ∨ ¬ mine then some 2
  else if pay.zipIdx.any (fun p => decide (p.1.data ≠ BitVec.ofNat 64 (2 ^ 56 * port + 2 ^ 32 * seq + 2 ^ 16 * p.2 + (65535 - p.2)))) then some 1
  else if (match s.rgs.patLast.find? (fun e => decide (e.1 = port)) with
      | none => false
      | some (_, l) => let d := (seq + 2 ^ 24 - l) % 2 ^ 24; decide (d = 0) || decide (2 ^ 23 < d)) then some 3
  else none

/-- The pattern checker at the entry of registration (R721, R722). -/
def State.patternCheck (s : State) (port : Nat) (ws : List GWord) : State :=
  let slot := ((ws.getD 1 { data := 0 }).data).toNat % 64
  match s.patternKind port slot ws with
  | none =>
    let seq := bitsOf ((ws.getD 2 { data := 0 }).data).toNat 55 32
    let now := match s.epochOpen with | some f => tabSet s.rgs.patPass slot (f.num :: (tabGet [] s.rgs.patPass slot).filter (fun e => decide (e ≠ f.num))) | none => s.rgs.patPass
    (s.setRgs { s.rgs with patLast := tabSet s.rgs.patLast port seq, patPass := now }).incWrap GRD_PATTERN.PASSED
  | some k =>
    let s := ((s.incSat GRD_PATTERN.FAILS).setF GRD_PATTERN.FAIL_SLOT slot).setF GRD_PATTERN.FAIL_KIND k
    let s := s.raise .patternFail
    if (s.getF GRD_SENSORS.MASK).testBit slot then
      match s.epochOpen with
      | some f => ((s.guardCause f.num causePattern).guardLatch f.num causePattern).safeEnter
      | none => s.safeEnter
    else s

/-- A unit whose words registration cannot use is a dropped one for its sensor, where its stamp and header can be read (R351; log entry
10). -/
def State.unitSpoilt (s : State) (ws : List GWord) : State :=
  if (ws.take 2).any (fun w => w.isPoison || w.isAbort) then s
  else match itemUnit ws with
    | some u => s.covX u.1 u.2
    | none => s

/-- An item enters registration: an aborted one is dropped; a pattern item is checked; another is dropped where it has no epoch or holds a
POISON word (R177), and else it is the item in hand (R366, R417, R420). -/
def State.itemEnter (s : State) (g : GalleyId) (ws : List GWord) : State :=
  let hd := ((ws.getD 1 { data := 0 }).data).toNat
  let slot := hd % 64
  let stamp := ((ws.getD 0 { data := 0 }).data).toNat
  if (ws.getLast?.map (·.isAbort)).getD true || decide (ws.length < 2) then s.unitSpoilt ws
  else if hd.testBit 9 then s.patternCheck (if g.val < 8 then g.val else g.val - 8) ws
  else
    let t := if (ws.take 2).any (·.isPoison) then s else s.noteStamp slot stamp
    match t.itemEpoch slot stamp with
    | (none, s) => s
    | (some (num, own), s) =>
      if ws.any (·.isPoison) then (if own then s.unitSpoilt ws else s)
      else
        let s := if own then s.covD slot stamp else s
        s.setWork (some { num := num, words := ws.map (·.data) })

/-- Registration takes one item of a galley, once it has done with the item in hand (R362 to R366). -/
def State.regItem (s : State) (g : GalleyId) : State :=
  if !feedsRegistration g then s
  else
    let s := s.workOn
    if s.rgs.work.isSome || s.rgs.clear.isSome then s
    else
      match s.galTake g with
      | (none, s) => s
      | (some ws, s) => (s.itemEnter g ws).workOn

/-! ### Calibration tables (R379 to R382) -/

/-- Why a table is rejected: the lowest slot that fails and its cause (R381). -/
def State.calBad (s : State) (cal : List Byte) : Option (Nat × Nat) :=
  (List.range 60).findSome? (fun i =>
    let e := calEntry cal i
    let m := calModel e
    let dt (c : Nat) : Nat := s.getF (ING_CAM_VC.DT (c / 4) (c % 4))
    let pair := byteAt e 7
    let fits := match m with
      | 0 => true
      | 1 => decide (i < 32)
      | 2 => decide (i < 32)
      | 3 => decide (32 ≤ i) && decide (i < 48)
      | 4 => decide (48 ≤ i) && decide (i < 52)
      | 5 => decide (52 ≤ i) && decide (i < 54)
      | _ => false
    if m ≠ 0 ∧ byteAt e 2 = byteAt e 3 then some (i, 1)
    else if m ≠ 0 ∧ (15 < byteAt e 2 ∨ 15 < byteAt e 3) then some (i, 2)
    else if !fits then some (i, 3)
    else if m = 1 ∧ ¬ (0x30 ≤ dt i ∧ dt i ≤ 0x37) then some (i, 4)
    else if m = 2 ∧ ¬ calFlag e 0 ∧ dt i ≠ 0x24 then some (i, 5)
    else if m = 1 ∧ pair ≠ 0xFF ∧ (32 ≤ pair ∨ dt pair ≠ 0x24) then some (i, 5)
    else none)

/-- A calibration table begins to load: the whole of it is read (R380). A read that waits is made again when the load is to end; a table that
cannot be read leaves the one in force (log entry 10). -/
def State.calRead (s : State) : State :=
  match s.agentGet (s.reg RGS_CAL_BASE).toNat 15360 with
  | (.ok b, s) => s.setRgs { s.rgs with calLoad := some b }
  | (.held a op, s) => (s.ownAccess a op).2
  | (.bad a op, s) => ((s.ownAccess a op).2).setF RGS_CAL_CTRL.BUSY 0

/-- LOAD (R380); one more while a load runs is ignored (log entry 10). -/
def State.calLoad (s : State) : State :=
  if s.bitF RGS_CAL_CTRL.BUSY then s else (s.setF RGS_CAL_CTRL.BUSY 1).calRead

/-- The load ends with its checks (R380, R381). -/
def State.calLoadDone (s : State) : State :=
  let s := if s.bitF RGS_CAL_CTRL.BUSY && s.rgs.calLoad.isNone then s.calRead else s
  match s.rgs.calLoad with
  | none => s
  | some b =>
    let s := (s.setRgs { s.rgs with calLoad := none }).setF RGS_CAL_CTRL.BUSY 0
    match s.calBad b with
    | some (i, c) => ((s.setF RGS_CAL_CTRL.CAL_ERR 1).setF RGS_CAL_CTRL.ERR_SLOT i).setF RGS_CAL_CTRL.ERR_CAUSE c
    | none => (s.setRgs { s.rgs with calNext := some b }).setF RGS_CAL_CTRL.CAL_ERR 0

/-- What an epoch takes from registration at its opening: the table, the policies and the settings (R380, R382, R422). -/
def State.rgsOpen (s : State) : State :=
  let s := match s.rgs.calNext with
    | none => s
    | some b =>
      (s.setRgs { s.rgs with cal := b, calNext := none }).setF RGS_CAL_CTRL.LOADED_EPOCH ((s.epochs.head?.map EpochRec.num).getD 0)
  let s := s.reseedOpen
  match s.epochs with
  | [] => s
  | f :: fs =>
    { s with epochs := { f with cal := s.rgs.cal
                                policy := s.getF RGS_POLICY_LO.POLICY + 2 ^ 64 * s.getF RGS_POLICY_HI.POLICY
                                upd := s.reg RGS_UPDATE_CFG
                                motion := s.reg RGS_MOTION_CFG } :: fs }

/-! ### The known-answer item (R725) -/

/-- One point of the known-answer item in its brick. -/
def State.katPoint (s : State) (f : EpochRec) (e : List Byte) (key : Nat) (brick : List Byte) (a : Nat) : List Byte × State :=
  match scanPoint a with
  | none => (brick, s)
  | some q =>
    let p := extrinsic e q
    let o : V3 := (calT e 0, calT e 1, calT e 2)
    let x : Placed := { p := p, view := V3.of (fun i => o.at i - p.at i), org := o }
    let v := s.voxOf p
    let put (b : List Byte) (w : V3) (fn : List Byte → List Byte) : List Byte := voxPatch (voxByte w) fn b
    let r : List Byte × State :=
      if s.inGrid v && decide (voxKey v = key) then
        match s.hitOf e x.view none with
        | (h, s) => (put brick v (hitVoxel f.upd.toNat h), s)
      else (brick, s)
    ((((List.range (f.upd.toNat % 16)).filterMap (fun k => r.2.missTarget x (k + 1))).filter (fun w => decide (voxKey w = key))).foldl
      (fun b w => put b w (missVoxel f.upd.toNat (calInt e 6 1))) r.1, r.2)

/-- The known-answer item of an epoch is registered into a fresh brick (R725). -/
def State.katMake (s : State) (f : EpochRec) : Got Unit × State :=
  let base := s.getF GRD_KAT_ADDR.ADDR
  gotThen (s.agentGet base 320) fun r s =>
    let e := calEntry f.cal (leAt r 0 2)
    let n := if calModel e = 3 then min 16 (leAt r 2 2) else 0
    let out := (List.range n).foldl
      (fun (x : List Byte × State) i => x.2.katPoint f e (leAt r 4 4) x.1 (leAt r (64 + 16 * i) 8)) (newBrick, s)
    out.2.agentPut (base + 0x1000) out.1

/-- The known-answer item that is still to be registered is, unless an access waits. -/
def State.katOn (s : State) : State :=
  match s.rgs.kat.bind s.epochRec with
  | none => s
  | some f =>
    match s.stepEnd (s.katMake f) with
    | (false, s) => s
    | (true, s) => s.setRgs { s.rgs with kat := none }

/-- At each epoch opening registration registers the known-answer item (R725). -/
def State.katOpen (s : State) : State :=
  if !s.bitF GRD_CFG.KAT_EN || !s.bitF GRD_CFG.EN then s
  else
    match s.epochOpen with
    | none => s
    | some f => (s.setRgs { s.rgs with kat := some f.num }).katOn

/-! ### The seal (R390, R391, R396, R418) -/

/-- Epoch num is closed and its grace has passed (R396). -/
def State.sealDue (s : State) (f : EpochRec) : Bool :=
  !f.isSealed && (match f.closeAt with
    | none => false
    | some c => decide (c + usTicks (s.getF RGS_CLOSE_CFG.GRACE_US) ≤ s.dtl.count))

/-- Items of a slot stamped in an epoch have still to enter registration (R587). -/
def State.heldItems (s : State) (f : EpochRec) (slot : Nat) : Bool := s.itemHeld slot f.holds

/-- A slot has delivered for an epoch (R587, Table RUN-1). -/
def State.delivered (s : State) (f : EpochRec) (slot : Nat) : Bool :=
  let timed := decide (32 ≤ slot) && decide (slot < 48) && decide (s.tplWord (slot - 32) 3 % 4 = 1 ∨ s.tplWord (slot - 32) 3 % 4 = 2)
  match f.closeAt with
  | none => false
  | some c =>
    if timed then decide (c ≤ tabGet 0 s.rgs.latest slot) && tabHas s.rgs.latest slot
    else f.isSealed && !s.heldItems f slot

/-- The HOLD sensors that are enabled. -/
def State.holdSlots (s : State) : List Nat := (List.range 54).filter (fun i => s.slotOn i && decide (s.policyOf i = 2))

/-- An epoch may be finalised (R418): at its seal where no HOLD sensor is enabled; else when every HOLD sensor has delivered, or after the hold
time and no earlier than its seal, whichever comes first. -/
def State.finalDue (s : State) (f : EpochRec) : Bool :=
  !f.closed && (match f.closeAt with
    | none => false
    | some c =>
      let hs := s.holdSlots
      if hs.isEmpty then f.isSealed
      else
        hs.all (fun i => tabHas s.rgs.latest i && decide (c ≤ tabGet 0 s.rgs.latest i)) ||
        (f.isSealed && decide (c + min (usTicks (s.getF RGS_CLOSE_CFG.HOLD_US)) (usTicks (s.getF DTL_EPOCH_CFG.PERIOD_US) / 2) ≤ s.dtl.count)))

/-- Seal epoch num (R390, R391, R396, R597). -/
def State.epochSeal (s : State) (num : Nat) : State :=
  match s.epochRec num with
  | none => s
  | some f =>
    if !s.sealDue f then s
    else
      let s := ((s.epochSet num (fun x => { x with isSealed := true })).poolSeal).sweepAt num
      s.epochSet num (fun x => { x with waited := !(f.closed || s.finalDue { f with isSealed := true }) })

/-! ### Meanings -/

/-- REG_ITEM (R362). -/
def execRegItem (t : Tick) (g : GalleyId) (s : State) : Result := s.live (((s.at t).camsSettle.regItem g).planeHeads)

/-- What registration does in the background: the directory that GRID_EN empties, the item in hand, guard copies on their way out, the sweep,
the known-answer item and the headers of frames that have ended. -/
def State.regOn (s : State) : State :=
  let s := s.clearOn.workOn
  ((s.guardFreeing s.rgs.freeing.length).sweepOn.katOn).planeHeads

/-- CAL_LOAD (R380). -/
def execCalLoad (s : State) : Result := s.host s.calLoad

/-- CAL_LOAD_DONE (R380, R381). -/
def execCalLoadDone (s : State) : Result := s.live s.calLoadDone

/-- GRID_ENABLE (R422). -/
def execGridEnable (s : State) : Result := s.host s.gridEnable

end Sys2Proof.Machine
end

