-- ==== Sys2Proof/Machine/Launch.lean ====
section
/-!
DEFINITION. Launches and the presses that hold them: status codes, exception records, stops, and what a bus address means
to a unit under proxy (R466 to R472, R653).
-/

namespace Sys2Proof.Machine

/-! ### Status codes (Table HST-6) -/

def stOk : Nat := 0x00
def stDuplicate : Nat := 0x01
def stBadOpcode : Nat := 0x02
def stBadAlign : Nat := 0x03
def stOverlap : Nat := 0x04
def stScreenAlias : Nat := 0x05
def stDeterminism : Nat := 0x06
def stNoFolio : Nat := 0x07
def stPreempted : Nat := 0x08
def stProvisional : Nat := 0x09
def stConfirmed : Nat := 0x0A
def stRetracted : Nat := 0x0B
def stPoison : Nat := 0x0C
def stInvalid : Nat := 0x0D
def stDeadline : Nat := 0x0E
def stDegraded : Nat := 0x0F
def stPartition : Nat := 0x10
def stRemoteDown : Nat := 0x11
def stFlushed : Nat := 0x12
def stTimeout : Nat := 0x13

/-- The status and DETAIL under which a stock answer completes work; none where the access was performed or waits. -/
def stkFail (a : StkStatus) : Option (Nat × Nat) :=
  match a with
  | .ok => none
  | .wait => none
  | .poison => some (stPoison, 0)
  | .denied u => some (stPartition, u)
  | .down u => some (stRemoteDown, u)

/-! ### Exception causes (Table PRS-8) -/

def exIllegal : Nat := 0x01
def exBankRange : Nat := 0x02
def exAlign : Nat := 0x03
def exTrap : Nat := 0x06
def exPoison : Nat := 0x10
def exPartition : Nat := 0x11
def exRemote : Nat := 0x12
def exDeterminism : Nat := 0x13
def exStop : Nat := 0x14

/-- The completion of a precise cause that is not handled (Table PRS-8). -/
def preciseStop (cause : Nat) : Stop := { status := if cause = exAlign then stBadAlign else stBadOpcode, detail := 8 }

/-! ### Presses and launches -/

/-- Press n. -/
def State.press (s : State) (n : Press) : PressSt := s.presses[n]

/-- Replace press n. -/
def State.setPress (s : State) (n : Press) (x : PressSt) : State := { s with presses := s.presses.set n x }

/-- Change press n. -/
def State.modPress (s : State) (n : Press) (f : PressSt → PressSt) : State := s.setPress n (f (s.press n))

/-- A press by number; numbers of the model are below 16. -/
def pressOf (n : Nat) : Press := ⟨n % 16, Nat.mod_lt _ (by decide)⟩

/-- The launch of a ring and tag. -/
def State.launch (s : State) (key : Nat × Nat) : Option Launch :=
  s.launches.find? (fun l => decide ((l.ring, l.tag) = key))

/-- The launch that holds press n. -/
def State.launchOn (s : State) (n : Press) : Option Launch := (s.press n).launch.bind s.launch

/-- Change the launch of a ring and tag. -/
def State.modLaunch (s : State) (key : Nat × Nat) (f : Launch → Launch) : State :=
  { s with launches := s.launches.map (fun l => if (l.ring, l.tag) = key then f l else l) }

/-- The key of a launch. -/
def Launch.key (l : Launch) : Nat × Nat := (l.ring, l.tag)

/-- The press may issue slugs: its launch runs and it has not met END. -/
def PressSt.issues (p : PressSt) : Bool := (p.mode = .running || p.mode = .handler) && !p.ended

/-- Record an exception in PRS_EXC_n and PRS_EXC_ADDR_n (R469, R473). -/
def State.excRecord (s : State) (n : Press) (cause slug slot addr : Nat) : State :=
  let s := s.setF (PRS_EXC.CAUSE n.val) cause
  let s := s.setF (PRS_EXC.SLUG n.val) slug
  let s := s.setF (PRS_EXC.SLOT n.val) slot
  let s := s.incSat (PRS_EXC.COUNT n.val)
  s.setF (PRS_EXC_ADDR.ADDR n.val) addr

/-- The Bank once its streams are abandoned: what they have written so far is undefined (R471, R483; log entry 21). -/
def PressSt.bankCut (p : PressSt) (gen : Nat) : Mem :=
  (p.streams.flatMap (·.wrote)).foldl (fun m e => m.lose e.1 e.2 gen) p.bank

/-- A press that stops: it starts nothing more, its store buffer still drains, and its streams are abandoned (R471). -/
def PressSt.halt (p : PressSt) (gen : Nat) : PressSt :=
  if p.mode = .idle then p
  else { p with mode := .stopping, bank := p.bankCut gen, streams := [], fence := none, settle := false, stopAt := none }

/-- A press whose launch an exception of another press has ended in cycle c: it still has its own cycle c (R471, R472). -/
def PressSt.haltAt (p : PressSt) (gen c : Nat) : PressSt :=
  if p.issues && decide (p.cycle < c) then { p with stopAt := some (min c (p.stopAt.getD c)) } else p.halt gen

/-- Of two causes, the one of the earlier cycle decides, and in one cycle the one on the press with the lower number (R472). -/
def Stop.before (x y : Stop) : Bool :=
  match x.raised, y.raised with
  | some a, some b => decide (a.1 < b.1) || (decide (a.1 = b.1) && decide (a.2 < b.2))
  | _, _ => false

/-- A stop cause, or an exception that ends the launch, stops it on every press it holds; the first cause decides its status
(R471, R472). -/
def State.stopLaunch (s : State) (key : Nat × Nat) (st : Stop) : State :=
  match s.launch key with
  | none => s
  | some l =>
    if !l.started || l.done then s
    else
      let s := s.modLaunch key (fun l =>
        match l.stop with
        | none => { l with stop := some st }
        | some old => if st.before old then { l with stop := some st } else l)
      (l.presses.foldl (fun s p => s.modPress (pressOf p.1) (fun x =>
        match st.raised with
        | some (c, n) => if p.1 = n then x.halt s.free else x.haltAt s.free c
        | none => x.halt s.free)) s).bumpFree

/-- A launch stopped from outside: each press it holds records the cause STOP (Table PRS-8). -/
def State.stopLaunchBy (s : State) (key : Nat × Nat) (st : Stop) : State :=
  match s.launch key with
  | none => s
  | some l =>
    if !l.started || l.done || l.stop.isSome then s
    else
      let s := l.presses.foldl (fun s p => s.excRecord (pressOf p.1) exStop (s.press (pressOf p.1)).pc 7 0) s
      s.stopLaunch key st

/-- A stop exception of press n: it is recorded, and its launch stops; one raised in the handler leaves the status to the
cause that entered it (R470 to R472). -/
def State.stopExc (s : State) (n : Press) (cause slot addr : Nat) (st : Stop) : State :=
  let p := s.press n
  let s := s.excRecord n cause p.pc slot addr
  match p.launch with
  | none => s
  | some key => s.stopLaunch key { (match p.handled with | some c => preciseStop c | none => st) with raised := some (p.cycle, n.val) }

/-- What a failed stock access of press n raises (Table PRS-8). -/
def State.stkExc (s : State) (n : Press) (slot addr : Nat) (a : StkStatus) : State :=
  match a with
  | .poison => s.stopExc n exPoison slot addr { status := stPoison }
  | .denied u => s.stopExc n exPartition slot addr { status := stPartition, detail := u }
  | .down u => s.stopExc n exRemote slot addr { status := stRemoteDown, detail := u }
  | _ => s

/-! ### The output region (R158, R169, R471; log entry 50) -/

/-- A launch has stored n bytes at an address: kept where they lie in its output region, which begins at OUT_ADDR. -/
def State.noteOut (s : State) (key : Nat × Nat) (a n : Nat) : State :=
  s.modLaunch key (fun l =>
    if decide (a / 2 ^ 58 = l.out / 2 ^ 58) && decide (l.out < a + n) && !l.wrote.contains (a, n) then { l with wrote := (a, n) :: l.wrote } else l)

/-- Stored bytes of this unit become undefined. -/
def State.loseStored (s : State) (a n : Nat) : State :=
  let off := stkOff a
  if stkUnit a ≠ s.unit then s
  else
    match stkTier a with
    | 0 => s.setStk { s.stk with dram := s.stk.dram.lose off n s.free }
    | 1 => s.setStk { s.stk with cache := s.stk.cache.lose off n s.free, flash := s.stk.flash.lose off n s.free }
    | _ => s.setBus { s.bus with hostMem := s.bus.hostMem.lose off n s.free }

/-- The output region of a stopped launch is undefined. -/
def State.loseOut (s : State) (l : Launch) : State := (l.wrote.foldl (fun s w => s.loseStored w.1 w.2) s).bumpFree

/-! ### Guard pairs (R710, R712) -/

/-- The pair that press n belongs to in a running guard launch: its number and whether n is the SHADOW. -/
def State.pairOf (s : State) (n : Nat) : Option (Fin 4 × Bool) :=
  (List.finRange 4).findSome? (fun k =>
    if !s.bitF (GRD_PAIR.EN k.val) then none
    else if s.getF (GRD_PAIR.PRIMARY k.val) = n then some (k, false)
    else if s.getF (GRD_PAIR.SHADOW k.val) = n then some (k, true)
    else none)

/-! ### Bus addresses (R653) -/

/-- Read host memory at a bus address; under proxy it is a stock address. -/
def State.busRead (s : State) (r cls addr n : Nat) : StkAns × State :=
  if s.bitF CHN_CFG.MASTER then s.stkDo { src := s.unit, agent := agentRing r, cls := cls, op := .read n, addr := addr }
  else ({ data := s.bus.hostMem.read addr n }, s)

/-- Write host memory at a bus address; under proxy it is a stock address. -/
def State.busWrite (s : State) (r cls addr : Nat) (bs : List Byte) : StkAns × State :=
  if s.bitF CHN_CFG.MASTER then s.stkDo { src := s.unit, agent := agentRing r, cls := cls, op := .write bs, addr := addr }
  else ({}, s.setBus { s.bus with hostMem := s.bus.hostMem.write addr bs })

/-! ### Rings and their results (R136, R153, R155) -/

/-- Ring r. -/
def State.ring (s : State) (r : Ring) : Ring64 := s.rings[r]

/-- Replace ring r. -/
def State.setRing (s : State) (r : Ring) (x : Ring64) : State := { s with rings := s.rings.set r x }

/-- A ring by number. -/
def ringOf (n : Nat) : Ring := ⟨n % 64, Nat.mod_lt _ (by decide)⟩

/-- The descriptor in flight with a tag whose final result is not posted yet. -/
def State.flight (s : State) (r : Ring) (tag : Nat) : Option Flight :=
  (s.ring r).flights.find? (fun f => decide (f.tag = tag) && !f.done)

/-- Post a result: it waits to be written to the completion queue. A final one ends its descriptor's work. A result whose
descriptor was lost with its ring's state is not written (Table MKR-1). -/
def State.post (s : State) (r : Ring) (c : Compl) : State :=
  let x := s.ring r
  if !x.flights.any (fun f => decide (f.tag = c.tag) && !f.done) then s else
  let now := x.flights.any (fun f => decide (f.tag = c.tag) && !f.done && decide (byteAt f.desc 1 / 2 % 2 = 1))
  s.setRing r { x with
    results := x.results ++ [{ c with irqNow := now }]
    flights := if c.final then x.flights.map (fun f => if f.tag = c.tag && !f.done then { f with done := true } else f) else x.flights }

end Sys2Proof.Machine
end

