-- ==== Sys2Proof/Machine/RunAhead.lean ====
section
/-!
DEFINITION. Run-ahead (R585 to R608): profiles, provisional identities, dependency sets, and the decisions that confirm or retract
launches and the lines they wrote.
-/

namespace Sys2Proof.Machine

/-! ### Profiles (R585, R586) -/

/-- The profile of a ring. -/
def State.profileOf (s : State) (ring : Nat) : Nat := bitsOf (s.reg (RUN_RING_SEL (ring / 16))).toNat (4 * (ring % 16) + 2) (4 * (ring % 16))

/-- A brick key lies in the region of interest of profile k. -/
def State.inRoi (s : State) (k key : Nat) : Bool :=
  let x := key % 512
  let y := key / 512 % 512
  let z := key / 2 ^ 18 % 512
  s.bitF (RUN_ROI_MIN.ROI_ALL k) ||
  (decide (s.getF (RUN_ROI_MIN.BX k) ≤ x ∧ x ≤ s.getF (RUN_ROI_MAX.BX k)) &&
   decide (s.getF (RUN_ROI_MIN.BY k) ≤ y ∧ y ≤ s.getF (RUN_ROI_MAX.BY k)) &&
   decide (s.getF (RUN_ROI_MIN.BZ k) ≤ z ∧ z ≤ s.getF (RUN_ROI_MAX.BZ k)))

/-- LATE_ROI of an epoch for a profile (R597). -/
def State.lateRoi (s : State) (k : Nat) (f : EpochRec) : Nat := f.dirty.countP (fun e => e.2 && s.inRoi k e.1)

/-! ### Provisional identities (R590, R603) -/

/-- Replace what run-ahead keeps. -/
def State.setRun (s : State) (x : Run) : State := { s with run := x }

/-- The lowest free identity. -/
def State.freePid (s : State) : Option Nat := (List.range 64).find? (fun p => !tabHas s.run.pids p)

/-- A launch takes an identity, unless it has one. -/
def State.takePid (s : State) (key : Nat × Nat) : Option State :=
  match s.launch key with
  | none => none
  | some l =>
    match l.pid with
    | some _ => some s
    | none =>
      match s.freePid with
      | none => none
      | some p => some ((s.setRun { s.run with pids := tabSet s.run.pids p key }).modLaunch key (fun l => { l with pid := some p }))

/-- Identities whose launch is decided and whose final entry is written are free again (R603). -/
def State.pidSweep (s : State) : State :=
  s.setRun { s.run with pids := s.run.pids.filter (fun e =>
    (s.launch e.2).isSome || (s.ring (ringOf e.2.1)).flights.any (fun f => decide (f.tag = e.2.2))) }

/-- The provisional bit of a launch that has one: its owner tag for stock stores (R488, R591). -/
def State.ownerOf (s : State) (l : Launch) : Option (Nat × Nat) := if l.prov then l.pid.map (fun p => (s.unit, p)) else none

/-! ### Final entries (R153, R606, R607) -/

/-- The final result of a launch outside the GUARD class. -/
def Launch.finalEntry (l : Launch) : Compl :=
  let base : Compl := { tag := l.tag, slot := l.slot, status := stOk, prov := l.wasProv, epoch := some l.epoch }
  if l.verdict = some false then { base with status := stRetracted, detail := l.late }
  else
    match l.stop with
    | some st => { base with status := st.status, detail := st.detail }
    | none => if l.wasProv then { base with status := stConfirmed, result := l.result, detail := l.late } else { base with result := l.result }

/-- Launches whose final entry is written, and which no decision concerns any more, are forgotten (R541, R603). -/
def State.launchSweep (s : State) : State :=
  ({ s with launches := s.launches.filter (fun l =>
      !l.posted || (l.started && !l.done) || (l.prov && l.verdict.isNone) ||
      (s.ring (ringOf l.ring)).flights.any (fun f => decide (f.tag = l.tag))) }).pidSweep

/-- Post what a launch that has run now owes its ring. A provisional launch that
another cause ended posts its final entry at once (log entry 20). -/
def State.settleLaunch (s : State) (key : Nat × Nat) : State :=
  match s.launch key with
  | none => s
  | some l =>
    let r := ringOf l.ring
    if !l.done then s
    else if l.cls = 0 then s.launchSweep
    else
      let open_ := l.prov && l.verdict.isNone
      let s :=
        if l.posted then s
        else if !open_ || l.stop.isSome then (s.post r l.finalEntry).modLaunch key (fun l => { l with posted := true })
        else if s.bitF (HST_RING_CFG.PREVIEW l.ring) && !l.previewed then
          (s.post r { tag := l.tag, slot := l.slot, status := stProvisional, final := false, prov := true, epoch := some l.epoch,
                      result := l.result }).modLaunch key (fun l => { l with previewed := true })
        else s
      s.launchSweep

/-! ### Decisions (R597 to R602) -/

/-- The announcement of a decision over the chain (R599; log entry 13). -/
def State.sayDecision (s : State) (l : Launch) (confirm : Bool) (late : Nat) : State :=
  match l.pid with
  | none => s
  | some p =>
    if s.bitF MKR_STATUS.STANDALONE then s
    else s.broadcast { op := opDecision, src := s.unit, dst := 15, pid := p, stat := confirm.toNat, unaddr := true,
                       inline := leBytes 4 late ++ List.replicate 28 0 }

/-- Retract one launch: by its own epoch's decision, or through a dependency. -/
def State.retractOne (s : State) (l : Launch) (dep : Bool) (late : Nat) : State :=
  let s := s.modLaunch l.key (fun l => { l with verdict := some false, late := late, deps := [] })
  let s := s.incSat (if dep then RUN_STAT.DEP_RETRACTS else RUN_STAT.RETRACTS)
  let s := s.stopLaunchBy l.key { status := stRetracted, detail := late }
  (s.sayDecision l false late).settleLaunch l.key

/-- Retracted identities poison their lines and retract the launches that depend on them, in turn (R598, R602). -/
def State.retractPids (s : State) (late : Nat) : Nat → List (Nat × Nat) → State
  | 0, _ => s
  | _, [] => s
  | n + 1, o :: os =>
    let s := s.pptPoison o.1 o.2
    let ls := s.launches.filter (fun l => l.deps.contains o && l.verdict.isNone)
    let s := ls.foldl (fun s l => s.retractOne l true late) s
    s.retractPids late n (os ++ ls.filterMap (fun l => l.pid.map (fun p => (s.unit, p))))

/-- Retract identities and everything that depends on them. -/
def State.retract (s : State) (late : Nat) (os : List (Nat × Nat)) : State :=
  s.retractPids late (os.length + s.launches.length + 1) os

/-- Confirmed identities leave every dependency set. -/
def State.dropDeps (s : State) (os : List (Nat × Nat)) : State :=
  { s with launches := s.launches.map (fun l => { l with deps := l.deps.filter (fun o => !os.contains o) }) }

/-- The undecided launches whose own decision is not missing, less those that depend on an identity outside the list, taken
until nothing changes. -/
def confirmable (unit : Nat) : Nat → List Launch → List Launch
  | 0, c => c
  | n + 1, c =>
    confirmable unit n (c.filter (fun l => l.deps.all (fun o => decide (o.1 = unit) && c.any (fun x => decide (x.pid = some o.2)))))

/-- Confirm every launch that nothing undecided holds any more (R598, R601; log entry 20). -/
def State.confirmSweep (s : State) (late : Nat) : State :=
  let cand := s.launches.filter (fun l => l.prov && l.verdict.isNone && (!l.provStart || l.ownDone))
  let ok := confirmable s.unit (cand.length + 1) cand
  let pids := ok.filterMap (fun l => l.pid.map (fun p => (s.unit, p)))
  let s := s.dropDeps pids
  ok.foldl (fun s l =>
    let s := s.modLaunch l.key (fun l => { l with verdict := some true, late := late, prov := false, deps := [] })
    let s := s.incSat RUN_STAT.CONFIRMS
    let s := match l.pid with | some p => s.pptFree s.unit p | none => s
    (s.sayDecision l true late).settleLaunch l.key) s

/-- Decide one profile for a finalised epoch (R597). -/
def State.decideProfile (s : State) (f : EpochRec) (k : Nat) : State :=
  if !s.bitF (RUN_CFG.EN k) then s
  else
    let late := s.lateRoi k f
    let bad := decide (s.getF (RUN_CFG.THRESHOLD k) < late)
    let s := ((s.setF (RUN_LAST.EPOCH k) f.num).setF (RUN_LAST.LATE_ROI k) late).setF (RUN_LAST.RETRACT k) bad.toNat
    let mine := s.launches.filter (fun l => l.provStart && !l.ownDone && decide (l.epoch = f.num) && decide (s.profileOf l.ring = k))
    let s := mine.foldl (fun s l => s.modLaunch l.key (fun l => { l with ownDone := true })) s
    if bad then
      let live := mine.filter (fun l => l.verdict.isNone)
      let s := live.foldl (fun s l => s.retractOne l false late) s
      s.retract late (live.filterMap (fun l => l.pid.map (fun p => (s.unit, p))))
    else s.confirmSweep late

/-- The decisions at the finalisation of an epoch that waited beyond its seal (R597). -/
def State.decideEpoch (s : State) (f : EpochRec) : State :=
  if !f.waited then s else (List.range 8).foldl (fun s k => s.decideProfile f k) s

/-- A decision of another unit reaches this one (R599, R601, R602). -/
def State.remoteDecision (s : State) (u pid : Nat) (confirm : Bool) (late : Nat) : State :=
  if confirm then
    let s := s.pptFree u pid
    let s := s.dropDeps [(u, pid)]
    s.confirmSweep late
  else s.retract late [(u, pid)]

/-- The owner of undecided identities has become unreachable: they count as retracted (R600). -/
def State.pidOwnerLost (s : State) (u : Nat) : State :=
  let os := (((s.stk.ppt.filter (fun e => decide (e.2.unit = u))).map (fun e => (e.2.unit, e.2.pid))) ++
    (s.launches.flatMap (·.deps)).filter (fun o => decide (o.1 = u))).eraseDups
  if u = s.unit then s else s.retract 0xFFFFFFFF os

/-! ### Reading provisional lines (R488, R590, R594) -/

/-- A launch takes identities into its dependency set: none when a ninth would join, or when it needs an identity of its own and
none is free; the counter says which wait it is. -/
def State.takeDeps (s : State) (key : Nat × Nat) (ds : List (Nat × Nat)) : State ⊕ Fld :=
  match s.launch key with
  | none => .inl s
  | some l =>
    let all := (l.deps ++ ds.filter (fun d => some d ≠ s.ownerOf l)).eraseDups
    if all = l.deps then .inl s
    else if 8 < all.length then .inr RUN_WAIT.DEP_WAIT
    else
      match s.takePid key with
      | none => .inr RUN_WAIT.PID_WAIT
      | some s => .inl (s.modLaunch key (fun l => { l with deps := all, prov := true, wasProv := true, verdict := none }))

/-- DECISION (R599): a decision of another unit arrives. -/
def execDecision (u : UnitId) (pid : Nat) (confirm : Bool) (lateRoi : Nat) (s : State) : Result :=
  s.live (if u.val = s.unit then s else s.remoteDecision u.val pid confirm lateRoi)

end Sys2Proof.Machine
end

