-- ==== Sys2Proof/Machine/Epochs.lean ====
section
/-!
DEFINITION. The stages of an epoch: its opening, its seal and its finalisation (R266, R267, R354, R357, R396, R410, R418, R419, R597, R720,
R725).
-/

namespace Sys2Proof.Machine

/-- An epoch opens when the epoch clock has reached its opening time (R266): the epoch before it closes, coverage and registration take
their settings, and the known-answer item is registered. -/
def State.epochOpenDue (s : State) : State :=
  if s.bitF DTL_EPOCH_CFG.EN && decide (s.epochTime s.dtl.epochK ≤ s.time) then s.epochOpenNext.covOpen.rgsOpen.katOpen else s

/-- An epoch is sealed; with the guard controller on, the press time slot opens (R396, R720, R732). -/
def State.epochSealDue (s : State) (e : Nat) : State :=
  let due := match s.epochRec e with | some f => s.sealDue f | none => false
  let s := s.epochSeal e
  if due && s.bitF GRD_CFG.EN then s.setGrd { s.grd with slot := true } else s

/-- The coverage record of an epoch, which is written before any completion for it (R357). -/
def State.covRecord (s : State) (f : EpochRec) : Got Unit × State :=
  if !s.bitF ING_COV_CFG.EN then (.ok (), s)
  else
    gotThen (s.agentTry ((s.reg ING_COV_BASE).toNat + 1024 * (f.num % 2 ^ s.getF ING_COV_CFG.LOG2)) f.record) fun _ s =>
      (.ok (), s.setF ING_COV_LAST.LAST f.num)

/-- An epoch is finalised: its coverage becomes final, the records are written, it reaches CLOSED, and the profiles decide (R354, R357, R418,
R419, R597). While a record's write waits, nothing has happened yet. -/
def State.epochFinalise (s : State) (e : Nat) : State :=
  match s.epochRec e with
  | none => s
  | some f =>
    if !s.finalDue f then s
    else
      let t := s.covFinal e
      match s.stepEnd (gotThen (t.covRecord ((t.epochRec e).getD f)) fun _ t => t.formeFinal f) with
      | (false, s) => s
      | (true, t) =>
        let t := t.epochSet e (fun x => { x with closed := true, finalAt := some t.dtl.count })
        t.decideEpoch ((t.epochRec e).getD f)

/-- EPOCH_OPEN (R266). -/
def execEpochOpen (t : Tick) (s : State) : Result := s.live (s.at t).epochOpenDue

/-- EPOCH_SEAL (R396). -/
def execEpochSeal (t : Tick) (e : Nat) (s : State) : Result := s.live ((s.at t).camsSettle.epochSealDue e)

/-- EPOCH_FINALISE (R418). -/
def execEpochFinalise (t : Tick) (e : Nat) (s : State) : Result := s.live ((s.at t).camsSettle.epochFinalise e)

end Sys2Proof.Machine
end

