-- ==== Sys2Proof/Machine/Float.lean ====
section
/-!
DEFINITION. FP32 and BF16 arithmetic (R448, R455 to R457, R504): exact results as a whole number times a power of two, one
rounding to nearest even, subnormal inputs and results as zero of the same sign, and one canonical NaN. What the text
leaves open is in log entry 14.
-/

namespace Sys2Proof.Machine

/-- What an FP32 word stands for. -/
inductive FVal where
  | nan
  | inf (neg : Bool)
  | fin (neg : Bool) (mant : Nat) (exp : Int)
  deriving DecidableEq, Repr

/-- The canonical NaN (R448). -/
def fNan : U32 := 0x7FC00000

/-- An infinity. -/
def fInf (neg : Bool) : U32 := if neg then 0xFF800000 else 0x7F800000

/-- A zero. -/
def fZero (neg : Bool) : U32 := if neg then 0x80000000 else 0

/-- Read an FP32 word; a subnormal reads as zero of the same sign (R448). -/
def fRead (b : U32) : FVal :=
  let neg := b.msb
  let e : Nat := b.toNat / 2 ^ 23 % 256
  let m : Nat := b.toNat % 2 ^ 23
  if e = 255 then (if m = 0 then .inf neg else .nan)
  else if e = 0 then .fin neg 0 0
  else .fin neg (m + 2 ^ 23) ((e : Int) - 150)

/-- The number of bits of a natural number, by fuel. -/
def bitLen (n : Nat) : Nat := if n = 0 then 0 else Nat.log2 n + 1

/-- m × 2^e to a whole multiple of 2^q, to nearest even. -/
def roundEven (m : Nat) (e q : Int) : Nat :=
  if q ≤ e then m * 2 ^ (e - q).toNat
  else
    let d := 2 ^ (q - e).toNat
    let r := m % d
    let f := m / d
    if 2 * r < d then f else if d < 2 * r then f + 1 else f + f % 2

/-- The FP32 word of (−1)^neg × m × 2^e, rounded once to nearest even; a subnormal result is zero (R448). -/
def fRound (neg : Bool) (m : Nat) (e : Int) : U32 :=
  if m = 0 then fZero neg
  else
    let q := max ((bitLen m : Int) + e - 24) (-149)
    let r := roundEven m e q
    let (r, q) := if r = 2 ^ 24 then (2 ^ 23, q + 1) else (r, q)
    if r < 2 ^ 23 then fZero neg
    else if 104 < q then fInf neg
    else BitVec.ofNat 32 ((if neg then 2 ^ 31 else 0) + (q + 150).toNat * 2 ^ 23 + (r - 2 ^ 23))

/-- A signed whole number times 2^e as FP32; z is the sign of a zero result. -/
def fOfInt (v : Int) (e : Int) (z : Bool := false) : U32 :=
  if v = 0 then fZero z else fRound (decide (v < 0)) v.natAbs e

/-- A finite value as a signed whole number. -/
def fSigned (neg : Bool) (m : Nat) : Int := if neg then -(m : Int) else m

/-- The sum of two finite values. -/
def finAdd (n1 : Bool) (m1 : Nat) (e1 : Int) (n2 : Bool) (m2 : Nat) (e2 : Int) : U32 :=
  let e := min e1 e2
  let v := fSigned n1 m1 * 2 ^ (e1 - e).toNat + fSigned n2 m2 * 2 ^ (e2 - e).toNat
  fOfInt v e (decide (m1 = 0) && decide (m2 = 0) && n1 && n2)

/-- Add two values. -/
def valAdd : FVal → FVal → U32
  | .nan, _ => fNan
  | _, .nan => fNan
  | .inf a, .inf b => if a = b then fInf a else fNan
  | .inf a, .fin .. => fInf a
  | .fin .., .inf b => fInf b
  | .fin n1 m1 e1, .fin n2 m2 e2 => finAdd n1 m1 e1 n2 m2 e2

/-- The exact product of two values. -/
def valMul : FVal → FVal → FVal
  | .nan, _ => .nan
  | _, .nan => .nan
  | .inf a, .inf b => .inf (a ^^ b)
  | .inf a, .fin b m _ => if m = 0 then .nan else .inf (a ^^ b)
  | .fin a m _, .inf b => if m = 0 then .nan else .inf (a ^^ b)
  | .fin a m e, .fin b m' e' => .fin (a ^^ b) (m * m') (e + e')

/-- The value with its sign turned. -/
def valNeg : FVal → FVal
  | .nan => .nan
  | .inf a => .inf (!a)
  | .fin a m e => .fin (!a) m e

/-- Round a value to FP32. -/
def valRound : FVal → U32
  | .nan => fNan
  | .inf a => fInf a
  | .fin a m e => fRound a m e

/-- FP32 addition. -/
def fAdd (a b : U32) : U32 := valAdd (fRead a) (fRead b)

/-- FP32 subtraction. -/
def fSub (a b : U32) : U32 := valAdd (fRead a) (valNeg (fRead b))

/-- FP32 multiplication. -/
def fMul (a b : U32) : U32 := valRound (valMul (fRead a) (fRead b))

/-- FP32 a × b + c with one rounding. -/
def fFma (a b c : U32) : U32 := valAdd (valMul (fRead a) (fRead b)) (fRead c)

/-- a is less than b, for values that are not NaN. -/
def valLt : FVal → FVal → Bool
  | .inf a, .inf b => a && !b
  | .inf a, .fin .. => a
  | .fin .., .inf b => !b
  | .fin n1 m1 e1, .fin n2 m2 e2 =>
    let e := min e1 e2
    decide (fSigned n1 m1 * 2 ^ (e1 - e).toNat < fSigned n2 m2 * 2 ^ (e2 - e).toNat)
  | _, _ => false

/-- The larger (up) or the smaller of two FP32 words. With a NaN operand, or with two zeros of different sign, the text
does not say which operand the result is: Config.pickSecond answers (log entry 14). -/
def fPick (up : Bool) (a b : U32) : U32 :=
  let x := fRead a
  let y := fRead b
  let free := if Config.pickSecond a b then y else x
  let r :=
    match x, y with
    | .nan, .nan => .nan
    | .nan, _ => free
    | _, .nan => free
    | .fin n1 0 _, .fin n2 0 _ => if n1 = n2 then x else free
    | _, _ => if valLt x y = up then y else x
  valRound r

/-- FMAX and FMIN. -/
def fMax (a b : U32) : U32 := fPick true a b
def fMin (a b : U32) : U32 := fPick false a b

/-! ### BF16 (R450, R455) -/

/-- A BF16 element widened to FP32; a subnormal reads as zero (R448). -/
def bfRead (h : Nat) : U32 :=
  let w : U32 := BitVec.ofNat 32 (h % 65536 * 65536)
  valRound (fRead w)

/-- The BF16 half of a nearest-even or stochastic conversion of an FP32 word: r is none, or the lane's random value added to
the 16 discarded bits (R455). -/
def bfOf (w : U32) (r : Option Nat) : Nat :=
  match fRead w with
  | .nan => 0x7FC0
  | .inf neg => if neg then 0xFF80 else 0x7F80
  | .fin neg m _ =>
    if m = 0 then (if neg then 0x8000 else 0)
    else
      let lo := w.toNat % 65536
      let hi := w.toNat / 65536
      match r with
      | none => if lo < 0x8000 then hi else if 0x8000 < lo then hi + 1 else hi + hi % 2
      | some r => hi + (lo + r) / 65536

/-- An operation on both BF16 elements of a lane: each result is formed in FP32 and converted under R455. -/
def bfPair (r : Option Nat) (f : U32 → U32 → U32 → U32) (a b c : U32) : U32 :=
  let half (k : Nat) : Nat := bfOf (f (bfRead (a.toNat / k)) (bfRead (b.toNat / k)) (bfRead (c.toNat / k))) r
  BitVec.ofNat 32 (half 1 + 65536 * half 65536)

/-! ### exp and log (R456) -/

/-- ln 2 × 2^64, rounded. -/
def ln2Fix : Int := 12786308645202655660

/-- n terms of the series of e^r in 2^-64 units, from term k on. -/
def expSeries (r : Int) : Nat → Nat → Int → Int
  | 0, _, t => t
  | n + 1, k, t => t + expSeries r n (k + 1) (t * r / 2 ^ 64 / (k + 1))

/-- n terms of the series of artanh z in 2^-64 units: p holds the power of z. -/
def artanhSeries (z2 : Int) : Nat → Nat → Int → Int
  | 0, _, _ => 0
  | n + 1, k, p => p / (2 * k + 1) + artanhSeries z2 n (k + 1) (p * z2 / 2 ^ 64)

/-- A finite value in 2^-64 units, rounded down. -/
def toFix (neg : Bool) (m : Nat) (e : Int) : Int :=
  let v := fSigned neg m
  if -64 ≤ e then v * 2 ^ (e + 64).toNat else v / 2 ^ (-64 - e).toNat

/-- The place of an FP32 word among the finite words in rising order; both zeros are at 0. -/
def fPlace (w : U32) : Int := if w.msb then -((w.toNat % 2 ^ 31 : Nat) : Int) else w.toNat

/-- The word at a place; a subnormal is zero. -/
def fAtPlace (p : Int) : U32 :=
  let w : U32 := BitVec.ofNat 32 ((if p < 0 then 2 ^ 31 else 0) + p.natAbs)
  valRound (fRead w)

/-- The place of v × 2^e, rounded toward zero. -/
def placeOf (v e : Int) : Int :=
  let m := v.natAbs
  if m = 0 then 0
  else
    let q := max ((bitLen m : Int) + e - 24) (-149)
    let r : Nat := if q ≤ e then m * 2 ^ (e - q).toNat else m / 2 ^ (q - e).toNat
    let p : Int := if r < 2 ^ 23 then r else (q + 150) * 2 ^ 23 + (r : Int) - 2 ^ 23
    if v < 0 then -p else p

/-- A word between two bounds, both given as whole numbers times 2^e, which one being free (log entry 14). -/
def fWithin (pick : Nat) (lo hi e : Int) : U32 :=
  let a := placeOf lo e
  let b := max a (placeOf hi e)
  fAtPlace (a + (pick : Int) % (b - a + 1))

/-- exp: within a relative error of 2^-17 of the exact value, and exact at the special inputs (R456). -/
def fExp (x : U32) : U32 :=
  match fRead x with
  | .nan => fNan
  | .inf neg => if neg then 0 else fInf false
  | .fin neg m e =>
    let v := toFix neg m e
    if 10 * v < -1033 * 2 ^ 64 then 0
    else if 8872 * 2 ^ 64 < 100 * v then fInf false
    else
      let k := v / ln2Fix
      let y := expSeries (v - k * ln2Fix) 30 0 (2 ^ 64)
      fWithin (Config.expPick x) (y - y / 2 ^ 17) (y + y / 2 ^ 17) (k - 64)

/-- log: within an absolute error of 2^-17 of the exact value, and exact at the special inputs (R456). -/
def fLog (x : U32) : U32 :=
  match fRead x with
  | .nan => fNan
  | .inf neg => if neg then fNan else fInf false
  | .fin neg m e =>
    if m = 0 then fInf true
    else if neg then fNan
    else
      let n := bitLen m
      let f : Int := (m : Int) * 2 ^ 64 / 2 ^ (n - 1)
      let z := (f - 2 ^ 64) * 2 ^ 64 / (f + 2 ^ 64)
      let y := 2 * artanhSeries (z * z / 2 ^ 64) 40 0 z + (e + n - 1) * ln2Fix
      fWithin (Config.logPick x) (y - 2 ^ 47) (y + 2 ^ 47) (-64)

/-- The whole square root of n, by its bits from 2^k down. -/
def rootGo (n : Nat) : Nat → Nat → Nat
  | 0, r => r
  | k + 1, r => rootGo n k (if (r + 2 ^ k) * (r + 2 ^ k) ≤ n then r + 2 ^ k else r)

/-- The square root of an FP32 word that is not negative, rounded to nearest even (R550; log entry 14). -/
def fSqrt (x : U32) : U32 :=
  match fRead x with
  | .nan => fNan
  | .inf neg => if neg then fNan else fInf false
  | .fin neg m e =>
    if m = 0 then fZero neg
    else if neg then fNan
    else
      let (m, e) := if e % 2 = 0 then (m, e) else (2 * m, e - 1)
      let w := m * 2 ^ 64
      let r := rootGo w 48 0
      fRound false (2 * r + (if r * r = w then 0 else 1)) (e / 2 - 33)

/-! ### Reductions (R457) -/

/-- One level of the fixed tree: lane 2i with lane 2i + 1. -/
def treeLevel {α : Type} (f : α → α → α) : List α → List α
  | a :: b :: r => f a b :: treeLevel f r
  | l => l

/-- The fixed tree up to its root. -/
def treeFold {α : Type} (f : α → α → α) (d : α) : Nat → List α → α
  | 0, l => l.headD d
  | n + 1, l => treeFold f d n (treeLevel f l)

/-- The FP32 sum of 256 lanes. -/
def fTreeSum (l : List U32) : U32 := treeFold fAdd 0 8 l

/-- The FP32 maximum of 256 lanes. -/
def fTreeMax (l : List U32) : U32 := treeFold fMax 0 8 l

/-- The INT32 sum of 256 lanes; a sum outside INT32 is a free value (log entry 14). -/
def iTreeSum (l : List U32) : U32 :=
  let t := (l.map BitVec.toInt).sum
  BitVec.ofInt 32 (if -2147483648 ≤ t ∧ t < 2147483648 then t else Config.outOfRange t)

/-- The INT32 maximum of 256 lanes. -/
def iTreeMax (l : List U32) : U32 := treeFold (fun a b => if a.toInt < b.toInt then b else a) 0 8 l

end Sys2Proof.Machine
end

