-- ==== Sys2Proof/Machine/Array.lean ====
section
/-!
DEFINITION. The datapaths of a press as functions of bytes (R432 to R457, R505): the ternary array in its three modes, the
case tables, the hand press, requantisation and the lanes of the fountain. A function Nat → Byte gives the byte at an
offset from the base of an operand.
-/

namespace Sys2Proof.Machine

/-- The first byte address past the Bank (R458). -/
def bankEnd : Nat := 0x600000

/-- Bit i of a string of bytes, low bit first. -/
def bitAt (f : Nat → Byte) (i : Nat) : Bool := (f (i / 8)).getLsbD (i % 8)

/-! ### The ternary array (R432 to R445) -/

/-- Clamp to INT32, and whether it clamped (R436, R437). -/
def satInt (v : Int) : Int × Bool :=
  if v < -2147483648 then (-2147483648, true) else if 2147483647 < v then (2147483647, true) else (v, false)

/-- The weight of a direct-mode code; 0b10 reads as 0 (R432). -/
def directWeight (c : Nat) : Int := if c = 1 then 1 else if c = 3 then -1 else 0

/-- The direct-mode code of input i for a column (Table IMP-2, W_DIRECT). -/
def directCode (w : Nat → Byte) (col i : Nat) : Nat := (w (512 * (i / 4) + col)).toNat / 4 ^ (i % 4) % 4

/-- Weight i of a case code; a code from 81 on reads as 40 (R433). -/
def caseWeight (c i : Nat) : Int := ((if 80 < c then 40 else c) / 3 ^ i % 3 : Nat) - 1

/-- The case code of a group for a column (Table IMP-2, W_CASE). -/
def caseCode (w : Nat → Byte) (col g : Nat) : Nat :=
  (List.range 7).foldl (fun c i =>
    let b := 7 * g + i
    if (w (512 * (b / 8) + col)).getLsbD (b % 8) then c + 2 ^ i else c) 0

/-- Table entry T[j] for the four input bits of a group (R443). -/
def caseEntry (a : Nat → Bool) (j : Nat) : Int :=
  ((List.range 4).map (fun i => caseWeight (40 + j) i * (a i).toNat)).sum

/-- What a column whose code is c takes (R444). -/
def caseTake (a : Nat → Bool) (c : Nat) : Int :=
  let c := if 80 < c then 40 else c
  if 40 ≤ c then caseEntry a (c - 40) else -caseEntry a (40 - c)

/-- The direct-mode partial of a column (Table PRS-3). -/
def directPartial (w : Nat → Byte) (a : Nat → Bool) (col : Nat) : Int :=
  ((List.range 128).map (fun i => if a i then directWeight (directCode w col i) else 0)).sum

/-- The case-mode partial of a column; groups from live on read as zero inputs (Table PRS-3, R500). -/
def casePartial (w : Nat → Byte) (a : Nat → Bool) (live col : Nat) : Int :=
  ((List.range live).map (fun g => caseTake (fun i => a (4 * g + i)) (caseCode w col g))).sum

/-- The plane-pair partial of a column with stationary plane j (Table PRS-3). -/
def planePartial (w : Nat → Byte) (a : Nat → Bool) (j col : Nat) : Int :=
  ((List.range 128).countP (fun e => a e && (w (8192 * j + 512 * (e / 8) + col)).getLsbD (e % 8)) : Nat)

/-- What one tile run needs: the mode, the widths, the signs, the live groups of a build. -/
structure TileRun where
  mode : AryMode
  a    : Nat
  b    : Nat
  sgnA : Bool
  sgnB : Bool
  live : Nat
  deriving DecidableEq, Repr

/-- The sign of a plane: −1 for the top plane of a signed operand (R436). -/
def planeSign (signed : Bool) (p width : Nat) : Int := if signed && decide (p + 1 = width) then -1 else 1

/-- The scaled partials of a column for one token, in the order they are added: planes from 0 up, and in plane-pair mode
the stationary planes of each streamed plane in turn (R436; log entry 15). bits p gives plane p of the token. -/
def columnTerms (r : TileRun) (w : Nat → Byte) (bits : Nat → Nat → Bool) (col : Nat) : List Int :=
  match r.mode with
  | .direct => (List.range r.a).map (fun p => planeSign r.sgnA p r.a * directPartial w (bits p) col * 2 ^ p)
  | .case => (List.range r.a).map (fun p => planeSign r.sgnA p r.a * casePartial w (bits p) r.live col * 2 ^ p)
  | .planePair => (List.range r.a).flatMap (fun p => (List.range r.b).map (fun j =>
      planeSign r.sgnA p r.a * planeSign r.sgnB j r.b * planePartial w (bits p) j col * 2 ^ (p + j)))

/-- Add terms to an accumulator with saturation; the flag tells whether any add clamped (R436, R437). -/
def accumulate (acc : Int) (ts : List Int) : Int × Bool :=
  ts.foldl (fun x t => let y := satInt (x.1 + t); (y.1, x.2 || y.2)) (acc, false)

/-- One token through a tile, from the given starts (R436, R438). -/
def tokenRun (r : TileRun) (w : Nat → Byte) (bits : Nat → Nat → Bool) (start : Nat → Int) : AccSet :=
  let cs := (List.range 512).map (fun col => accumulate (start col) (columnTerms r w bits col))
  { vals := cs.map (·.1), sats := cs.map (·.2) }

/-- Bits of a token's plane p in a streamed extent: 128 or 512 inputs per plane (R495, Table IMP-2). -/
def feedBit (f : Nat → Byte) (mode : AryMode) (a tok p i : Nat) : Bool :=
  bitAt (fun x => f ((if mode = .case then 64 else 16) * (a * tok + p) + x)) i

/-- Reserved weight codes of a tile (R432, R433). -/
def badWeights (mode : AryMode) (w : Nat → Byte) : Nat :=
  match mode with
  | .direct => ((List.range 512).map (fun col => (List.range 128).countP (fun i => decide (directCode w col i = 2)))).sum
  | .case => ((List.range 512).map (fun col => (List.range 128).countP (fun g => decide (80 < caseCode w col g)))).sum
  | .planePair => 0

/-- 32-bit little-endian words of a list of values. -/
def wordsLe (l : List Int) : List Byte := l.flatMap (fun v => leBytes 4 (BitVec.ofInt 32 v).toNat)

/-- SAT bits packed, one per column (R497). -/
def packBits : List Bool → List Byte
  | b0 :: b1 :: b2 :: b3 :: b4 :: b5 :: b6 :: b7 :: r =>
    BitVec.ofNat 8 (b0.toNat + 2 * b1.toNat + 4 * b2.toNat + 8 * b3.toNat + 16 * b4.toNat + 32 * b5.toNat + 64 * b6.toNat +
      128 * b7.toNat) :: packBits r
  | _ => []

/-- The 512 bytes of a PEEK: eight copies of the 41 entries of a group, each padded to 64 bytes (R445, R501). -/
def peekBytes (a : Nat → Bool) : List Byte :=
  (List.replicate 8 ((List.range 41).map (fun j => BitVec.ofInt 8 (caseEntry a j)) ++ List.replicate 23 0)).flatten

/-! ### The hand press (R447 to R449, R505) -/

/-- One accumulation step: BF16 to FP32, or INT8 to INT32 with saturation. Values are words. -/
def handStep (int8 sgnA sgnB : Bool) (x y : Nat) (acc : U32 × Bool) : U32 × Bool :=
  if int8 then
    let rd (s : Bool) (v : Nat) : Int := if s && decide (128 ≤ v) then (v : Int) - 256 else v
    let r := satInt (acc.1.toInt + rd sgnA x * rd sgnB y)
    (BitVec.ofInt 32 r.1, acc.2 || r.2)
  else (fFma (bfRead x) (bfRead y) acc.1, acc.2)

/-- Element k of a row of the streamed operand, or of the stationary operand. -/
def handElem (f : Nat → Byte) (int8 : Bool) (row k : Nat) : Nat :=
  if int8 then (f (32 * row + k)).toNat else leNat [f (64 * row + 2 * k), f (64 * row + 2 * k + 1)]

/-- Cell (row, col) after a row has passed: the 32 products added in the order of k (log entry 15). -/
def handCell (int8 sgnA sgnB : Bool) (rows stat : Nat → Byte) (row col : Nat) (acc : U32) : U32 × Bool :=
  (List.range 32).foldl (fun x k => handStep int8 sgnA sgnB (handElem rows int8 row k) (handElem stat int8 k col) x) (acc, false)

/-! ### Requantisation (R451 to R454) -/

/-- q / 2^n to nearest even (R452). -/
def rneShift (q : Int) (n : Nat) : Int :=
  let d : Int := 2 ^ n
  let f := q / d
  let r := 2 * (q % d)
  if r < d then f else if d < r then f + 1 else f + f % 2

/-- The random value of a lane from the two draws (R454). -/
def laneRandom (da db i : Nat) : Nat :=
  ((BitVec.ofNat 64 da ^^^ BitVec.ofNat 64 (i * 0x9E3779B97F4A7C15)) * (BitVec.ofNat 64 db ||| 1#64)).toNat / 2 ^ 48

/-- rnd(q, S): to nearest even, or with the lane's random value (R452, R453). -/
def rndShift (q : Int) (n : Nat) (r : Option Nat) : Int :=
  match r with
  | none => rneShift q n
  | some r => (q + (if 16 ≤ n then r * 2 ^ (n - 16) else r / 2 ^ (16 - n) : Nat)) / 2 ^ n

/-- One lane requantised, and whether it clamped (R451). -/
def requant (a : Nat) (signed : Bool) (z : Int) (n : Nat) (r : Option Nat) (x m : U32) : U32 × Bool :=
  let lo : Int := if signed then -(2 ^ (a - 1)) else 0
  let hi : Int := if signed then 2 ^ (a - 1) - 1 else 2 ^ a - 1
  let y := z + rndShift (x.toInt * m.toInt) n r
  if y < lo then (BitVec.ofInt 32 lo, true) else if hi < y then (BitVec.ofInt 32 hi, true) else (BitVec.ofInt 32 y, false)

/-- 256 lanes as A-bit activations, plane after plane (R502, Table IMP-2 A_VEC). -/
def vecPlanes (a : Nat) (l : List U32) : List Byte :=
  (List.range a).flatMap (fun p => packBits ((List.range 256).map (fun i => (l.getD i 0).getLsbD p)))

/-- The lanes of a 1 KiB access. -/
def lanesOf : List Byte → List U32
  | b0 :: b1 :: b2 :: b3 :: r => BitVec.ofNat 32 (leNat [b0, b1, b2, b3]) :: lanesOf r
  | _ => []

/-- The bytes of lanes. -/
def lanesLe (l : List U32) : List Byte := l.flatMap (fun w => leBytes 4 w.toNat)

end Sys2Proof.Machine
end

