-- ==== Sys2Proof/Machine/Imposition.lean ====
section
/-!
DEFINITION. Impositions and copies (R510 to R530): the layouts, the shape record, the checks of a copy, and the bytes it
writes, for COPY in the stock and ICOPY in the Bank alike. What the text leaves open is in log entry 16.
-/

namespace Sys2Proof.Machine

/-! ### Imposition codes (Table IMP-1) -/

def impPlain : Nat := 0x0000
def impWDirect : Nat := 0x0010
def impWCase : Nat := 0x0011
def impWPlane : Nat := 0x0012
def impADirect : Nat := 0x0020
def impACase : Nat := 0x0021
def impAVec : Nat := 0x0022
def impHRows : Nat := 0x0030
def impHStat : Nat := 0x0031
def impHOut : Nat := 0x0032

/-- The codes a copy may name (R510, R557). -/
def impKnown : List Nat :=
  [impPlain, impWDirect, impWCase, impWPlane, impADirect, impACase, impAVec, impHRows, impHStat, impHOut]

/-- A ternary weight imposition. -/
def impTernary (c : Nat) : Bool := c = impWDirect || c = impWCase

/-- A streamed activation imposition. -/
def impAct (c : Nat) : Bool := c = impADirect || c = impACase || c = impAVec

/-- A hand-press imposition. -/
def impHand (c : Nat) : Bool := c = impHRows || c = impHStat || c = impHOut

/-- x rounded up to a multiple of 64. -/
def ceil64 (x : Nat) : Nat := (x + 63) / 64 * 64

/-- The quotient rounded up. -/
def ceilDiv (x y : Nat) : Nat := (x + y - 1) / y

/-- The least of the values listed. -/
def leastOf : List Nat → Option Nat
  | [] => none
  | x :: r => match leastOf r with | some y => some (min x y) | none => some x

/-! ### The shape record (R515) -/

/-- A shape record. -/
structure Shape where
  rank    : Nat
  elem    : Nat
  act     : Nat
  signed  : Bool
  srcDist : Bool
  dstDist : Bool
  dims    : List Nat
  deriving DecidableEq, Repr

/-- Read a shape record. -/
def Shape.ofBytes (b : List Byte) : Shape where
  rank := byteAt b 0
  elem := byteAt b 1
  act := byteAt b 2
  signed := (byteAt b 3).testBit 0
  srcDist := (byteAt b 3).testBit 1
  dstDist := (byteAt b 3).testBit 2
  dims := (List.range 8).map (fun i => leAt b (8 + 4 * i) 4)

/-- Dimension k. -/
def Shape.dim (h : Shape) (k : Nat) : Nat := h.dims.getD k 1

/-- The element size of PLAIN and H operands. -/
def Shape.size (h : Shape) : Nat := 2 ^ h.elem

/-- The record keeps the limits of Table IMP-3. -/
def shapeLimits (b : List Byte) : Bool :=
  let h := Shape.ofBytes b
  decide (1 ≤ h.rank ∧ h.rank ≤ 8 ∧ h.elem ≤ 3 ∧ h.act ∈ [0, 1, 2, 3, 4, 5, 6, 8] ∧ byteAt b 3 < 8 ∧ leAt b 4 4 = 0) &&
  h.dims.zipIdx.all (fun d => if d.2 < h.rank then decide (1 ≤ d.1 ∧ d.1 ≤ 2 ^ 24) else decide (d.1 = 1)) &&
  (slice b 40 24).all (fun x => decide (x = 0))

/-- The pairs a copy converts between (R514). -/
def pairOk (src dst : Nat) : Bool :=
  src = dst || src = impPlain || dst = impPlain || (impAct src && impAct dst)

/-- ELEM and ACT suit the pair, and RANK a non-PLAIN operand (R514, R516). -/
def shapeSuits (h : Shape) (src dst : Nat) : Bool :=
  let other := if src = impPlain then dst else src
  (decide (src = impPlain ∧ dst = impPlain) || decide (h.rank = 2)) &&
  (if other = impPlain ∨ impTernary other ∨ impHand other then decide (h.act = 0)
   else decide (h.act ∈ [2, 3, 4, 5, 6, 8] ∨ (h.act = 1 ∧ other = impWPlane))) &&
  (if other = impPlain then true
   else if other = impHOut then decide (h.elem = 1 ∨ h.elem = 2)
   else if impHand other then decide (h.elem ≤ 1)
   else if src = dst ∨ (impAct src ∧ impAct dst) then true
   else decide (h.elem = 0))

/-! ### Permutation (R517, R518) -/

def permIdentity : Nat := 0xFAC688
def permSwap : Nat := 0xFAC681

/-- Index k of PERM. -/
def permAt (p k : Nat) : Nat := p / 8 ^ k % 8

/-- PERM permutes 0 to RANK − 1 among themselves and leaves the others; with a non-PLAIN operand it is the identity. -/
def permOk (p rank : Nat) (plain : Bool) : Bool :=
  if plain then
    (List.range 8).all (fun k => if k < rank then decide (permAt p k < rank) else decide (permAt p k = k)) &&
    (List.range rank).all (fun j => (List.range rank).any (fun k => decide (permAt p k = j)))
  else decide (p % 2 ^ 24 = permIdentity)

/-- The shape of the destination (R519). -/
def Shape.permute (h : Shape) (p : Nat) : Shape := { h with dims := (List.range 8).map (fun k => h.dim (permAt p k)) }

/-! ### Extents (R511, R512, R519) -/

/-- The row pitch of a PLAIN operand (R511). -/
def Shape.pitch (h : Shape) : Nat := ceil64 (h.dim 0 * h.size)

/-- The extent of an operand under a code. A PLAIN operand's last row counts with its padding (log entry 16). -/
def Shape.extent (h : Shape) (c : Nat) : Nat :=
  let n0 := h.dim 0
  let n1 := h.dim 1
  if c = impPlain then h.pitch * ((h.dims.drop 1).foldl (· * ·) 1)
  else if c = impWDirect then ceilDiv n0 128 * ceilDiv n1 512 * 16384
  else if c = impWCase then ceilDiv n0 512 * ceilDiv n1 512 * 57344
  else if c = impWPlane then ceilDiv n0 128 * ceilDiv n1 512 * (h.act * 8192)
  else if c = impADirect then ceilDiv n0 128 * ceil64 (n1 * h.act * 16)
  else if c = impACase then ceilDiv n0 512 * ceil64 (n1 * h.act * 64)
  else if c = impAVec then ceilDiv n0 256 * n1 * (32 * h.act)
  else if c = impHRows then ceilDiv n0 32 * ceil64 (n1 * (32 * h.size))
  else if c = impHStat then ceilDiv n1 32 * ceilDiv n0 32 * (1024 * h.size)
  else ceilDiv n0 32 * (n1 * (32 * h.size))

/-! ### Element placement (Table IMP-2) -/

/-- The byte offset of a PLAIN element. -/
def Shape.plainAt (h : Shape) (d : List Nat) : Nat :=
  h.size * d.getD 0 0 + h.pitch * ((List.range 7).foldr (fun k acc => d.getD (k + 1) 0 + h.dim (k + 1) * acc) 0)

/-- The indices of the PLAIN element that holds byte x, and its place in the element; none in the padding of a row. -/
def Shape.plainIdx (h : Shape) (x : Nat) : Option (List Nat × Nat) :=
  let c := x % h.pitch
  if h.dim 0 * h.size ≤ c then none
  else
    let go := (List.range 7).foldl (fun (a : List Nat × Nat) k => (a.1 ++ [a.2 % h.dim (k + 1)], a.2 / h.dim (k + 1)))
      ([c / h.size], x / h.pitch)
    some (go.1, c % h.size)

/-- The byte and bit that hold plane p of element (d0, d1) of an activation or plane imposition. -/
def Shape.actBit (h : Shape) (c d0 d1 p : Nat) : Nat × Nat :=
  let a := h.act
  if c = impWPlane then
    (((d0 / 128) + ceilDiv (h.dim 0) 128 * (d1 / 512)) * (a * 8192) + 8192 * p + 512 * (d0 % 128 / 8) + d1 % 512, d0 % 8)
  else if c = impADirect then (d0 / 128 * ceil64 (h.dim 1 * a * 16) + 16 * (a * d1 + p) + d0 % 128 / 8, d0 % 8)
  else if c = impACase then (d0 / 512 * ceil64 (h.dim 1 * a * 64) + 64 * (a * d1 + p) + d0 % 512 / 8, d0 % 8)
  else ((d0 / 256 + ceilDiv (h.dim 0) 256 * d1) * (32 * a) + 32 * p + d0 % 256 / 8, d0 % 8)

/-- The byte offset of an element of an H imposition. -/
def Shape.handAt (h : Shape) (c d0 d1 : Nat) : Nat :=
  let s := h.size
  if c = impHRows then d0 / 32 * ceil64 (h.dim 1 * (32 * s)) + 32 * s * d1 + s * (d0 % 32)
  else if c = impHStat then (d1 / 32 + ceilDiv (h.dim 1) 32 * (d0 / 32)) * (1024 * s) + 32 * s * (d1 % 32) + s * (d0 % 32)
  else d0 / 32 * (h.dim 1 * (32 * s)) + 32 * s * d1 + s * (d0 % 32)

/-- The A-bit value of an element of an activation or plane imposition. -/
def Shape.actVal (h : Shape) (c : Nat) (src : Nat → Byte) (d0 d1 : Nat) : Nat :=
  (List.range h.act).foldl (fun v p =>
    let b := h.actBit c d0 d1 p
    if (src b.1).getLsbD b.2 then v + 2 ^ p else v) 0

/-- The weight of an element of a ternary imposition. -/
def Shape.weight (h : Shape) (c : Nat) (src : Nat → Byte) (i o : Nat) : Int :=
  if c = impWDirect then
    directWeight (directCode (fun x => src ((i / 128 + ceilDiv (h.dim 0) 128 * (o / 512)) * 16384 + x)) (o % 512) (i % 128))
  else
    caseWeight (caseCode (fun x => src ((i / 512 + ceilDiv (h.dim 0) 512 * (o / 512)) * 57344 + x)) (o % 512) (i % 512 / 4)) (i % 4)

/-! ### The bytes a copy writes (R513, R514) -/

/-- A number of n bits taken as signed. -/
def signExt (n v : Nat) : Int := toInt v
  where toInt (v : Nat) : Int := if n ≠ 0 ∧ 2 ^ (n - 1) ≤ v then (v : Int) - 2 ^ n else v

/-- The 1-byte PLAIN element at (d0, d1). -/
def Shape.plain1 (h : Shape) (src : Nat → Byte) (d0 d1 : Nat) : Byte := src (h.plainAt [d0, d1])

/-- The sign of a signed byte. -/
def signOf (b : Byte) : Int := if b = 0 then 0 else if b.msb then -1 else 1

/-- The 2-bit code of a weight (R432). -/
def directOf (w : Int) : Nat := if w = 1 then 1 else if w = -1 then 3 else 0

/-- Byte x of a W_DIRECT destination. -/
def toWDirect (h : Shape) (src : Nat → Byte) (x : Nat) : Byte :=
  let nb := ceilDiv (h.dim 0) 128
  let blk := x / 16384
  let o := blk / nb * 512 + x % 512
  BitVec.ofNat 8 ((List.range 4).foldl (fun v k =>
    let i := blk % nb * 128 + 4 * (x % 16384 / 512) + k
    if i < h.dim 0 ∧ o < h.dim 1 then v + 4 ^ k * directOf (signOf (h.plain1 src i o)) else v) 0)

/-- The case code of group g of block blk for output o, as grouped from a PLAIN source (R433, R513). -/
def caseOf (h : Shape) (src : Nat → Byte) (base o : Nat) : Nat :=
  (List.range 4).foldl (fun c k =>
    let i := base + k
    let w := if i < h.dim 0 ∧ o < h.dim 1 then signOf (h.plain1 src i o) else 0
    c + (w + 1).toNat * 3 ^ k) 0

/-- Byte x of a W_CASE destination whose codes are given by their first input and their output. -/
def toWCase (h : Shape) (code : Nat → Nat → Nat) (x : Nat) : Byte :=
  let nb := ceilDiv (h.dim 0) 512
  let blk := x / 57344
  let o := blk / nb * 512 + x % 512
  BitVec.ofNat 8 ((List.range 8).foldl (fun v k =>
    let b := 8 * (x % 57344 / 512) + k
    if (code (blk % nb * 512 + 4 * (b / 7)) o).testBit (b % 7) then v + 2 ^ k else v) 0)

/-- A case code copied as it is; the weights of positions beyond the dims become 0 (R513, R514; log entry 16). -/
def Shape.caseKept (h : Shape) (src : Nat → Byte) (base o : Nat) : Nat :=
  let c := caseCode (fun x => src ((base / 512 + ceilDiv (h.dim 0) 512 * (o / 512)) * 57344 + x)) (o % 512) (base % 512 / 4)
  if h.dim 1 ≤ o ∨ h.dim 0 ≤ base then 40
  else if base + 4 ≤ h.dim 0 ∨ 80 < c then c
  else (List.range 4).foldl (fun n k => n + (if base + k < h.dim 0 then c / 3 ^ k % 3 else 1) * 3 ^ k) 0

/-- A W_DIRECT byte copied as it is; the codes of positions beyond the dims become 0. -/
def Shape.directKept (h : Shape) (src : Nat → Byte) (x : Nat) : Byte :=
  let nb := ceilDiv (h.dim 0) 128
  let blk := x / 16384
  let i := blk % nb * 128 + 4 * (x % 16384 / 512)
  if h.dim 1 ≤ blk / nb * 512 + x % 512 then 0 else BitVec.ofNat 8 ((src x).toNat % 4 ^ (h.dim 0 - i))

/-- The inverse of the placement of activation bits: of byte x and bit k, the element and its plane, none in padding. -/
def Shape.actIdx (h : Shape) (c x k : Nat) : Option (Nat × Nat × Nat) :=
  let a := h.act
  let r : Nat × Nat × Nat :=
    if c = impWPlane then
      let nb := ceilDiv (h.dim 0) 128
      let blk := x / (a * 8192)
      let y := x % (a * 8192)
      (blk % nb * 128 + 8 * (y % 8192 / 512) + k, blk / nb * 512 + y % 512, y / 8192)
    else if c = impADirect then
      let bs := ceil64 (h.dim 1 * a * 16)
      let y := x % bs
      (x / bs * 128 + 8 * (y % 16) + k, y / 16 / a, y / 16 % a)
    else if c = impACase then
      let bs := ceil64 (h.dim 1 * a * 64)
      let y := x % bs
      (x / bs * 512 + 8 * (y % 64) + k, y / 64 / a, y / 64 % a)
    else
      let nb := ceilDiv (h.dim 0) 256
      let blk := x / (32 * a)
      let y := x % (32 * a)
      (blk % nb * 256 + 8 * (y % 32) + k, blk / nb, y / 32)
  if r.1 < h.dim 0 ∧ r.2.1 < h.dim 1 then some r else none

/-- Byte x of an activation or plane destination whose element values val gives. -/
def toAct (h : Shape) (c : Nat) (val : Nat → Nat → Nat) (x : Nat) : Byte :=
  BitVec.ofNat 8 ((List.range 8).foldl (fun v k =>
    match h.actIdx c x k with
    | some (d0, d1, p) => if (val d0 d1).testBit p then v + 2 ^ k else v
    | none => v) 0)

/-- The inverse of the placement of H elements: of byte x, the element and the byte within it, none in padding. -/
def Shape.handIdx (h : Shape) (c x : Nat) : Option (Nat × Nat × Nat) :=
  let s := h.size
  let r : Nat × Nat × Nat :=
    if c = impHRows then
      let bs := ceil64 (h.dim 1 * (32 * s))
      let y := x % bs
      (x / bs * 32 + y % (32 * s) / s, y / (32 * s), x % s)
    else if c = impHStat then
      let blk := x / (1024 * s)
      let y := x % (1024 * s)
      (blk / ceilDiv (h.dim 1) 32 * 32 + y % (32 * s) / s, blk % ceilDiv (h.dim 1) 32 * 32 + y / (32 * s), x % s)
    else
      let bs := h.dim 1 * (32 * s)
      let y := x % bs
      (x / bs * 32 + y % (32 * s) / s, y / (32 * s), x % s)
  if r.1 < h.dim 0 ∧ r.2.1 < h.dim 1 then some r else none

/-- What a copy between two operands of one code that is not PLAIN writes at byte x: its bytes, with every position beyond the dims zero
(R513, R514; log entry 16). -/
def copySame (h : Shape) (c : Nat) (src : Nat → Byte) (x : Nat) : Byte :=
  if c = impWDirect then h.directKept src x
  else if c = impWCase then toWCase h (h.caseKept src) x
  else if impHand c then (if (h.handIdx c x).isSome then src x else 0)
  else toAct h c (h.actVal c src) x

/-- What a copy writes at byte x of its destination, src giving the bytes of its source; none where it writes nothing
(R513, R514, R517). -/
def copyByte (h : Shape) (c c' perm : Nat) (src : Nat → Byte) (x : Nat) : Option Byte :=
  if c = impPlain ∧ c' = impPlain then
    (h.permute perm).plainIdx x |>.map (fun d =>
      let at_ (j : Nat) : Nat := ((List.range 8).find? (fun k => decide (permAt perm k = j))).elim 0 (fun k => d.1.getD k 0)
      src (h.plainAt ((List.range 8).map at_) + d.2))
  else if c = c' then some (copySame h c src x)
  else if c = impPlain then
    some (if c' = impWDirect then toWDirect h src x
      else if c' = impWCase then toWCase h (caseOf h src) x
      else if impHand c' then (h.handIdx c' x).elim 0 (fun r => src (h.plainAt [r.1, r.2.1] + r.2.2))
      else toAct h c' (fun d0 d1 =>
        let b := h.plain1 src d0 d1
        if h.act = 1 then (decide (b ≠ 0)).toNat else b.toNat % 2 ^ h.act) x)
  else if c' = impPlain then
    (h.plainIdx x).map (fun d =>
      let d0 := d.1.getD 0 0
      let d1 := d.1.getD 1 0
      if impTernary c then BitVec.ofInt 8 (h.weight c src d0 d1)
      else if impHand c then src (h.handAt c d0 d1 + d.2)
      else
        let v := h.actVal c src d0 d1
        BitVec.ofInt 8 (if h.signed then signExt h.act v else v))
  else some (toAct h c' (h.actVal c src) x)

/-- What a whole copy writes: runs of bytes from an offset on. -/
def copyRuns (h : Shape) (c c' perm : Nat) (src : Nat → Byte) : List (Nat × Byte) :=
  (List.range ((h.permute perm).extent c')).filterMap (fun x => (copyByte h c c' perm src x).map (fun b => (x, b)))

/-! ### The copy descriptor (Table HST-3) and its checks -/

/-- The body of a COPY descriptor, or the record of an ICOPY (bytes 0x08 to 0x3F). -/
structure CopyDesc where
  src      : Nat
  dst      : Nat
  shape    : Nat
  srcImp   : Nat
  dstImp   : Nat
  perm     : Nat
  srcBytes : Nat
  mode     : Nat
  deriving DecidableEq, Repr

/-- Read the body from bytes that begin at descriptor offset 0x08. -/
def CopyDesc.ofBytes (b : List Byte) : CopyDesc where
  src := leAt b 0 8
  dst := leAt b 8 8
  shape := leAt b 16 8
  srcImp := leAt b 24 2
  dstImp := leAt b 26 2
  perm := leAt b 28 3
  srcBytes := leAt b 32 8
  mode := byteAt b 40

/-- Where an operand lies: at one base, or block after block under an imposition table (R521, R522). -/
structure Placing where
  base   : Nat
  blocks : Option (Nat × List Nat) := none
  deriving DecidableEq, Repr

/-- The address of byte x of an operand (R522). -/
def Placing.at_ (p : Placing) (x : Nat) : Nat :=
  match p.blocks with
  | none => p.base + x
  | some (l, bs) => bs.getD (x / 2 ^ l) 0 + x % 2 ^ l

/-- The intervals an operand of n bytes takes up: start and length (R524). -/
def Placing.spans (p : Placing) (n : Nat) : List (Nat × Nat) :=
  match p.blocks with
  | none => [(p.base, n)]
  | some (l, bs) => (List.range (ceilDiv n (2 ^ l))).map (fun b => (bs.getD b 0, min (2 ^ l) (n - b * 2 ^ l)))

/-- An imposition table as read; none where it breaks a limit of Table IMP-4 or does not cover n bytes (R522). -/
def distTable (addr code : Nat) (b : List Byte) (n : Nat) : Option Placing :=
  let l := byteAt b 6
  let k := leAt b 8 4
  let bs := (List.range k).map (fun i => leAt b (64 + 8 * i) 8)
  if addr % 64 = 0 ∧ leAt b 0 4 = 0x54494D49 ∧ leAt b 4 2 = code ∧ 16 ≤ l ∧ l ≤ 30 ∧ byteAt b 7 = 0 ∧ 1 ≤ k ∧ k ≤ 4096 ∧
      (slice b 12 52).all (fun x => decide (x = 0)) ∧ bs.all (fun a => decide (a % 64 = 0)) ∧ n ≤ k * 2 ^ l
  then some { base := addr, blocks := some (l, bs) } else none

/-- Two intervals of one unit and tier share a byte (R524). -/
def spansMeet (a b : Nat × Nat) : Bool :=
  decide (a.1 / 2 ^ 58 = b.1 / 2 ^ 58) && decide (a.1 < b.1 + b.2) && decide (b.1 < a.1 + a.2)

/-- The offsets of the fields of a copy that break a limit, apart from its imposition tables (R510, R514 to R520, R527). -/
def copyBad (d : CopyDesc) (sb : List Byte) : List Nat :=
  let h := Shape.ofBytes sb
  let known := impKnown.contains d.srcImp && impKnown.contains d.dstImp
  let plain := decide (d.srcImp = impPlain ∧ d.dstImp = impPlain)
  let shapeOk := shapeLimits sb && (!(known && pairOk d.srcImp d.dstImp) || shapeSuits h d.srcImp d.dstImp)
  let extentsOk := decide (h.extent d.srcImp = d.srcBytes ∧ h.extent d.srcImp ≤ 2 ^ 30 ∧
    (h.permute d.perm).extent d.dstImp ≤ 2 ^ 30)
  let transOk := decide (d.src = d.dst ∧ h.srcDist = false ∧ h.dstDist = false ∧ 2 ≤ h.rank ∧ h.dim 0 = h.dim 1 ∧
    h.dim 0 ≤ 8192 ∧ d.perm = permSwap) && plain
  (if shapeOk then [] else [0x18]) ++
  (if impKnown.contains d.srcImp then [] else [0x20]) ++
  (if impKnown.contains d.dstImp && (!impKnown.contains d.srcImp || pairOk d.srcImp d.dstImp) then [] else [0x22]) ++
  (if permOk d.perm (if shapeLimits sb then h.rank else 8) plain then [] else [0x24]) ++
  (if shapeOk && known && extentsOk then [] else if shapeOk && known then [0x28] else []) ++
  (if d.mode = 0 ∨ (d.mode = 1 ∧ (transOk ∨ !shapeOk)) then [] else [0x30])

/-- The copy writes nothing and is done (R526). -/
def copyNoop (d : CopyDesc) (h : Shape) : Bool :=
  decide (d.mode = 0 ∧ d.src = d.dst ∧ d.srcImp = d.dstImp ∧ d.perm = permIdentity ∧ h.srcDist = false ∧ h.dstDist = false)

/-- The copy's intervals overlap (R524, R525). -/
def copyOverlaps (d : CopyDesc) (h : Shape) (src dst : Placing) : Bool :=
  decide (d.mode = 0) && !copyNoop d h &&
  (src.spans (h.extent d.srcImp)).any (fun a => (dst.spans ((h.permute d.perm).extent d.dstImp)).any (spansMeet a))

/-- The bytes and the count of a copy that runs (R513, R514, R520, R526, R528). -/
def copyDo (d : CopyDesc) (h : Shape) (src : Nat → Byte) : List (Nat × Byte) × Nat :=
  if copyNoop d h then ([], 0)
  else (copyRuns h d.srcImp d.dstImp d.perm src, (h.permute d.perm).extent d.dstImp)

end Sys2Proof.Machine
end

