-- ==== Sys2Proof/Machine/Rings.lean ====
section
/-!
DEFINITION. The ring pairs (R130 to R172): their states, the doorbells, the arbiter, completion entries and the tag window, and
interrupt coalescing. What the text leaves open is in log entry 22.
-/

namespace Sys2Proof.Machine

/-! ### Sizes, heads and room -/

/-- Entries of the submission queue (R130). -/
def State.sqSize (s : State) (r : Ring) : Nat := 2 ^ s.getF (HST_RING_CFG.SQ_LOG2 r.val)

/-- Entries of the completion queue (R130). -/
def State.cqSize (s : State) (r : Ring) : Nat := 2 ^ s.getF (HST_RING_CFG.CQ_LOG2 r.val)

/-- The next SQ slot to fetch. -/
def State.sqHead (s : State) (r : Ring) : Nat := s.getF (HST_RING_STATUS.SQ_HEAD r.val)

/-- The next CQ slot to write. -/
def State.cqTail (s : State) (r : Ring) : Nat := s.getF (HST_RING_STATUS.CQ_TAIL r.val)

/-- The class of a ring: 0 GUARD, 1 OPERATIONAL, 2 BEST_EFFORT (R142). -/
def State.ringCls (s : State) (r : Ring) : Nat := s.getF (HST_RING_CFG.CLASS r.val)

/-- Entries written and not yet consumed. -/
def State.cqUsed (s : State) (r : Ring) : Nat :=
  (s.cqTail r + s.cqSize r - (s.ring r).cqHead % s.cqSize r) % s.cqSize r

/-- The completion queue has a free slot (R138). -/
def State.cqRoom (s : State) (r : Ring) : Bool := decide (s.cqUsed r + 1 < s.cqSize r)

/-- The code of a ring state (Table HST-7). -/
def RingState.code : RingState → Nat
  | .disabled => 0
  | .active => 1
  | .draining => 2
  | .error => 3

/-- HST_RING_STATUS_n as a read shows it (R173). -/
def State.ringStatus (s : State) (r : Ring) : U64 :=
  let x := s.ring r
  (HST_RING_STATUS.IN_FLIGHT r.val).put ((HST_RING_STATUS.STATE r.val).put (s.reg (HST_RING_STATUS r.val)) x.state.code) x.flights.length

/-- The engine fetches nothing on any ring: PFAIL is latched (R159), or the unit has demoted itself (R776). -/
def State.fetchStopped (s : State) : Bool := s.bitF PKG_PFAIL_STATUS.PFAIL || s.rep.demoted

/-- A descriptor of ring r can be fetched (R136 to R138, R146, R167). -/
def State.canFetch (s : State) (r : Ring) : Bool :=
  decide ((s.ring r).state = .active) && decide (s.sqHead r ≠ (s.ring r).sqTail) && decide ((s.ring r).flights.length < 64) &&
  s.cqRoom r && !s.fetchStopped

/-! ### Ring states (R167) -/

/-- Change ring r. -/
def State.modRing (s : State) (r : Ring) (f : Ring64 → Ring64) : State := s.setRing r (f (s.ring r))

/-- A ring error: its cause is recorded, and a ring that is not DISABLED goes to ERROR (Table HST-7; log entry 22). -/
def State.ringError (s : State) (r : Ring) (cause : Nat) : State :=
  let s := s.setF (HST_RING_STATUS.ERR_CAUSE r.val) cause
  if (s.ring r).state = .disabled then s else s.modRing r (fun x => { x with state := .error })

/-- The configuration lets ring r be enabled (R130 to R132, R144). -/
def State.ringCfgOk (s : State) (r : Ring) : Bool :=
  let sq := s.getF (HST_RING_CFG.SQ_LOG2 r.val)
  let cq := s.getF (HST_RING_CFG.CQ_LOG2 r.val)
  let pv := s.bitF (HST_RING_CFG.PREVIEW r.val)
  decide (4 ≤ sq ∧ sq ≤ 16 ∧ 4 ≤ cq ∧ cq ≤ 16 ∧ s.ringCls r < 3) && decide ((if pv then sq + 1 else sq) ≤ cq) &&
  !(pv && decide (s.ringCls r = 0))

/-- ENABLE (R131, R132, R144, R162, R167): it acts on a DISABLED ring. SQ_HEAD, CQ_TAIL and the counts since enable start again at 0, and
so does ERR_CAUSE, of which the field table does not say when it returns to 0 (DESIGN CHOICE; log entry 47); REJECTED goes on. -/
def State.ringEnable (s : State) (r : Ring) : State :=
  if (s.ring r).state ≠ .disabled then s
  else if s.ringCfgOk r then
    (((s.setReg (HST_RING_STATUS.SQ_HEAD r.val).off 0).setF (HST_RING_COUNT.COMPLETED r.val) 0).setF
      (HST_RING_COUNT.DUPLICATES r.val) 0).setRing r { state := .active }
  else s.ringError r 5

/-- Every descriptor of ring r that has not started completes with FLUSHED (R159, R170). -/
def State.flushUnstarted (s : State) (r : Ring) : State :=
  let fs := (s.ring r).flights.filter (fun f => !f.started && !f.done)
  let s := fs.foldl (fun s f =>
    s.post r { tag := f.tag, slot := f.slot, status := stFlushed, epoch := (s.launch (r.val, f.tag)).map (·.epoch) }) s
  { s with launches := s.launches.filter (fun l => !(decide (l.ring = r.val) && fs.any (fun f => decide (f.tag = l.tag)))) }

/-- DRAIN, with or without FLUSH: it acts on an ACTIVE or ERROR ring (R167, R169, R170). -/
def State.ringDrain (s : State) (r : Ring) (flush : Bool) : State :=
  let st := (s.ring r).state
  if st ≠ .active ∧ st ≠ .error then s
  else
    let s := s.modRing r (fun x => { x with state := .draining, flush := flush })
    if !flush then s
    else
      (s.launches.filter (fun l => decide (l.ring = r.val))).foldl (fun s l =>
        s.stopLaunchBy l.key { status := stFlushed }) (s.flushUnstarted r)

/-- The end of a drain: nothing is in flight and every entry is written (R167). -/
def State.ringDrainDone (s : State) (r : Ring) : State :=
  let x := s.ring r
  if x.state = .draining && x.flights.isEmpty && x.results.isEmpty then s.setRing r { x with state := .disabled, flush := false } else s

/-! ### Doorbells (R146 to R150) -/

/-- HST_SQ_DB (R146, R148, R149). -/
def State.sqDoorbell (s : State) (r : Ring) (v : Nat) : State :=
  if (s.ring r).state ≠ .active then s
  else if s.sqSize r ≤ v then s.ringError r 1
  else s.modRing r (fun x => { x with sqTail := v })

/-- HEAD v releases written entries only: it lies in the span from the current head to CQ_TAIL (R150). -/
def State.cqSpan (s : State) (r : Ring) (v : Nat) : Bool :=
  decide (v < s.cqSize r) && decide ((v + s.cqSize r - (s.ring r).cqHead % s.cqSize r) % s.cqSize r ≤ s.cqUsed r)

/-- HST_CQ_DB (R147, R148, R150): a HEAD outside the entries written keeps the previous one, and is an error of an ACTIVE ring. A DRAINING
ring takes the HEAD that its teardown needs and ignores every other write (log entry 22). -/
def State.cqDoorbell (s : State) (r : Ring) (v : Nat) : State :=
  let x := s.ring r
  if x.state ≠ .active ∧ x.state ≠ .draining then s
  else if s.cqSpan r v then s.setRing r { x with cqHead := v }
  else if x.state = .active then s.ringError r 2
  else s

/-! ### The arbiter (R143) -/

/-- The ring whose turn it is in a class: the first after the last one served. -/
def State.arbRing (s : State) (cls : Nat) : Option Ring :=
  let last := s.arb.last.toList.getD cls 63
  ((List.range 64).map (fun i => ringOf (last + 1 + i))).find? (fun r => s.canFetch r && decide (s.ringCls r = cls))

/-- The class whose turn it is, and the arbiter's counts after it is served. Between OPERATIONAL and BEST_EFFORT rings the weights
count only while both have descriptors (log entry 22). -/
def State.arbClass (s : State) : Nat × Nat × Nat :=
  if (s.arbRing 0).isSome then (0, s.arb.op, s.arb.be)
  else
    match (s.arbRing 1).isSome, (s.arbRing 2).isSome with
    | true, true =>
      let ow := max 1 (s.getF HST_ARB.OP_WEIGHT)
      let bw := max 1 (s.getF HST_ARB.BE_WEIGHT)
      if s.arb.op < ow then (1, s.arb.op + 1, s.arb.be)
      else if s.arb.be + 1 < bw then (2, s.arb.op, s.arb.be + 1)
      else (2, 0, 0)
    | true, false => (1, s.arb.op, s.arb.be)
    | _, _ => (2, s.arb.op, s.arb.be)

/-- The ring the engine fetches from next. -/
def State.arbNext (s : State) : Option Ring := s.arbRing s.arbClass.1

/-- The arbiter has served ring r. -/
def State.arbServe (s : State) (r : Ring) : State :=
  let c := s.arbClass
  { s with arb := { op := c.2.1, be := c.2.2, last := if h : c.1 < 3 then s.arb.last.set c.1 r.val else s.arb.last } }

/-! ### Completion entries (R138, R140, R153 to R166) -/

/-- A supply warning window overlaps the interval of an epoch (R71, R72). An epoch that opens or closes on the very tick that a window
starts or ends overlaps it (DESIGN CHOICE; log entry 48). -/
def State.windowOver (s : State) (e : EpochRec) : Bool :=
  s.pkg.windows.any (fun w =>
    (match e.closeAt with | none => true | some c => decide (w.1 ≤ c)) && (match w.2 with | none => true | some x => decide (e.openAt ≤ x)))

/-- The status an entry is written with: work on an epoch that overlapped a warning window or lost coverage is DEGRADED instead of
OK, but for GUARD-class work (R71, R355). -/
def State.entryStatus (s : State) (r : Ring) (launch : Bool) (c : Compl) : Nat :=
  if c.status = stOk && launch && decide (s.ringCls r ≠ 0) then
    match c.epoch.bind s.epochRec with
    | some e => if s.windowOver e || (match e.final with | some x => decide (0 < x.below) | none => false) then stDegraded else stOk
    | none => stOk
  else c.status

/-- The statuses whose entries carry a RESULT (Table HST-5). -/
def hasResult (st : Nat) : Bool := [stOk, stDegraded, stProvisional, stConfirmed].contains st

/-- The 32 bytes of a completion entry (Table HST-5). -/
def State.entryBytes (s : State) (r : Ring) (st : Nat) (c : Compl) : List Byte :=
  let rec_ := c.epoch.bind s.epochRec
  let suspect := match rec_ with | some e => e.cov.any (fun x => s.covSuspect x.2) | none => false
  let coverage := if st = stProvisional then 0xFFFF
    else match rec_.bind (·.final) with | some x => x.lowest | none => 0xFFFF
  let flags := (s.ring r).phase.toNat + 2 * c.prov.toNat + 4 * c.final.toNat + 8 * suspect.toNat
  leBytes 4 c.tag ++ leBytes 2 (s.sqHead r) ++ leBytes 1 st ++ leBytes 1 flags ++ leBytes 4 (c.epoch.getD 0xFFFFFFFF) ++
  leBytes 2 coverage ++ leBytes 2 c.slot ++ leBytes 8 (if hasResult st then c.result else 0) ++ leBytes 4 c.detail ++
  leBytes 4 s.count64

/-- Signal an entry written (R164 to R166). -/
def State.coalesce (s : State) (r : Ring) (now : Bool) : State :=
  if !s.bitF (HST_RING_CFG.IRQ_EN r.val) then s
  else
    let n := (s.ring r).unsig + 1
    if now || decide (max 1 (s.getF (HST_COAL.COUNT r.val)) ≤ n) then
      (s.modRing r (fun x => { x with unsig := 0, timerOn := false })).msixSend (s.getF (HST_RING_CFG.VECTOR r.val))
    else
      let timer := decide (s.getF (HST_COAL.TIMER_US r.val) ≠ 0)
      s.modRing r (fun x => { x with unsig := n, timerOn := x.timerOn || (decide (n = 1) && timer) })

/-- Take away the flight that a final entry ends. -/
def dropFlight (c : Compl) : List Flight → List Flight
  | [] => []
  | f :: fs => if f.done && decide (f.tag = c.tag) && decide (f.slot = c.slot) then fs else f :: dropFlight c fs

/-- What a final entry leaves behind: the descriptor is no longer in flight, and the tag window and the counters take it
(R136, R160, R161, R603). -/
def State.retire (s : State) (r : Ring) (st : Nat) (c : Compl) : State :=
  if !c.final then s
  else
    let s := s.modRing r (fun x => { x with
      flights := dropFlight c x.flights
      window := if st = stDuplicate then x.window else (c.tag :: x.window).take 256 })
    let s := if st = stDuplicate then s.incSat (HST_RING_COUNT.DUPLICATES r.val) else s.incWrap (HST_RING_COUNT.COMPLETED r.val)
    let s := if c.rejected then s.incSat (HST_RING_COUNT.REJECTED r.val) else s
    let s := if st = stInvalid then s.incSat GRD_COUNT.INVALIDS else s
    s.launchSweep

/-- Write the oldest result to the completion queue. ok: host memory takes the write. An entry that host memory does not take puts the ring
in ERROR and is tried again by the next write: each descriptor's entry is written once (R155; log entry 22). -/
def State.writeCompletion (s : State) (r : Ring) (ok : Bool) : State :=
  match (s.ring r).results with
  | [] => s
  | c :: rest =>
    if (s.ring r).state = .disabled || !s.cqRoom r then s
    else
      let launch := (s.ring r).flights.any (fun f => decide (f.tag = c.tag) && decide (byteAt f.desc 0 = 1))
      let st := s.entryStatus r launch c
      let tail := s.cqTail r
      let addr := s.getF (HST_CQ_BASE.BASE r.val) * 4096 + 32 * tail
      let a := if ok then s.busWrite r.val (s.ringCls r) addr (s.entryBytes r st c) else ({ status := .poison }, s)
      if a.1.status = .wait then a.2
      else
        let s := a.2
        if a.1.status ≠ .ok then s.ringError r 4
        else
          let s := s.modRing r (fun x => { x with results := rest })
          let wrap := decide (tail + 1 = s.cqSize r)
          let s := s.setF (HST_RING_STATUS.CQ_TAIL r.val) (if wrap then 0 else tail + 1)
          let s := s.modRing r (fun x => { x with phase := x.phase != wrap })
          (s.retire r st c).coalesce r (c.irqNow || decide (st = stInvalid) || decide (st = stDeadline))

/-! ### Meanings -/

/-- HST_SQ_DB_WRITE (R146, R148). -/
def execHstSqDbWrite (r : Ring) (v : U64) (s : State) : Result := s.host (s.sqDoorbell r ((HST_SQ_DB.TAIL r.val).get v))

/-- HST_CQ_DB_WRITE (R147, R148, R150). -/
def execHstCqDbWrite (r : Ring) (v : U64) (s : State) : Result := s.host (s.cqDoorbell r ((HST_CQ_DB.HEAD r.val).get v))

/-- RING_ENABLE (R131, R132, R144, R162). -/
def execRingEnable (r : Ring) (s : State) : Result := s.host (s.ringEnable r)

/-- RING_DRAIN (R167). -/
def execRingDrain (r : Ring) (s : State) : Result := s.host (s.ringDrain r false)

/-- RING_DRAIN_FLUSH (R169, R170). -/
def execRingDrainFlush (r : Ring) (s : State) : Result := s.host (s.ringDrain r true)

/-- RING_DRAIN_DONE (R167). -/
def execRingDrainDone (r : Ring) (s : State) : Result := s.live (s.ringDrainDone r)

/-- COMPLETION_WRITE (R154). -/
def execCompletionWrite (t : Tick) (r : Ring) (ok : Bool) (s : State) : Result := s.live ((s.at t).writeCompletion r ok)

/-- COAL_TIMER_EXPIRE (R164): the timer of the entries written since the last message ends. -/
def execCoalTimerExpire (r : Ring) (s : State) : Result :=
  s.live (if (s.ring r).timerOn && decide (s.getF (HST_COAL.TIMER_US r.val) ≠ 0) && s.bitF (HST_RING_CFG.IRQ_EN r.val) then
    (s.modRing r (fun x => { x with unsig := 0, timerOn := false })).msixSend (s.getF (HST_RING_CFG.VECTOR r.val))
  else s)

end Sys2Proof.Machine
end

