-- ==== Sys2Proof/Machine/Descriptors.lean ====
section
/-!
DEFINITION. The fetch of a descriptor and the checks of R157 (R134, R151, R152, R157, R160; for networks R411 to R415, R424, R425,
R711; for copies R510 to R524). What the text leaves open is in log entry 22.
-/

namespace Sys2Proof.Machine

/-! ### Fields (Tables HST-2 and HST-3) -/

def dOp (d : List Byte) : Nat := byteAt d 0
def dFence (d : List Byte) : Bool := byteAt d 1 % 2 = 1
def dTag (d : List Byte) : Nat := leAt d 4 4

/-- The fields of a NET_LAUNCH. -/
structure NetDesc where
  net     : Nat
  arg     : Nat
  out     : Nat
  epoch   : Nat
  mask    : Nat
  lflags  : Nat
  argLen  : Nat
  timeout : Nat
  deriving DecidableEq, Repr

/-- Read a NET_LAUNCH. -/
def NetDesc.of (d : List Byte) : NetDesc where
  net := leAt d 0x08 8
  arg := leAt d 0x10 8
  out := leAt d 0x18 8
  epoch := leAt d 0x20 4
  mask := leAt d 0x24 2
  lflags := byteAt d 0x26
  argLen := leAt d 0x28 4
  timeout := leAt d 0x2C 4

/-- The body of a COPY. -/
def copyOf (d : List Byte) : CopyDesc := CopyDesc.ofBytes (slice d 8 56)

/-! ### The image header (Table PRS-1) -/

/-- Read what a launch keeps of a header. -/
def Header.of (b : List Byte) : Header where
  act := byteAt b 6
  stoch := byteAt b 7 % 2 = 1
  count := leAt b 0x08 2
  entry := leAt b 0x0A 2
  handler := leAt b 0x0C 2
  slugOfs := leAt b 0x10 4
  crc := leAt b 0x1C 4

/-- The number of stipple-list entries a header names. -/
def stippleCount (b : List Byte) : Nat := leAt b 0x0E 2

/-- Where the stipple list lies from NET_ADDR. -/
def stippleOfs (b : List Byte) : Nat := leAt b 0x14 4

/-- A header keeps the limits of Table PRS-1, its alignments apart. -/
def headerOk (b : List Byte) : Bool :=
  decide (leAt b 0 4 = 0x4D494B5A) && decide (leAt b 4 2 = 1) && [2, 3, 4, 5, 6, 8].contains (byteAt b 6) &&
  decide (byteAt b 7 < 2) && decide (1 ≤ leAt b 8 2 ∧ leAt b 8 2 ≤ 2048) && decide (leAt b 0x0A 2 < leAt b 8 2) &&
  (decide (leAt b 0x0C 2 < leAt b 8 2) || decide (leAt b 0x0C 2 = 0xFFFF)) && decide (stippleCount b ≤ 64) &&
  decide (leAt b 0x18 4 ≤ 0x600000) && (slice b 0x20 96).all (fun x => decide (x = 0))

/-- A header keeps its alignments (R425). -/
def headerAligned (b : List Byte) : Bool :=
  decide (leAt b 0x10 4 % 128 = 0) && (decide (stippleCount b = 0) || decide (stippleOfs b % 8 = 0))

/-- The entries of a stipple list: two screens and the intent (R413). -/
def stippleList (b : List Byte) (n : Nat) : List (Nat × Nat × Nat) :=
  (List.range n).map (fun i => (byteAt b (8 * i), byteAt b (8 * i + 1), byteAt b (8 * i + 2)))

/-- An entry breaks R414 with BAD_OPCODE. -/
def stippleBad (e : Nat × Nat × Nat) : Bool := decide (15 < e.1 ∨ 15 < e.2.1 ∨ 1 < e.2.2 ∨ (e.2.2 = 1 ∧ e.1 ≠ e.2.1))

/-! ### Verdicts -/

/-- What the checks of a fetched descriptor say: something is still being read, a status, or the descriptor may execute with what
was read with it. -/
inductive Verdict where
  | wait
  | bad (status detail : Nat) (rejected : Bool)
  | good (extra : List (List Byte))
  deriving DecidableEq, Repr

/-- The first status of R157 among BAD_OPCODE and BAD_ALIGN, with the least offset at fault. -/
def fieldVerdict (op al : List Nat) : Option Verdict :=
  match leastOf op with
  | some o => some (.bad stBadOpcode o true)
  | none => (leastOf al).map (fun o => .bad stBadAlign o true)

/-- The verdict on a read that failed. -/
def readVerdict (a : StkStatus) : Option Verdict :=
  match stkFail a with
  | some (st, d) => some (.bad st d (decide (st = stPartition)))
  | none => none

/-- Offsets whose condition fails. -/
def failing (cs : List (Nat × Bool)) : List Nat := (cs.filter (fun c => !c.2)).map (·.1)

/-! ### Permission (R157, R663) -/

/-- A request of ring r's work. -/
def State.ringReq (s : State) (r : Ring) (op : AccessOp) (addr : Nat) : StkReq :=
  { src := s.unit, agent := agentRing r.val, cls := s.ringCls r, op := op, addr := addr }

/-- Whether an access may be made, judged by what this unit holds: the unit that denies it. The refusal is counted. -/
def State.permit (s : State) (q : StkReq) : Option Nat × State :=
  let u := stkUnit q.addr
  if accLen q.op = 0 then (none, s)
  else if u = s.unit then
    match s.refusal q with
    | some (g, src) => (some u, s.deny q.src g src)
    | none => (none, s)
  else if s.sourceRefuses q then (some u, s.deny q.src false true)
  else (none, s)

/-- The first of some accesses that may not be made. -/
def State.permitAll (s : State) (qs : List StkReq) : Option Nat × State :=
  qs.foldl (fun a q => match a with | (some u, s) => (some u, s) | (none, s) => s.permit q) (none, s)

/-- The verdict once every field check has passed: PARTITION, or what follows. -/
def State.permitThen (s : State) (qs : List StkReq) (v : Verdict) : Verdict × State :=
  match s.permitAll qs with
  | (some u, s) => (.bad stPartition u true, s)
  | (none, s) => (v, s)

/-- A write of n bytes, to ask whether it may be made. -/
def writeOf (n : Nat) : AccessOp := .write (List.replicate n 0)

/-! ### NET_LAUNCH -/

/-- The presses that a GUARD-class launch may name: the PRIMARY of each enabled pair (R711). -/
def State.primaries (s : State) : List Nat :=
  ((List.range 4).filter (fun k => s.bitF (GRD_PAIR.EN k))).map (fun k => s.getF (GRD_PAIR.PRIMARY k))

/-- The field checks of a NET_LAUNCH that a GUARD ring adds (R711). -/
def State.guardLaunchBad (s : State) (n : NetDesc) : List Nat :=
  failing [(0x24, (List.range 16).all (fun p => !n.mask.testBit p || s.primaries.contains p)),
           (0x18, s.parts.any (fun e => e.guard && decide (stkUnit e.base = s.unit) && e.covers n.out 64))]

/-- The lowest press of a mask. -/
def lowestOf (mask : Nat) : Nat := ((List.range 16).find? mask.testBit).getD 0

/-- The checks of a NET_LAUNCH, its header and stipple list being read with it. -/
def State.checkNet (s : State) (r : Ring) (d : List Byte) : Verdict × State :=
  let n := NetDesc.of d
  let guard := decide (s.ringCls r = 0)
  match s.stkDo (s.ringReq r (.read 128) n.net) with
  | (ha, s) =>
    if ha.status = .wait then (.wait, s)
    else
      let h := ha.data
      let seen := decide (ha.status = .ok)
      let cnt := if seen && headerOk h && headerAligned h then stippleCount h else 0
      match s.stkDo (s.ringReq r (.read (8 * cnt)) (n.net + stippleOfs h)) with
      | (la, s) =>
        if la.status = .wait then (.wait, s)
        else
          let st := if la.status = .ok then stippleList la.data cnt else []
          let op := failing [(0x08, !seen || (headerOk h && !st.any stippleBad)),
            (0x24, decide (n.mask ≠ 0 ∧ n.mask &&& s.getF SCP_ID.PRESS_MAP = n.mask)), (0x28, decide (n.argLen ≤ 1048576))] ++
            (if guard then s.guardLaunchBad n else [])
          let al := failing [(0x08, decide (n.net % 128 = 0) && (!seen || headerAligned h)), (0x10, decide (n.arg % 64 = 0)),
            (0x18, decide (n.out % 64 = 0)), (0x28, decide (n.argLen % 64 = 0))]
          match fieldVerdict op al, readVerdict ha.status, readVerdict la.status with
          | some v, _, _ => (v, s)
          | none, some v, _ => (v, s)
          | none, none, some v => (v, s)
          | none, none, none =>
            let hd := Header.of h
            let good : Verdict :=
              match st.find? (fun e => decide (e.2.2 = 0 ∧ e.1 = e.2.1)) with
              | some e => .bad stScreenAlias e.1 true
              | none =>
                if guard && (hd.stoch || st.any (fun e => decide (e.2.2 = 0))) then .bad stDeterminism (lowestOf n.mask) true
                else .good [h]
            s.permitThen [s.ringReq r (.read (128 * hd.count)) (n.net + hd.slugOfs)] good

/-! ### COPY -/

/-- Read an imposition table whole, its header telling its size: none while it is being read (R521, R523). -/
def State.readTable (s : State) (r : Ring) (dist : Bool) (addr : Nat) : Option StkAns × State :=
  if !dist then (some {}, s)
  else
    match s.stkDo (s.ringReq r (.read 64) addr) with
    | (a, s) =>
      if a.status = .wait then (none, s)
      else if a.status ≠ .ok then (some a, s)
      else
        let k := min 4096 (leAt a.data 8 4)
        match s.stkDo (s.ringReq r (.read (64 + 8 * k)) addr) with
        | (b, s) => (if b.status = .wait then none else some b, s)

/-- Where an operand lies: none for a table that breaks R522. -/
def placingOf (dist : Bool) (addr code n : Nat) (tab : List Byte) : Option Placing :=
  if dist then distTable addr code tab n else some { base := addr }

/-- The checks of a COPY, its shape record and imposition tables being read with it. -/
def State.checkCopy (s : State) (r : Ring) (d : List Byte) : Verdict × State :=
  let c := copyOf d
  match s.stkDo (s.ringReq r (.read 64) c.shape) with
  | (sa, s) =>
    if sa.status = .wait then (.wait, s)
    else
      let seen := decide (sa.status = .ok)
      let h := Shape.ofBytes sa.data
      let shaped := seen && shapeLimits sa.data
      match s.readTable r (shaped && h.srcDist) c.src with
      | (none, s) => (.wait, s)
      | (some ta, s) =>
        match s.readTable r (shaped && h.dstDist) c.dst with
        | (none, s) => (.wait, s)
        | (some tb, s) =>
          let ps := placingOf h.srcDist c.src c.srcImp (h.extent c.srcImp) ta.data
          let pd := placingOf h.dstDist c.dst c.dstImp ((h.permute c.perm).extent c.dstImp) tb.data
          let op := (if seen then copyBad c sa.data else []) ++
            failing [(0x08, !shaped || ta.status ≠ .ok || ps.isSome), (0x10, !shaped || tb.status ≠ .ok || pd.isSome)]
          let al := failing [(0x08, decide (c.src % 64 = 0)), (0x10, decide (c.dst % 64 = 0)), (0x18, decide (c.shape % 64 = 0))]
          match fieldVerdict op al, readVerdict sa.status, readVerdict ta.status, readVerdict tb.status with
          | some v, _, _, _ => (v, s)
          | none, some v, _, _ => (v, s)
          | none, none, some v, _ => (v, s)
          | none, none, none, some v => (v, s)
          | none, none, none, none =>
            match ps, pd with
            | some ps, some pd =>
              let reads := (ps.spans (h.extent c.srcImp)).map (fun x => s.ringReq r (.read x.2) x.1)
              let writes := (pd.spans ((h.permute c.perm).extent c.dstImp)).map (fun x => s.ringReq r (writeOf x.2) x.1)
              s.permitThen (if copyNoop c h then [] else reads ++ writes)
                (if copyOverlaps c h ps pd then .bad stOverlap 0 true else .good [sa.data, ta.data, tb.data])
            | _, _ => (.bad stBadOpcode 0x08 true, s)

/-! ### The other opcodes -/

/-- A bus address of the host swap area (R577). -/
def State.inSwapArea (s : State) (a : Nat) : Bool :=
  let base := (s.reg SCN_SWAP_BASE).toNat
  decide (base ≤ a ∧ a < base + 1024 * 4096 * s.getF SCN_SWAP_CFG.STRIDE)

/-- The limits of the fields of the opcodes that read nothing with the descriptor: offset, and whether the field keeps its limit. -/
def State.fieldLimits (s : State) (d : List Byte) : List (Nat × Bool) :=
  let seq := (0x08, decide (leAt d 8 2 < 1024))
  let host := leAt d 0x10 8
  match dOp d with
  | 0x00 => []
  | 0x03 => [seq, (0x0A, decide (4 ≤ byteAt d 0x0A ∧ byteAt d 0x0A ≤ 11)), (0x0C, decide (1 ≤ leAt d 0x0C 4 ∧ leAt d 0x0C 4 ≤ 4096))]
  | 0x04 => [seq]
  | 0x05 => [seq, (0x10, s.inSwapArea host)]
  | 0x06 => [seq, (0x10, decide (host = 0) || s.inSwapArea host)]
  | 0x07 => [(0x18, decide (64 ≤ leAt d 0x18 4 ∧ leAt d 0x18 4 ≤ 2 ^ 30))]
  | 0x08 => [(0x18, decide (64 ≤ leAt d 0x18 4 ∧ leAt d 0x18 4 ≤ 2 ^ 30))]
  | 0x09 => [(0x10, decide (byteAt d 0x10 ≤ 2))]
  | 0x0A =>
    let trg := (0x08, decide (byteAt d 8 ≤ 7))
    let pol := (0x09, decide (byteAt d 9 ≤ 1))
    let width := leAt d 0x20 4
    [trg, pol, (0x18, decide (leAt d 0x18 4 ≤ 999999999)),
          (0x1C, decide (leAt d 0x0C 4 ≤ 1 ∨ width + 4 ≤ leAt d 0x1C 4)), (0x20, decide (4 ≤ width))]
  | 0x0B => [(0x0C, decide (byteAt d 0x0C ≤ 2))]
  | 0x0C => [(0x08, decide (byteAt d 8 ≤ 2)), (0x09, decide (byteAt d 9 ≤ 1))]
  | _ => [(0x00, false)]

/-- The alignments of the same opcodes. -/
def alignLimits (d : List Byte) : List (Nat × Bool) :=
  match dOp d with
  | 0x05 => [(0x10, decide (leAt d 0x10 8 % 4096 = 0)), (0x18, decide (leAt d 0x18 8 % 4096 = 0))]
  | 0x06 => [(0x10, decide (leAt d 0x10 8 % 4096 = 0)), (0x18, decide (leAt d 0x18 8 % 4096 = 0))]
  | 0x07 => [(0x08, decide (leAt d 8 8 % 64 = 0)), (0x10, decide (leAt d 0x10 8 % 64 = 0)), (0x18, decide (leAt d 0x18 4 % 64 = 0))]
  | 0x08 => [(0x08, decide (leAt d 8 8 % 64 = 0)), (0x10, decide (leAt d 0x10 8 % 64 = 0)), (0x18, decide (leAt d 0x18 4 % 64 = 0))]
  | 0x09 => [(0x08, decide (leAt d 8 8 % 8 = 0))]
  | _ => []

/-- The operation of a POOL_ATOMIC. -/
def poolAtomic (d : List Byte) : AccessOp :=
  let x := BitVec.ofNat 64 (leAt d 0x18 8)
  match byteAt d 0x10 with
  | 0 => .fetchAdd x
  | 1 => .compareSwap (BitVec.ofNat 64 (leAt d 0x20 8)) x
  | _ => .swap x

/-- The stock accesses that the pool opcodes make. -/
def State.poolReqs (s : State) (r : Ring) (d : List Byte) : List StkReq :=
  let a := leAt d 8 8
  match dOp d with
  | 0x07 => [s.ringReq r (.read (leAt d 0x18 4)) a]
  | 0x08 => [s.ringReq r (writeOf (leAt d 0x18 4)) a]
  | 0x09 => [s.ringReq r (poolAtomic d) a]
  | _ => []

/-- The checks of R157 after DUPLICATE. -/
def State.checkDesc (s : State) (r : Ring) (d : List Byte) : Verdict × State :=
  if dOp d = 0x01 then s.checkNet r d
  else if dOp d = 0x02 then s.checkCopy r d
  else
    match fieldVerdict (failing (s.fieldLimits d)) (failing (alignLimits d)) with
    | some v => (v, s)
    | none => s.permitThen (s.poolReqs r d) (.good [])

/-! ### The fetch -/

/-- A tag is in flight on the ring or in its window (R160). -/
def Ring64.knows (x : Ring64) (tag : Nat) : Bool := x.window.contains tag || x.flights.any (fun f => decide (f.tag = tag))

/-- A descriptor fetched from the SQ head becomes one in flight, with the result that its checks gave it, if any. -/
def State.take (s : State) (r : Ring) (f : Flight) (c : Option Compl) : State :=
  let s := s.arbServe r
  let s := s.setF (HST_RING_STATUS.SQ_HEAD r.val) ((s.sqHead r + 1) % s.sqSize r)
  s.modRing r (fun x => { x with flights := x.flights ++ [f], results := x.results ++ c.toList, fetched := none })

/-- The descriptor at the head of ring r: as it was read, if its checks still wait, else from host memory (R134). -/
def State.headDesc (s : State) (r : Ring) (ok : Bool) : StkAns × State :=
  match (s.ring r).fetched with
  | some d => ({ data := d }, s)
  | none =>
    if ok then s.busRead r.val (s.ringCls r) (s.getF (HST_SQ_BASE.BASE r.val) * 4096 + 64 * s.sqHead r) 64 else ({ status := .poison }, s)

/-- Fetch the next descriptor of ring r. ok: the host answers the read. The arbiter decides which ring is served (R143), and the
command of another ring has no effect. -/
def State.fetchDesc (s : State) (r : Ring) (ok : Bool) : State :=
  if s.arbNext ≠ some r then s
  else
    let slot := s.sqHead r
    let a := s.headDesc r ok
    if a.1.status = .wait then a.2
    else if a.1.status ≠ .ok then a.2.ringError r 3
    else
      let s := a.2
      let d := a.1.data
      let f : Flight := { slot := slot, tag := dTag d, desc := d }
      let irq := byteAt d 1 / 2 % 2 = 1
      if (s.ring r).knows f.tag then
        s.take r { f with done := true } (some { tag := f.tag, slot := slot, status := stDuplicate, irqNow := irq })
      else
        match s.checkDesc r d with
        | (.wait, s) => s.modRing r (fun x => { x with fetched := some d })
        | (.bad st dt rej, s) =>
          s.take r { f with done := true } (some { tag := f.tag, slot := slot, status := st, detail := dt, irqNow := irq, rejected := rej })
        | (.good extra, s) => s.take r { f with extra := extra } none

/-- DESCRIPTOR_FETCH (R157). -/
def execDescriptorFetch (r : Ring) (ok : Bool) (s : State) : Result := s.live (s.fetchDesc r ok)

end Sys2Proof.Machine
end

