-- ==== Sys2Proof/Machine/Proof.lean ====
section
/-!
DEFINITION. Guard pairs and the proof comparator (R710, R712, R715, R716): the stores of a PRIMARY and of its SHADOW are compared
entry by entry, and one of each equal pair is sent on.
-/

namespace Sys2Proof.Machine

/-- The comparator of pair k. -/
def State.proof (s : State) (k : Fin 4) : ProofPair := s.grd.pairs[k]

/-- Replace the comparator of pair k. -/
def State.setProof (s : State) (k : Fin 4) (x : ProofPair) : State := s.setGrd { s.grd with pairs := s.grd.pairs.set k x }

/-- The PRIMARY and the SHADOW of pair k. -/
def State.pairPresses (s : State) (k : Fin 4) : Press × Press :=
  (pressOf (s.getF (GRD_PAIR.PRIMARY k.val)), pressOf (s.getF (GRD_PAIR.SHADOW k.val)))

/-- The pair of press n, when n runs a GUARD-class launch. -/
def State.proofPair (s : State) (n : Press) : Option (Fin 4 × Bool) :=
  match s.launchOn n with
  | some l => if l.cls = 0 then s.pairOf n.val else none
  | none => none

/-- The press that takes the items of a GSEND to press d (R712). -/
def State.sendDest (s : State) (n d : Press) : Press :=
  match s.proofPair n with
  | some (_, true) =>
    match (List.finRange 4).find? (fun k => s.bitF (GRD_PAIR.EN k.val) && decide ((s.pairPresses k).1 = d)) with
    | some k => (s.pairPresses k).2
    | none => d
  | _ => d

/-- The pairs whose PRIMARY the launch names. -/
def State.pairsOf (s : State) (l : Launch) : List (Fin 4) :=
  (List.finRange 4).filter (fun k => s.bitF (GRD_PAIR.EN k.val) && l.mask.testBit (s.pairPresses k).1.val)

/-- A press becomes SUSPECT, and a pass on it goes ahead of the periodic ones (R756). -/
def State.suspect (s : State) (n : Press) : State :=
  let s := s.setF (REP_PRESS.SUSPECT n.val) 1
  { s with rep := { s.rep with bist := s.rep.bist.set n { s.rep.bist[n] with forced := true } } }

/-- A mismatch in pair k (R716, R729, R736, R756): the launch stops, nothing further is sent, the notice is raised, the cause latches,
the pins go safe and both presses become SUSPECT. -/
def State.proofMismatch (s : State) (k : Fin 4) (atEnd : Bool) : State :=
  let pp := s.pairPresses k
  match s.launchOn pp.1 with
  | none => s
  | some l =>
    let entry := (s.proof k).count
    let s := s.stopLaunchBy l.key { status := stInvalid }
    let s := (s.pairsOf l).foldl (fun s j =>
      let s := s.setProof j { s.proof j with a := [], b := [], stopped := true }
      (s.modPress (s.pairPresses j).1 (fun p => { p with sb := [] })).modPress (s.pairPresses j).2 (fun p => { p with sb := [] })) s
    let s := s.setF GRD_MISMATCH.PRIMARY pp.1.val
    let s := s.setF GRD_MISMATCH.SHADOW pp.2.val
    let s := s.setF GRD_MISMATCH.AT_END atEnd.toNat
    let s := s.setF GRD_MISMATCH.ENTRY entry
    let s := s.setF GRD_MISMATCH.EPOCH l.epoch
    let s := s.incSat GRD_COUNT.MISMATCHES
    let s := s.raise .proofMismatch
    let s := ((s.guardCause l.epoch causeProof).guardLatch l.epoch causeProof).safeEnter
    (s.suspect pp.1).suspect pp.2

/-- What the comparator compares of two entries (R715): address, operation with its length and data, class and tag epoch. -/
def SbEntry.same (x y : SbEntry) : Bool :=
  decide (x.addr = y.addr) && decide (x.op = y.op) && decide (x.cls = y.cls) && decide (x.epoch = y.epoch)

/-- The result of a stream arrives. -/
def PressSt.result (p : PressSt) (sid : Nat) (v : U64) : PressSt :=
  { p with streams := p.streams.map (fun x => if x.sid = sid then { x with val := some v, todo := none } else x) }

/-- Compare the oldest entries of the two copies of pair k, once both have one (R715). -/
def State.proofStep (s : State) (k : Fin 4) : State :=
  let c := s.proof k
  let pp := s.pairPresses k
  match c.a, c.b with
  | x :: xs, y :: ys =>
    if !x.same y then s.proofMismatch k false
    else
      match s.stkDo { src := s.unit, agent := pp.1.val, cls := x.cls, op := x.op, addr := x.addr, epoch := x.epoch } with
      | (a, s) =>
        if a.status = .wait then s
        else
          let s := s.setProof k { c with a := xs, b := ys, count := c.count + 1 }
          if a.status = .ok then
            let s := match (s.press pp.1).launch with | some key => s.noteOut key x.addr (accLen x.op) | none => s
            if accAtomic x.op then
              let v : U64 := BitVec.ofNat 64 (leNat a.data)
              (s.modPress pp.1 (fun p => p.result x.sid v)).modPress pp.2 (fun p => p.result y.sid v)
            else s
          else s.stkExc pp.1 5 x.addr a.status
  | _, _ => s

/-- A copy hands its oldest store-buffer entry to the comparator, which holds 64 from each; then the oldest of both copies are
compared (R715). -/
def State.proofTake (s : State) (n : Press) (k : Fin 4) (shadow : Bool) : State :=
  let c := s.proof k
  let p := s.press n
  let s :=
    match p.sb with
    | [] => s
    | e :: es =>
      if c.stopped then s.setPress n { p with sb := es }
      else if 64 ≤ (if shadow then c.b else c.a).length then s
      else (s.setPress n { p with sb := es }).setProof k
        (if shadow then { c with b := c.b ++ [e] } else { c with a := c.a ++ [e] })
  s.proofStep k

/-- A copy whose comparator holds 64 entries of it is as far ahead of its twin as it may be (R715). -/
def State.proofFull (s : State) (n : Press) : Bool :=
  match s.proofPair n with
  | some (k, shadow) => decide (64 ≤ (if shadow then (s.proof k).b else (s.proof k).a).length)
  | none => false

/-- A copy reaches END: once both have, they must agree in their entries and in the slugs they retired (R716). -/
def State.proofEnd (s : State) (n : Press) : State :=
  match s.proofPair n with
  | none => s
  | some (k, shadow) =>
    let c := s.proof k
    let p := s.press n
    let e := (c.count + (if shadow then c.b else c.a).length + p.sb.length, p.retired)
    let c := if c.endA.isNone && c.endB.isNone then { c with endAt := s.dtl.count } else c
    let c := if shadow then { c with endB := some e } else { c with endA := some e }
    let s := s.setProof k c
    match c.endA, c.endB with
    | some x, some y => if x = y then s else s.proofMismatch k true
    | _, _ => s

/-- Launches of pair k begin with an empty comparator. -/
def State.proofStart (s : State) (k : Fin 4) : State := s.setProof k {}

/-- PROOF_END_SKEW_TIMEOUT (R716): 64 µs after one copy's END the other has not reached END. -/
def execProofEndSkewTimeout (t : Tick) (k : Fin 4) (s : State) : Result :=
  s.live (
    let s := s.at t
    let c := s.proof k
    (if !c.stopped && (c.endA.isSome != c.endB.isSome) && decide (c.endAt + usTicks 64 ≤ s.dtl.count) && (s.proofPair (s.pairPresses k).1).isSome
     then s.proofMismatch k true else s))

end Sys2Proof.Machine
end

