-- ==== Sys2Proof/Machine/Scene.lean ====
section
/-!
DEFINITION. Scene memory (R533 to R563, R577 to R584): geometry, folio lists, allocation, pre-emption and swap, the coarse
index, and what a folio walk delivers. What the text leaves open is in log entry 18.
-/

namespace Sys2Proof.Machine

/-- Replace scene memory. -/
def State.setScn (s : State) (x : Scn) : State := { s with scn := x }

/-! ### Geometry (R533, R535, R536, R548) -/

/-- The heads of the geometry. -/
def State.kvHeads (s : State) : Nat := s.getF SCN_GEOM.HEADS_M1 + 1

/-- The elements of a head. -/
def State.dHead (s : State) : Nat := 16 * s.getF SCN_GEOM.D16

/-- The stored width. -/
def State.kvWidth (s : State) : Nat := s.getF SCN_GEOM.A

/-- The grain size G in bytes (R533). -/
def State.grainBytes (s : State) : Nat := 4 * s.kvHeads * s.dHead * s.kvWidth

/-- Grains of a folio of 2^k tokens (R535). -/
def folioGrains (k : Nat) : Nat := 2 ^ (k - 4)

/-- Bytes of a folio. -/
def State.folioBytes (s : State) (k : Nat) : Nat := s.grainBytes * folioGrains k

/-- The stock address of a folio (R535). -/
def State.folioAddr (s : State) (f : Nat) : Nat := (s.reg SCN_POOL_BASE).toNat + s.grainBytes * f

/-- The bytes of a folio's summary (R548). -/
def State.summaryBytes (s : State) : Nat := s.kvHeads * (ceil64 (2 * s.dHead) + 64)

/-! ### Sequences (R539 to R541) -/

/-- Sequence q. -/
def State.seq (s : State) (q : Nat) : Sequence := tabGet {} s.scn.seqs q

/-- Replace sequence q. -/
def State.setSeq (s : State) (q : Nat) (x : Sequence) : State := s.setScn { s.scn with seqs := tabSet s.scn.seqs q x }

/-- The launches that hold a sequence, each until its final completion (R541). -/
def State.holders (s : State) (q : Nat) : List Launch := s.launches.filter (fun l => l.seqs.contains q && !l.posted)

/-- The code of a sequence state (Table SCN-1). -/
def SeqState.code : SeqState → Nat
  | .free => 0
  | .resident => 1
  | .preempting => 2
  | .swapped => 3
  | .swappingIn => 4

/-- SCN_SEQ_INFO as a read shows it for sequence q: TAG is that of a launch that holds it (R584). -/
def State.seqInfo (s : State) (q : Nat) : U64 :=
  let x := s.seq q
  let n := x.state.code + 2 ^ 4 * (x.kLog2 % 16) + 2 ^ 8 * (x.priority % 256) + 2 ^ 16 * (max x.folios.length x.parts.length % 2 ^ 13)
  BitVec.ofNat 64 (n + 2 ^ 32 * (((s.holders q).head?.map (·.tag)).getD 0))

/-- Some sequence is not FREE (R534). -/
def State.seqsInUse (s : State) : Bool := s.scn.seqs.any (fun e => decide (e.2.state ≠ .free))

/-- The runs of grains in use: start and length. -/
def State.grainsUsed (s : State) : List (Nat × Nat) :=
  s.scn.seqs.flatMap (fun e => e.2.folios.map (fun f => (f, folioGrains e.2.kLog2)))

/-- Free grains of the pool. -/
def State.grainsFree (s : State) : Nat := s.getF SCN_POOL_CFG.GRAINS - (s.grainsUsed.map (·.2)).sum

/-- The lowest free folio number of a size: free space begins at 0 or where a run in use ends (R535, R543). -/
def lowestFolio (used : List (Nat × Nat)) (step grains : Nat) : Option Nat :=
  leastOf ((0 :: used.map (fun u => ceilDiv (u.1 + u.2) step * step)).filter (fun f =>
    decide (f + step ≤ grains) && used.all (fun u => decide (f + step ≤ u.1 ∨ u.1 + u.2 ≤ f))))

/-- n folios of a size, each at the lowest free number; none when they are not all to be had (R543). -/
def takeFolios (step grains : Nat) : Nat → List (Nat × Nat) → Option (List Nat)
  | 0, _ => some []
  | n + 1, used =>
    match lowestFolio used step grains with
    | none => none
    | some f => (takeFolios step grains n ((f, step) :: used)).map (f :: ·)

/-- Write the folio list of sequence q to the stock, from entry i on (R539), for work of a class (R142). False where the write waits: the
state is then as it was but for the request. -/
def State.writeList (s : State) (q i cls : Nat) (folios : List Nat) : Bool × State :=
  match folios.drop i with
  | [] => (true, s)
  | fs =>
    match s.ownWrite ((s.reg SCN_LIST_BASE).toNat + 16384 * q + 4 * i) (fs.flatMap (leBytes 4)) cls with
    | (a, s) => (decide (a.status ≠ .wait), s)

/-! ### Pre-emption (R578 to R580) -/

/-- Sequence v is eligible for pre-emption by a request of priority p (R578). -/
def State.eligible (s : State) (p v : Nat) : Bool :=
  let x := s.seq v
  decide (x.state = .resident ∧ x.priority < p) && (s.holders v).all (fun l => decide (l.cls ≠ 0)) &&
  decide (x.folios.length * s.folioBytes x.kLog2 ≤ 4096 * s.getF SCN_SWAP_CFG.STRIDE) && s.bitF SCN_SWAP_CFG.SWAP_EN

/-- Sequence a is pre-empted before sequence b (R579). -/
def State.before (s : State) (a b : Nat) : Bool :=
  let ka := [(!(s.holders a).isEmpty).toNat, (s.seq a).priority, (s.seq a).walked]
  let kb := [(!(s.holders b).isEmpty).toNat, (s.seq b).priority, (s.seq b).walked]
  match (ka.zip kb).find? (fun p => decide (p.1 ≠ p.2)) with
  | some p => decide (p.1 < p.2)
  | none => decide (b < a)

/-- Put a value into a list in order. -/
def insertBy {α : Type} (le : α → α → Bool) (x : α) : List α → List α
  | [] => [x]
  | y :: r => if le x y then x :: y :: r else y :: insertBy le x r

/-- A list in order. -/
def sortBy {α : Type} (le : α → α → Bool) : List α → List α
  | [] => []
  | x :: r => insertBy le x (sortBy le r)

/-- The eligible sequences in the order they are pre-empted, but for the request's own (R579). -/
def State.victims (s : State) (p q : Nat) : List Nat :=
  sortBy s.before ((s.scn.seqs.map (·.1)).filter (fun v => decide (v ≠ q) && s.eligible p v))

/-- The grains in use once some sequences are gone. -/
def State.usedWithout (s : State) (vs : List Nat) : List (Nat × Nat) :=
  (s.scn.seqs.filter (fun e => !vs.contains e.1)).flatMap (fun e => e.2.folios.map (fun f => (f, folioGrains e.2.kLog2)))

/-- The fewest victims, in order, that let n folios of a size be had; none when all together do not (R579). -/
def State.victimsFor (s : State) (step n : Nat) (vs : List Nat) : Option (List Nat) :=
  ((List.range (vs.length + 1)).map (fun i => vs.take i)).find? (fun t =>
    (takeFolios step (s.getF SCN_POOL_CFG.GRAINS) n (s.usedWithout t)).isSome)

/-- A swap-out of sequence v begins: its holders stop (R580, R581). -/
def State.swapOutStart (s : State) (v host : Nat) (cause : Option (Nat × Nat)) : State :=
  let s := s.setSeq v { s.seq v with state := .preempting, hostAddr := host, cause := cause }
  (s.holders v).foldl (fun s l => s.stopLaunchBy l.key { status := stPreempted, detail := v }) s

/-- Pre-empt sequence v (R580). -/
def State.preempt (s : State) (v : Nat) : State :=
  (s.swapOutStart v ((s.reg SCN_SWAP_BASE).toNat + 4096 * s.getF SCN_SWAP_CFG.STRIDE * v) none).incSat SCN_STAT.PREEMPTIONS

/-! ### Swap (R580 to R583) -/

/-- Add to the bytes swapped. -/
def State.swapCount (s : State) (out : Bool) (n : Nat) : State :=
  let s := s.setScn (if out then { s.scn with outBytes := s.scn.outBytes + n } else { s.scn with inBytes := s.scn.inBytes + n })
  (s.setF SCN_SWAP_BYTES.OUT_MIB (min (2 ^ 32 - 1) (s.scn.outBytes / 2 ^ 20))).setF SCN_SWAP_BYTES.IN_MIB
    (min (2 ^ 32 - 1) (s.scn.inBytes / 2 ^ 20))

/-- Move every folio of sequence v to host memory: in list order, each at its list index; none while a read waits (R580). -/
def State.swapOutData (s : State) (v ring cls : Nat) : Option (List (Nat × Nat)) × State :=
  let x := s.seq v
  let n := s.folioBytes x.kLog2
  (x.folios.zipIdx).foldl (fun (a : Option (List (Nat × Nat)) × State) e =>
    match a with
    | (none, s) => (none, s)
    | (some ps, s) =>
      match s.ownRead (s.folioAddr e.1) n cls with
      | (ans, s) =>
        if ans.status = .wait then (none, s)
        else
          match s.busWrite ring cls (x.hostAddr + n * e.2) ans.data with
          | (b, s) => (if b.status = .wait then none else some (ps ++ [(e.2, crc32 ans.data)]), s)) (some [], s)

/-- The end of a swap-out: the grains return to the pool and the sequence is SWAPPED (R580). -/
def State.swapOutEnd (s : State) (v ring cls : Nat) : State :=
  match s.swapOutData v ring cls with
  | (none, s) => s
  | (some ps, s) =>
    let n := (s.seq v).folios.length * s.folioBytes (s.seq v).kLog2
    (s.setSeq v { s.seq v with state := .swapped, folios := [], parts := ps }).swapCount true n

/-- Read a sequence's folios back into those allocated; none while a read waits, false on a CRC that does not match
(R582, R583). -/
def State.swapInData (s : State) (v ring cls : Nat) : Option Bool × State :=
  let x := s.seq v
  let n := s.folioBytes x.kLog2
  (x.parts.zip x.folios).foldl (fun (a : Option Bool × State) e =>
    match a with
    | (some true, s) =>
      match s.busRead ring cls (x.readAt + n * e.1.1) n with
      | (ans, s) =>
        if ans.status = .wait then (none, s)
        else if ans.status = .ok && decide (crc32 ans.data = e.1.2) then
          match s.ownWrite (s.folioAddr e.2) ans.data cls with
          | (b, s) => (if b.status = .wait then none else some true, s)
        else (some false, s)
    | r => r) (some true, s)

/-! ### The coarse index (R548 to R550) -/

/-- A BF16 element of a byte list. -/
def bfAt (b : List Byte) (i : Nat) : U32 := bfRead (leAt b (2 * i) 2)

/-- A dot product of BF16 elements in element order, summed in FP32 (R550). -/
def bfDot (n : Nat) (a b : List Byte) : U32 := (List.range n).foldl (fun acc i => fFma (bfAt a i) (bfAt b i) acc) 0

/-- An FP32 word of a byte list. -/
def f32At (b : List Byte) (o : Nat) : U32 := BitVec.ofNat 32 (leAt b o 4)

/-- The score of a folio from its summary: none where it has none (R549, R550). q holds the query's heads. -/
def State.folioScore (s : State) (q sum : List Byte) : Option U32 :=
  let d := s.dHead
  let hb := ceil64 (2 * d) + 64
  let qb := ceil64 (2 * d)
  if leAt sum (ceil64 (2 * d) + 4) 4 = 0 then none
  else
    let beta := bfRead (s.getF SCN_INDEX_CFG.BETA)
    let one (h : Nat) : U32 :=
      let qh := slice q (qb * h) (2 * d)
      let sh := slice sum (hb * h) hb
      fAdd (bfDot d qh sh) (fMul (fMul beta (fSqrt (bfDot d qh qh))) (f32At sh (ceil64 (2 * d))))
    some ((List.range (s.kvHeads - 1)).foldl (fun m h => fMax m (one (h + 1))) (one 0))

/-- The list indices an indexed walk chooses, in ascending order (R550). scores holds those outside the window. -/
def chooseFolios (scores : List (Option U32)) (live win p : Nat) : List Nat :=
  let cand := (scores.zipIdx).filterMap (fun e => e.1.map (fun x => (e.2, x)))
  let best := (sortBy (fun (a b : Nat × U32) => !valLt (fRead a.2) (fRead b.2)) cand).take p
  sortBy (fun a b => decide (a ≤ b)) (best.map (·.1) ++ (List.range win).map (· + (live - win)))

/-! ### The walk (R551 to R563) -/

/-- What an FWALK was asked for (Table SCN-2). -/
structure WalkArgs where
  seq     : Nat
  qrows   : Nat
  v       : Bool
  indexed : Bool
  replay  : Bool
  shareR  : Nat
  shareN  : Nat
  tokens  : Nat
  lo      : Nat
  hi      : Nat
  deriving DecidableEq, Repr

/-- Read the operands from g[RA] and g[RB]. -/
def WalkArgs.of (ra rb : U64) : WalkArgs where
  seq := bitsOf ra.toNat 9 0
  qrows := bitsOf ra.toNat 15 10 + 1
  v := ra.getLsbD 16
  indexed := ra.getLsbD 17
  replay := ra.getLsbD 18
  shareR := bitsOf ra.toNat 23 20
  shareN := bitsOf ra.toNat 27 24 + 1
  tokens := bitsOf ra.toNat 63 32
  lo := bitsOf rb.toNat 31 0
  hi := bitsOf rb.toNat 63 32

/-- The retrieval size and the window of an indexed walk. -/
def WalkArgs.p (w : WalkArgs) : Nat := w.lo / 2 ^ 24 % 128
def WalkArgs.w (w : WalkArgs) : Nat := w.hi % 128

/-- The operands keep their limits (R552). P and W above 64 are outside Table SCN-2 (log entry 18). -/
def WalkArgs.legal (w : WalkArgs) : Bool :=
  !(w.indexed && w.replay) && decide (w.shareR < w.shareN) && (!w.indexed || decide (w.p ≤ 64 ∧ w.w ≤ 64))

/-- The share r of n entries over g (R553). -/
def shareOf (r g : Nat) (l : List Nat) : List Nat := (l.take ((r + 1) * l.length / g)).drop (r * l.length / g)

/-- Output bytes of a walk that delivers T tokens (R554, R555). -/
def State.walkBytes (s : State) (w : WalkArgs) (t : Nat) : Nat :=
  let d := s.dHead
  let a := s.kvWidth
  if w.v then s.kvHeads * (ceilDiv t 128 * ceilDiv d 512 * (a * 8192))
  else 1024 + s.kvHeads * (ceilDiv d 128 * ceilDiv t 512 * (a * 8192) + w.qrows * ceil64 (2 * t))

/-- The bucket of a distance (R563). -/
def biasBucket (d : Int) : Nat :=
  if d < 0 then 255
  else
    let n := d.toNat
    if n < 16 then n
    else
      let e := Nat.log2 n
      min 254 (16 + 8 * (e - 4) + n / 2 ^ (e - 3) % 8)

/-- The stored element of a folio: plane bits of head h, token t, element e; vhalf picks the V half (R536). -/
def State.stored (s : State) (k : Nat) (folio : List Byte) (vhalf : Bool) (h t e : Nat) : Nat :=
  let a := s.kvWidth
  let d := s.dHead
  let base := (if vhalf then s.kvHeads * 2 ^ k * a * d / 8 else 0) + (h * 2 ^ k + t) * a * d / 8
  (List.range a).foldl (fun v p => if (folio.getD (base + p * d / 8 + e / 8) 0).getLsbD (e % 8) then v + 2 ^ p else v) 0

/-- The bytes a walk writes: toks lists the delivered tokens (place in folios, token in the folio, position in the
sequence); idx the entries and their tokens (R554 to R556, R562, R563). -/
def State.walkOut (s : State) (w : WalkArgs) (k : Nat) (folios : List (List Byte)) (toks : List (Nat × Nat × Nat))
    (idx : List (Nat × Nat)) (total : Nat) (frisket : Nat → List Byte) : List Byte :=
  let a := s.kvWidth
  let d := s.dHead
  let n := toks.length
  let val (h tok e : Nat) : Nat :=
    let x := toks.getD tok (0, 0, 0)
    s.stored k (folios.getD x.1 []) w.v h x.2.1 e
  let shape (d0 d1 : Nat) : Shape :=
    { rank := 2, elem := 0, act := a, signed := false, srcDist := false, dstDist := false, dims := [d0, d1] }
  if w.v then
    (List.range s.kvHeads).flatMap (fun h =>
      (List.range (ceilDiv n 128 * ceilDiv d 512 * (a * 8192))).map (toAct (shape n d) impWPlane (fun tok e => val h tok e)))
  else
    let header := slice (leBytes 4 idx.length ++ leBytes 4 n ++ List.replicate 56 0 ++
      (idx.take 240).flatMap (fun e => leBytes 2 e.1 ++ leBytes 2 e.2)) 0 1024
    let keys := (List.range s.kvHeads).flatMap (fun h =>
      (List.range (ceilDiv d 128 * ceilDiv n 512 * (a * 8192))).map (toAct (shape d n) impWPlane (fun e tok => val h tok e)))
    let bias := (List.range s.kvHeads).flatMap (fun h =>
      let tab := frisket h
      (List.range w.qrows).flatMap (fun (q : Nat) =>
        let x : Int := (total : Int) - (w.qrows : Int) + (q : Int)
        slice (toks.flatMap (fun t => slice tab (2 * biasBucket (x - t.2.2)) 2)) 0 (ceil64 (2 * n))))
    header ++ keys ++ bias

/-- The outcome of a walk: the RD word, the bytes for the Bank, and the selection of an indexed K walk. -/
structure Walked where
  rd    : U64
  bytes : List Byte
  sel   : Option (List Nat) := none
  deriving DecidableEq, Repr

/-- The RD word of a walk (R558). -/
def walkWord (tokens entries : Nat) (trunc noSel : Bool) : U64 :=
  BitVec.ofNat 64 (tokens % 2 ^ 32 + 2 ^ 32 * (entries % 256) + 2 ^ 61 * trunc.toNat + 2 ^ 62 * noSel.toNat +
    2 ^ 63 * (decide (tokens = 0)).toNat)

/-- Read several runs of bytes of the pool, the index or the frisket. -/
def State.walkReads (s : State) (l : List (Nat × Nat)) : Got (List (List Byte)) × State :=
  l.foldl (fun r x => gotThen r fun bs s => gotThen (s.agentGet x.1 x.2) fun b s => (.ok (bs ++ [b]), s)) (.ok [], s)

/-- The most entries, in order, whose output fits in the Bank (R559). -/
def State.fitting (s : State) (w : WalkArgs) (bank : Nat) (per : Nat → Nat) (sel : List Nat) : List Nat :=
  (((List.range (sel.length + 1)).map (fun i => sel.take i)).filter (fun t =>
    decide (bank + s.walkBytes w (t.map per).sum ≤ bankEnd))).getLastD []

/-- Walk a RESIDENT sequence: bank is the Bank address, bankRead reads the Bank, and last the selection of the last
indexed K walk (R551 to R563). -/
def State.walk (s : State) (w : WalkArgs) (bank : Nat) (bankRead : Nat → Nat → List Byte) (last : Option (List Nat)) :
    Got Walked × State :=
  let x := s.seq w.seq
  let k := x.kLog2
  let total := if w.tokens = 0 then x.folios.length * 2 ^ k else w.tokens
  let live := min (ceilDiv total (2 ^ k)) x.folios.length
  let per (i : Nat) : Nat := min (2 ^ k) (total - i * 2 ^ k)
  let deliver (sel : List Nat) (keep : Option (List Nat)) (s : State) : Got Walked × State :=
    let mine := (shareOf w.shareR w.shareN sel).filter (fun i => decide (i < live))
    let fit := s.fitting w bank per mine
    let idx := fit.map (fun i => (i, per i))
    let toks := (fit.zipIdx).flatMap (fun e => (List.range (per e.1)).map (fun t => (e.2, t, e.1 * 2 ^ k + t)))
    gotThen (s.walkReads (fit.map (fun i => (s.folioAddr (x.folios.getD i 0), s.folioBytes k)))) fun fs s =>
      gotThen (s.walkReads (if w.v then [] else (List.range s.kvHeads).map (fun h =>
          ((s.reg SCN_FRISKET_BASE).toNat + 512 * (x.fset * s.kvHeads + h), 512)))) fun tabs s =>
        let out := s.walkOut w k fs toks idx total (fun h => tabs.getD h [])
        let fitsHeader := decide (bank + s.walkBytes w 0 ≤ bankEnd)
        (.ok { rd := walkWord toks.length fit.length (decide (fit.length < mine.length) || !fitsHeader) false,
               bytes := if fitsHeader then out else [], sel := keep }, s)
  if w.replay then
    let h := bankRead (w.lo % 2 ^ 24) 1024
    deliver ((List.range (min 240 (leAt h 0 4))).map (fun i => leAt h (64 + 4 * i) 2)) none s
  else if w.indexed then
    if w.v then
      match last with
      | none => (.ok { rd := walkWord 0 0 false true, bytes := [] }, s)
      | some sel => deliver sel none s
    else
      let win := min w.w live
      let q := bankRead (w.lo % 2 ^ 24) (s.kvHeads * ceil64 (2 * s.dHead))
      gotThen (s.walkReads ((List.range (live - win)).map (fun i =>
          ((s.reg SCN_INDEX_BASE).toNat + s.summaryBytes * x.folios.getD i 0, s.summaryBytes)))) fun sums s =>
        let sel := chooseFolios (sums.map (s.folioScore q)) live win w.p
        deliver sel (some sel) s
  else deliver (((List.range (min w.hi x.folios.length)).map (· + w.lo)).filter (fun i => decide (i < x.folios.length))) none s

end Sys2Proof.Machine
end

