-- ==== Sys2Proof/Machine/Slug.lean ====
section
/-!
DEFINITION. The slug (R474 to R480, R486, R489, R494 to R509): its control field, the operations of its slots, and the
encoding checks of R476. A reserved opcode, a nonzero reserved field or a value outside its limits decodes to none, and
the slot that holds it raises ILLEGAL.
-/

namespace Sys2Proof.Machine

/-- Scalar operations of CTL (Table SLG-6). -/
inductive AluOp where
  | add | sub | and | or | xor | shl | shr | sar | mul
  deriving DecidableEq, Repr

/-- A second operand: a register, or a constant of the slot. -/
inductive Opnd where
  | reg (r : Reg)
  | imm (v : U64)
  deriving DecidableEq, Repr

/-- Operations of the CTL slot. -/
inductive CtlOp where
  | nop
  | alu (op : AluOp) (rd ra : Reg) (b : Opnd)
  | movi (rd : Reg) (imm : U32)
  | movhi (rd ra : Reg) (imm : U32)
  | cmp (pd : Pred) (c : Cond) (ra : Reg) (b : Opnd)
  | plog (pd : Pred) (op : LogicOp) (pa pb : Pred)
  | br (imm : U32)
  | jr (ra : Reg)
  | call (imm : U32)
  | loop (rd : Reg) (imm : U32)
  | gwait (onEnd : Bool) (words : Nat)
  | gcount (rd : Reg)
  | gpop (rd : Reg) (pd : Pred)
  | fence (k : FenceKind)
  | bwait (mask : Nat)
  | rdsr (rd : Reg) (idx : Nat)
  | trap
  | resume (ra : Reg)
  | stop
  deriving DecidableEq, Repr

/-- INT32 lane operations. -/
inductive IntOp where
  | add | sub | mul | max | min
  deriving DecidableEq, Repr

/-- Floating-point lane operations. -/
inductive FpOp where
  | add | sub | mul | fma | max | min
  deriving DecidableEq, Repr

/-- Lane reductions. -/
inductive RedOp where
  | fsum | fmax | isum | imax
  deriving DecidableEq, Repr

/-- One operation of the FTN slot. -/
inductive FtnOp where
  | nop
  | vld (vd : VReg) (gb : Reg) (addr : Nat)
  | vst (va : VReg) (gb : Reg) (addr : Nat)
  | vstp (va : VReg) (gb : Reg) (addr : Nat)
  | apop (vd vc : VReg) (satv : Bool)
  | sst (va vb : VReg) (gb : Reg) (addr : Nat)
  | vmovg (vd : VReg) (ga : Reg)
  | gmovv (gd : Reg) (va : VReg)
  | int (op : IntOp) (vd va vb : VReg)
  | fp (op : FpOp) (vd va vb vc : VReg) (bf rnd : Bool)
  | req (vd va vb : VReg) (sh : Nat) (z : BitVec 16) (sout rnd : Bool)
  | f2b (vd va vb : VReg) (rnd : Bool)
  | b2f (vd va : VReg) (high : Bool)
  | i2f (vd va : VReg)
  | exp (vd va : VReg)
  | log (vd va : VReg)
  | red (op : RedOp) (vd va : VReg)
  deriving DecidableEq, Repr

/-- Operations of the MOV slot (Table SLG-14). -/
inductive MovKind where
  | sload | sstore | satom | gsend | grecv | bcopy | icopy | brick | fwalk
  deriving DecidableEq, Repr

/-- One slot operation of any kind. -/
inductive SlotOp where
  | ctl (o : CtlOp)
  | wload (f : AryFields)
  | run (f : AryFields)
  | build (b : BuildFields)
  | peek (group plane addr : Nat)
  | ftn (o : FtnOp)
  | hload (f : HndFields)
  | hrun (f : HndFields)
  | mov (k : MovKind) (f : MovFields)
  /-- A NOP of the slot with the number. -/
  | nop (slot : Nat)
  deriving DecidableEq, Repr

/-- The number of an operation's slot: 0 CTL, 1 ARY, 2 CAS, 3 FTN, 4 HND, 5 MOV. -/
def SlotOp.slot : SlotOp → Nat
  | .ctl _ => 0
  | .wload _ => 1
  | .run _ => 1
  | .build _ => 2
  | .peek _ _ _ => 2
  | .ftn _ => 3
  | .hload _ => 4
  | .hrun _ => 4
  | .mov _ _ => 5
  | .nop n => n

/-! ### Field values (R476, R489, R494, R503 and the limits of the slot tables) -/

/-- The bits [hi:lo] of a slot. -/
def fld (w hi lo : Nat) : Nat := w / 2 ^ lo % 2 ^ (hi + 1 - lo)

/-- A register named by five bits. -/
def regAtBits (w lo : Nat) : Reg := ⟨w / 2 ^ lo % 32, Nat.mod_lt _ (by decide)⟩

/-- A predicate named by three bits. -/
def predAtBits (w lo : Nat) : Pred := ⟨w / 2 ^ lo % 8, Nat.mod_lt _ (by decide)⟩

/-- A one-bit field. -/
def flag (w i : Nat) : Bool := w.testBit i

/-- The sign-extended 64-bit value of a 32-bit immediate. -/
def sext32 (v : U32) : U64 := v.signExtend 64

/-- The condition of a SUB value. -/
def condOf : Nat → Option Cond
  | 0 => some .eq | 1 => some .ne | 2 => some .lt | 3 => some .ge | 4 => some .ltu | 5 => some .geu | _ => none

/-- The logic function of a SUB value. -/
def logicOf : Nat → Option LogicOp
  | 0 => some .conj | 1 => some .disj | 2 => some .exor | 3 => some .conjNot | _ => none

/-- The fence kind of a code. -/
def fenceOf : Nat → Option FenceKind
  | 0 => some .order | 1 => some .visible | 2 => some .durable | _ => none

/-- The ARY mode of a code. -/
def modeOf : Nat → Option AryMode
  | 0 => some .direct | 1 => some .case | 2 => some .planePair | _ => none

/-- The CTL slot (Tables SLG-5, SLG-6). A SUB value to which the opcode gives no meaning is reserved (log entry 17). -/
def decodeCtl (w : Nat) : Option CtlOp :=
  let rd := regAtBits w 8
  let ra := regAtBits w 13
  let rb := regAtBits w 18
  let pd := predAtBits w 23
  let sub := fld w 31 26
  let imm : U32 := BitVec.ofNat 32 (fld w 63 32)
  let plain (o : CtlOp) : Option CtlOp := if sub = 0 then some o else none
  let shift (op : AluOp) : Option CtlOp :=
    if sub = 0 then some (.alu op rd ra (.reg rb))
    else if sub = 1 then some (.alu op rd ra (.imm (BitVec.ofNat 64 (imm.toNat % 64)))) else none
  match fld w 7 0 with
  | 0x00 => plain .nop
  | 0x01 => plain (.alu .add rd ra (.reg rb))
  | 0x02 => plain (.alu .add rd ra (.imm (sext32 imm)))
  | 0x03 => plain (.alu .sub rd ra (.reg rb))
  | 0x04 => plain (.alu .and rd ra (.reg rb))
  | 0x05 => plain (.alu .or rd ra (.reg rb))
  | 0x06 => plain (.alu .xor rd ra (.reg rb))
  | 0x07 => shift .shl
  | 0x08 => shift .shr
  | 0x09 => shift .sar
  | 0x0A => plain (.alu .mul rd ra (.reg rb))
  | 0x0B => plain (.movi rd imm)
  | 0x0C => plain (.movhi rd ra imm)
  | 0x10 => (condOf sub).map (fun c => .cmp pd c ra (.reg rb))
  | 0x11 => (condOf sub).map (fun c => .cmp pd c ra (.imm (sext32 imm)))
  | 0x12 => (logicOf sub).map (fun o => .plog pd o (predAtBits w 13) (predAtBits w 18))
  | 0x20 => plain (.br imm)
  | 0x21 => plain (.jr ra)
  | 0x22 => plain (.call imm)
  | 0x23 => plain (.loop rd imm)
  | 0x30 =>
    if sub = 1 then some (.gwait true 0)
    else if sub = 0 then some (.gwait false (imm.toNat % 2048)) else none
  | 0x31 => plain (.gcount rd)
  | 0x32 => plain (.gpop rd pd)
  | 0x38 => (fenceOf sub).map (fun k => .fence k)
  | 0x39 => plain (.bwait (imm.toNat % 16))
  | 0x3A => plain (.rdsr rd (imm.toNat % 8))
  | 0x3C => plain .trap
  | 0x3D => plain (.resume ra)
  | 0x3F => plain .stop
  | _ => none

/-- The ARY slot (Table SLG-8). -/
def decodeAry (w : Nat) : Option SlotOp :=
  if fld w 31 22 ≠ 0 ∨ fld w 159 140 ≠ 0 then none
  else
    match modeOf (fld w 9 8), fld w 19 18 with
    | some mode, st =>
      if 1 < st then none
      else
        let f : AryFields :=
          { mode := mode, wslot := fld w 13 10, aset := flag w 14, sgnA := flag w 15, sgnB := flag w 16, maskB := flag w 17,
            start := decide (st = 1), drain := flag w 20, satEn := flag w 21, addrA := fld w 55 32, addrP := fld w 79 56,
            addrD := fld w 103 80, addrS := fld w 127 104, m := fld w 139 128 }
        match fld w 7 0 with
        | 0 => some (.nop 1)
        | 1 => some (.wload f)
        | 2 => some (.run f)
        | _ => none
    | none, _ => none

/-- The CAS slot (Table SLG-9). -/
def decodeCas (w : Nat) : Option SlotOp :=
  if fld w 23 19 ≠ 0 ∨ fld w 95 68 ≠ 0 then none
  else
    match fld w 7 0 with
    | 0 => some (.nop 2)
    | 1 => some (.build { addr := fld w 47 24, groups := fld w 55 48, m := fld w 67 56 })
    | 2 => some (.peek (fld w 14 8) (fld w 18 15) (fld w 47 24))
    | _ => none

/-- One operation of the FTN slot (Tables SLG-10, SLG-11, R503). -/
def decodeFtn (w : Nat) : Option FtnOp :=
  let vd := regAtBits w 8
  let va := regAtBits w 13
  let vb := regAtBits w 18
  let vc := regAtBits w 23
  let bf := flag w 28
  let rnd := flag w 29
  let gb := regAtBits w 88
  let addr := fld w 87 64
  let plain (o : FtnOp) : Option FtnOp := if rnd then none else some o
  let fp (op : FpOp) : Option FtnOp := if rnd && !bf then none else some (.fp op vd va vb vc bf rnd)
  if fld w 47 38 ≠ 0 ∨ fld w 127 93 ≠ 0 then none
  else
    match fld w 7 0 with
    | 0x00 => plain .nop
    | 0x01 => plain (.vld vd gb addr)
    | 0x02 => plain (.vst va gb addr)
    | 0x03 => plain (.vstp va gb addr)
    | 0x04 => plain (.apop vd vc (flag w 31))
    | 0x05 => plain (.sst va vb gb addr)
    | 0x08 => plain (.vmovg vd va)
    | 0x09 => plain (.gmovv vd va)
    | 0x10 => plain (.int .add vd va vb)
    | 0x11 => plain (.int .sub vd va vb)
    | 0x12 => plain (.int .mul vd va vb)
    | 0x13 => plain (.int .max vd va vb)
    | 0x14 => plain (.int .min vd va vb)
    | 0x18 => fp .add
    | 0x19 => fp .sub
    | 0x1A => fp .mul
    | 0x1B => fp .fma
    | 0x1C => fp .max
    | 0x1D => fp .min
    | 0x20 => some (.req vd va vb (fld w 37 32) (BitVec.ofNat 16 (fld w 63 48)) (flag w 30) rnd)
    | 0x21 => some (.f2b vd va vb rnd)
    | 0x22 => plain (.b2f vd va bf)
    | 0x23 => plain (.i2f vd va)
    | 0x28 => plain (.exp vd va)
    | 0x29 => plain (.log vd va)
    | 0x30 => plain (.red .fsum vd va)
    | 0x31 => plain (.red .fmax vd va)
    | 0x32 => plain (.red .isum vd va)
    | 0x33 => plain (.red .imax vd va)
    | _ => none

/-- The HND slot (Table SLG-12). -/
def decodeHnd (w : Nat) : Option SlotOp :=
  if fld w 31 14 ≠ 0 ∨ fld w 127 104 ≠ 0 ∨ fld w 159 140 ≠ 0 then none
  else
    let f : HndFields :=
      { int8 := flag w 8, sgnA := flag w 9, sgnB := flag w 10, acc := flag w 11, out := flag w 12, outBf := flag w 13,
        addrA := fld w 55 32, addrB := fld w 79 56, addrC := fld w 103 80, m := fld w 139 128 }
    match fld w 7 0 with
    | 0 => some (.nop 4)
    | 1 => some (.hload f)
    | 2 => some (.hrun f)
    | _ => none

/-- The MOV opcode of a code. -/
def movOf : Nat → Option MovKind
  | 1 => some .sload | 2 => some .sstore | 3 => some .satom | 4 => some .gsend | 5 => some .grecv | 6 => some .bcopy
  | 7 => some .icopy | 8 => some .brick | 9 => some .fwalk | _ => none

/-- A press named by four bits. -/
def pressAtBits (w lo : Nat) : Press := ⟨w / 2 ^ lo % 16, Nat.mod_lt _ (by decide)⟩

/-- The MOV slot (Tables SLG-13, SLG-14). -/
def decodeMov (w : Nat) : Option SlotOp :=
  if fld w 31 29 ≠ 0 ∨ fld w 191 162 ≠ 0 then none
  else
    let f : MovFields :=
      { rd := regAtBits w 8, gs := regAtBits w 13, gb := regAtBits w 18, dest := pressAtBits w 23, aop := fld w 28 27,
        bank := fld w 55 32, stock := fld w 119 56, len := fld w 151 120, ra := regAtBits w 152, rb := regAtBits w 157 }
    if fld w 7 0 = 0 then some (.nop 5) else (movOf (fld w 7 0)).map (fun k => .mov k f)

/-! ### The whole slug (Tables SLG-1, SLG-2) -/

/-- The control field. -/
structure SlugCtl where
  valid  : Nat
  pred   : Nat
  pneg   : Bool
  pmask  : Nat
  provOk : Bool
  ereg   : Reg
  rsv    : Bool
  deriving DecidableEq, Repr

/-- A decoded slug: its control field, and for each valid slot in slot order its number and its operation, none where the
encoding is illegal; FTN gives two operations. -/
structure Slug where
  ctl : SlugCtl
  ops : List (Nat × Option SlotOp)
  deriving DecidableEq, Repr

/-- Read the control field. -/
def decodeSlugCtl (w : Nat) : SlugCtl where
  valid := fld w 5 0
  pred := fld w 8 6
  pneg := flag w 9
  pmask := fld w 15 10
  provOk := flag w 16
  ereg := regAtBits w 17
  rsv := decide (fld w 95 22 ≠ 0)

/-- Decode the 1024 bits of a slug. -/
def decodeSlug (w : Nat) : Slug :=
  let c := decodeSlugCtl w
  let when_ (n : Nat) (l : List (Option SlotOp)) : List (Nat × Option SlotOp) :=
    if c.valid.testBit n then l.map (fun o => (n, o)) else []
  { ctl := c
    ops := when_ 0 [(decodeCtl (fld w 159 96)).map .ctl] ++ when_ 1 [decodeAry (fld w 319 160)] ++
      when_ 2 [decodeCas (fld w 415 320)] ++
      when_ 3 [(decodeFtn (fld w 543 416)).map .ftn, (decodeFtn (fld w 671 544)).map .ftn] ++
      when_ 4 [decodeHnd (fld w 831 672)] ++ when_ 5 [decodeMov (fld w 1023 832)] }

/-! ### Registers an operation names (R480, R481) -/

/-- Keys of the register files: g from 0, p from 32, v from 64. -/
def keyG (r : Reg) : Nat := r.val
def keyP (r : Pred) : Nat := 32 + r.val
def keyV (r : VReg) : Nat := 64 + r.val

/-- The registers of a second operand. -/
def Opnd.keys : Opnd → List Nat
  | .reg r => [keyG r]
  | .imm _ => []

/-- The destinations a CTL operation names. -/
def CtlOp.dests : CtlOp → List Nat
  | .alu _ rd _ _ => [keyG rd]
  | .movi rd _ => [keyG rd]
  | .movhi rd _ _ => [keyG rd]
  | .cmp pd _ _ _ => [keyP pd]
  | .plog pd _ _ _ => [keyP pd]
  | .call _ => [31]
  | .loop rd _ => [keyG rd]
  | .gcount rd => [keyG rd]
  | .gpop rd pd => [keyG rd, keyP pd]
  | .rdsr rd _ => [keyG rd]
  | _ => []

/-- The sources a CTL operation reads. -/
def CtlOp.srcs : CtlOp → List Nat
  | .alu _ _ ra b => keyG ra :: b.keys
  | .movhi _ ra _ => [keyG ra]
  | .cmp _ _ ra b => keyG ra :: b.keys
  | .plog _ _ pa pb => [keyP pa, keyP pb]
  | .jr ra => [keyG ra]
  | .loop rd _ => [keyG rd]
  | .resume ra => [keyG ra]
  | _ => []

/-- The destinations an FTN operation names. -/
def FtnOp.dests : FtnOp → List Nat
  | .vld vd _ _ => [keyV vd]
  | .apop vd vc satv => keyV vd :: (if satv then [keyV vc] else [])
  | .vmovg vd _ => [keyV vd]
  | .gmovv gd _ => [keyG gd]
  | .int _ vd _ _ => [keyV vd]
  | .fp _ vd _ _ _ _ _ => [keyV vd]
  | .req vd _ _ _ _ _ _ => [keyV vd]
  | .f2b vd _ _ _ => [keyV vd]
  | .b2f vd _ _ => [keyV vd]
  | .i2f vd _ => [keyV vd]
  | .exp vd _ => [keyV vd]
  | .log vd _ => [keyV vd]
  | .red _ vd _ => [keyV vd]
  | _ => []

/-- The sources an FTN operation reads. -/
def FtnOp.srcs : FtnOp → List Nat
  | .vld _ gb _ => [keyG gb]
  | .vst va gb _ => [keyV va, keyG gb]
  | .vstp va gb _ => [keyV va, keyG gb]
  | .sst va vb gb _ => [keyV va, keyV vb, keyG gb]
  | .vmovg _ ga => [keyG ga]
  | .gmovv _ va => [keyV va]
  | .int _ _ va vb => [keyV va, keyV vb]
  | .fp op _ va vb vc _ _ => [keyV va, keyV vb] ++ (if op = .fma then [keyV vc] else [])
  | .req _ va vb _ _ _ _ => [keyV va, keyV vb]
  | .f2b _ va vb _ => [keyV va, keyV vb]
  | .b2f _ va _ => [keyV va]
  | .i2f _ va => [keyV va]
  | .exp _ va => [keyV va]
  | .log _ va => [keyV va]
  | .red _ _ va => [keyV va]
  | _ => []

/-- The destinations a MOV operation names. -/
def movDests (k : MovKind) (f : MovFields) : List Nat :=
  match k with
  | .satom => [keyG f.rd]
  | .grecv => [keyG f.rd]
  | .icopy => [keyG f.rd]
  | .brick => [keyG f.rd]
  | .fwalk => [keyG f.rd]
  | _ => []

/-- The sources a MOV operation reads. -/
def movSrcs (k : MovKind) (f : MovFields) : List Nat :=
  match k with
  | .sload => [keyG f.gs, keyG f.gb]
  | .sstore => [keyG f.gs, keyG f.gb]
  | .satom => keyG f.gs :: keyG f.ra :: (if f.aop = 1 then [keyG f.rb] else [])
  | .gsend => [keyG f.gb]
  | .grecv => [keyG f.gb]
  | .bcopy => [keyG f.gb, keyG f.ra]
  | .icopy => [keyG f.gb]
  | .brick => [keyG f.gs, keyG f.gb]
  | .fwalk => [keyG f.gb, keyG f.ra, keyG f.rb]

/-- The destinations a slot operation names, those of g0 and p0 left out (R480). -/
def SlotOp.dests (o : SlotOp) : List Nat :=
  (match o with
   | .ctl c => c.dests
   | .ftn f => f.dests
   | .mov k f => movDests k f
   | _ => []).filter (fun k => decide (k ≠ 0 ∧ k ≠ 32))

/-- The sources a slot operation reads. -/
def SlotOp.srcs : SlotOp → List Nat
  | .ctl c => c.srcs
  | .ftn f => f.srcs
  | .mov k f => movSrcs k f
  | _ => []

/-- The result latency of a slot operation in PRESS cycles (Table SLG-4). -/
def SlotOp.latency : SlotOp → Nat
  | .ftn (.vld ..) => 2
  | .ftn (.apop ..) => 2
  | .ftn (.fp ..) => 3
  | .ftn (.req ..) => 3
  | .ftn (.f2b ..) => 3
  | .ftn (.i2f ..) => 3
  | .ftn (.exp ..) => 6
  | .ftn (.log ..) => 6
  | .ftn (.red ..) => 9
  | _ => 1

/-! ### Field limits of a decoded operation (R476, R494, R495, R499, R505, R506, R551, R552) -/

/-- The stationary planes of an ARY operation (R442). -/
def aryB (a : Nat) (f : AryFields) : Nat := if f.maskB then 1 else a

/-- A weight-store slot within its limits (R494). -/
def wslotOk (a : Nat) (f : AryFields) : Bool :=
  match f.mode with
  | .direct => decide (f.wslot ≤ 7)
  | .case => decide (f.wslot ≤ 1)
  | .planePair => decide (f.wslot + aryB a f ≤ 16)

/-- The LEN limits of a MOV operation (Table SLG-14). -/
def movLenOk (k : MovKind) (n : Nat) : Bool :=
  match k with
  | .sload => decide (64 ≤ n ∧ n ≤ 2 ^ 20 ∧ n % 64 = 0)
  | .sstore => decide (64 ≤ n ∧ n ≤ 4096 ∧ n % 64 = 0)
  | .gsend => decide (8 ≤ n ∧ n ≤ 8192 ∧ n % 8 = 0)
  | .bcopy => decide (n % 64 = 0)
  | _ => true

/-- The operation keeps the limits of its fields, A being the activation width of the image. -/
def SlotOp.legal (a : Nat) : SlotOp → Bool
  | .ctl (.gwait onEnd n) => onEnd || decide (1 ≤ n ∧ n ≤ 1024)
  | .wload f => wslotOk a f
  | .run f => wslotOk a f && decide (1 ≤ f.m ∧ f.m ≤ 4095)
  | .build b => decide (1 ≤ b.groups ∧ b.groups ≤ 128 ∧ 1 ≤ b.m ∧ b.m ≤ 4095)
  | .peek g p _ => decide (g ≤ 127 ∧ p < a)
  | .ftn (.req _ _ _ sh _ _ _) => decide (sh ≤ 47)
  | .ftn (.fp _ _ _ _ _ bf rnd) => bf || !rnd
  | .ftn (.apop vd vc satv) => !(satv && decide (vd = vc))
  | .hrun f => decide (1 ≤ f.m ∧ f.m ≤ 256) && !(f.outBf && f.int8)
  | .mov k f => movLenOk k f.len && !(decide (k = .satom) && decide (2 < f.aop))
  | _ => true

end Sys2Proof.Machine
end

