-- ==== Sys2Proof/Machine/PressStreams.lean ====
section
/-!
DEFINITION. The streams of a press (R434 to R449, R458 to R465, R494 to R508, R529, R551 to R560): weight loads, array and hand-press
runs, and the transfers of the MOV slot. A stream takes effect as far as it can when its slug issues, and again whenever the press
moves on; STREAM_END marks its end (log entry 21).
-/

namespace Sys2Proof.Machine

/-! ### The Bank (R458, R461) -/

/-- The 64-bit words an access touches that hold an error. -/
def badWords (m : FMap Nat) (addr len : Nat) : FMap Nat :=
  m.filter (fun e => decide (addr / 8 ≤ e.1) && decide (e.1 * 8 < addr + len))

/-- A read of the Bank is checked: correctable words are corrected and counted, uncorrectable ones counted; true when one of those is
consumed (R461). -/
def State.bankCheck (s : State) (n : Press) (addr len : Nat) : Bool × State :=
  let p := s.press n
  let bad := badWords p.bankBad addr len
  if bad.isEmpty then (false, s)
  else
    let one := bad.filter (fun e => decide (e.2 = 1))
    let s := s.setPress n { p with bankBad := p.bankBad.filter (fun e => !one.contains e) }
    let s := s.incSat (PRS_ECC.BANK_CORR n.val) one.length
    (decide (one.length < bad.length), s.incSat (PRS_ECC.BANK_UNCORR n.val) (bad.length - one.length))

/-- An uncorrectable word was consumed. -/
def State.bankPoison (s : State) (n : Press) (slot addr : Nat) : State := s.stopExc n exPoison slot addr { status := stPoison }

/-- Who reads the Bank: a slot, or a stream. -/
structure Reader where
  sid   : Option Nat := none
  /-- The streams of this unit that came before have finished what they write. -/
  after : Option Nat := none
  deriving DecidableEq, Repr

/-- The streams under way whose writes a reader may or may not see yet. -/
def PressSt.writers (p : PressSt) (r : Reader) : List PStream :=
  p.streams.filter (fun x => !x.wrote.isEmpty && decide (some x.sid ≠ r.sid) && decide (some x.unit ≠ r.after))

/-- The Bank byte at an address as a reader sees it: a line that streams are writing has its old contents or its new, whole (R483). -/
def PressSt.seen (p : PressSt) (gen : Nat) (r : Reader) (a : Nat) : Byte :=
  match p.writers r with
  | [] => p.bank.byte a
  | x :: xs => (((p.bank :: x.was :: xs.map (·.was))[Config.pickLine gen (a / 64) % (xs.length + 2)]?).getD p.bank).byte a

/-- Bytes of the Bank as a reader sees them. -/
def PressSt.seenRun (p : PressSt) (gen : Nat) (r : Reader) (addr len : Nat) : List Byte :=
  (List.range len).map (fun i => p.seen gen r (addr + i))

/-- Read the Bank for an operation of a slot; none when an uncorrectable word stops the launch. -/
def State.bankRead (s : State) (n : Press) (slot addr len : Nat) (r : Reader := {}) : Option (List Byte) × State :=
  match s.bankCheck n addr len with
  | (true, s) => (none, s.bankPoison n slot addr)
  | (false, s) =>
    if ((s.press n).writers r).isEmpty then (some ((s.press n).bank.read addr len), s)
    else (some ((s.press n).seenRun s.free r addr len), s.bumpFree)

/-- A write of the Bank, by a slot or by a stream, as the streams under way keep it. -/
def PStream.bankWritten (x : PStream) (sid : Option Nat) (addr : Nat) (bs : List Byte) : PStream :=
  if sid = some x.sid then { x with wrote := x.wrote ++ [(addr, bs.length)] } else { x with was := x.was.write addr bs }

/-- Write the Bank: whole words written are sound again. -/
def State.bankWrite (s : State) (n : Press) (addr : Nat) (bs : List Byte) (sid : Option Nat := none) : State :=
  s.modPress n (fun p => { p with
    bank := p.bank.write addr bs
    streams := p.streams.map (fun x => x.bankWritten sid addr bs)
    bankBad := p.bankBad.filter (fun e => !(decide (addr ≤ 8 * e.1) && decide (8 * e.1 + 8 ≤ addr + bs.length))) })

/-- The Bank extent that an absent brick would fill becomes undefined. -/
def State.bankLose (s : State) (n : Press) (sid addr len : Nat) : State :=
  (s.modPress n (fun p => { p with
    bank := p.bank.lose addr len s.free
    streams := p.streams.map (fun x => if x.sid = sid then { x with wrote := x.wrote ++ [(addr, len)] } else
      { x with was := x.was.lose addr len s.free }) })).bumpFree

/-! ### Streams of a press -/

/-- The activation width of the launch on press n. -/
def State.actOf (s : State) (n : Press) : Nat := ((s.launchOn n).map (·.hdr.act)).getD 2

/-- Change one stream. -/
def State.modStream (s : State) (n : Press) (sid : Nat) (f : PStream → PStream) : State :=
  s.modPress n (fun p => { p with streams := p.streams.map (fun x => if x.sid = sid then f x else x) })

/-- What a stream still has to do. -/
def State.setTodo (s : State) (n : Press) (sid : Nat) (op : StreamOp) : State := s.modStream n sid (fun x => { x with todo := some op })

/-- A stream has done everything; val is what its RD takes when it ends. -/
def State.endTodo (s : State) (n : Press) (sid : Nat) (v : Option U64 := none) : State :=
  s.modStream n sid (fun x => { x with todo := none, val := v })

/-! ### The weight store (R434, R494; log entry 17) -/

/-- Bytes of one weight-store slot, and where slot w begins. -/
def tileBytes : AryMode → Nat
  | .direct => 16384
  | .case => 57344
  | .planePair => 8192

/-- The weight-store bytes an ARY operation uses: start and length. -/
def wstoreSpan (a : Nat) (f : AryFields) : Nat × Nat :=
  (tileBytes f.mode * f.wslot, tileBytes f.mode * (if f.mode = .planePair then aryB a f else 1))

/-- WLOAD: a tile goes into the weight store; one loaded in another mode leaves the rest undefined. -/
def State.doWload (s : State) (n : Press) (sid : Nat) (f : AryFields) : State :=
  let sp := wstoreSpan (s.actOf n) f
  match s.bankRead n 1 f.addrA sp.2 { sid := some sid } with
  | (none, s) => s
  | (some bs, s) =>
    let p := s.press n
    let fresh := decide (p.wmode = some f.mode)
    let base := if fresh then p.wstore else p.wstore.lose 0 131072 s.free
    let s := if fresh then s else s.bumpFree
    (s.modPress n (fun p => { p with wstore := base.write sp.1 bs, wmode := some f.mode })).endTodo n sid

/-- The weights a RUN reads: free bytes where the store was loaded in another mode. -/
def PressSt.weights (p : PressSt) (gen : Nat) (f : AryFields) (k : Nat) : Byte :=
  if p.wmode = some f.mode then p.wstore.byte (tileBytes f.mode * f.wslot + k) else Config.freeByte gen k

/-! ### RUN, BUILD and PEEK (R435 to R445, R495 to R501) -/

/-- Bytes of one token in the streamed extent. -/
def tokenBytes (mode : AryMode) (a : Nat) : Nat := if mode = .case then 64 * a else 16 * a

/-- A plane of a built token, the groups past the live ones reading as zero (R500). -/
def builtPlane (bank : Nat → Byte) (live : Nat) : List Byte :=
  packBits ((List.range 512).map (fun i => decide (i < 4 * live) && bitAt bank i))

/-- One token of a RUN, its Bank operands having been found sound. Runs of the array follow one another (R441). -/
def State.runToken (s : State) (n : Press) (sid a : Nat) (f : AryFields) (b : Option BuildFields) (tok : Nat) : State :=
  let p := s.press n
  let base := (b.map (·.addr)).getD f.addrA
  let live := (b.map (·.groups)).getD 128
  let who : Reader := { sid := some sid, after := some 0 }
  let feed (x : Nat) : Byte := p.seen s.free who (base + x)
  let r : TileRun := { mode := f.mode, a := a, b := aryB a f, sgnA := f.sgnA, sgnB := f.sgnB, live := live }
  let start (col : Nat) : Int :=
    if f.start then toSigned 32 (leNat (p.seenRun s.free who (f.addrP + 2048 * tok + 4 * col) 4)) else 0
  let x := tokenRun r (p.weights s.free f) (fun pl i => feedBit feed f.mode a tok pl i) start
  let set : Fin 2 := if f.aset = decide (tok % 2 = 1) then 0 else 1
  let s := s.modPress n (fun p => { p with
    acc := p.acc.set set x
    built := if b.isSome then (List.range a).map (fun pl => builtPlane (fun i => feed (64 * (a * tok + pl) + i)) live) else p.built })
  let s := if x.sats.any id then s.incSat (PRS_SAT.ACC_SAT n.val) else s
  let s := s.incWrap (PRS_ARRAY.CYCLES n.val) (if f.mode = .planePair then a * aryB a f else a)
  let s := if f.drain then s.modPress n (fun p => { p with drainQ := p.drainQ ++ [{ set := x }] })
    else s.bankWrite n (f.addrD + 2048 * tok) (wordsLe x.vals) (some sid)
  if f.satEn then s.bankWrite n (f.addrS + 64 * tok) (packBits x.sats) (some sid) else s

/-- The tokens of a RUN from one on, while the drain queue has room (R495, R496). -/
def State.runTokens (s : State) (n : Press) (sid a : Nat) (f : AryFields) (b : Option BuildFields) : Nat → State
  | 0 => s.endTodo n sid
  | k + 1 =>
    let tok := f.m - (k + 1)
    if f.drain && decide (4 ≤ (s.press n).drainQ.length) then s.setTodo n sid (.run f b tok)
    else
      let base := (b.map (·.addr)).getD f.addrA
      match s.bankCheck n (base + tokenBytes f.mode a * tok) (tokenBytes f.mode a) with
      | (true, s) => s.bankPoison n 1 (base + tokenBytes f.mode a * tok)
      | (false, s) =>
        match s.bankCheck n (f.addrP + 2048 * tok) (if f.start then 2048 else 0) with
        | (true, s) => s.bankPoison n 1 (f.addrP + 2048 * tok)
        | (false, s) => (s.runToken n sid a f b tok).runTokens n sid a f b k

/-- RUN from token tok on; reserved weight codes count once (R432, R433). -/
def State.doRun (s : State) (n : Press) (sid : Nat) (f : AryFields) (b : Option BuildFields) (tok : Nat) : State :=
  let p := s.press n
  let s := if tok = 0 then s.incSat (PRS_SAT.BAD_WEIGHT n.val) (badWeights f.mode (p.weights s.free f)) else s
  let s := s.runTokens n sid (s.actOf n) f b (f.m - tok)
  if p.wmode = some f.mode && (p.writers { sid := some sid, after := some 0 }).isEmpty then s else s.bumpFree

/-- PEEK: the table of a group and plane of the last token built (R501). -/
def State.doPeek (s : State) (n : Press) (sid group plane addr : Nat) : State :=
  let pl := (s.press n).built.getD plane []
  (s.bankWrite n addr (peekBytes (fun i => bitAt (fun x => pl.getD x 0) (4 * group + i))) (some sid)).endTodo n sid

/-! ### The hand press (R447 to R449, R505) -/

/-- HLOAD. -/
def State.doHload (s : State) (n : Press) (sid : Nat) (f : HndFields) : State :=
  match s.bankRead n 4 f.addrB (if f.int8 then 1024 else 2048) { sid := some sid, after := some 1 } with
  | (none, s) => s
  | (some bs, s) => (s.modPress n (fun p => { p with stat := bs })).endTodo n sid

/-- The stationary operand as an HRUN of a format reads it: free bytes where it was loaded in the other format (log entry 15). -/
def PressSt.statByte (p : PressSt) (gen : Nat) (int8 : Bool) (k : Nat) : Byte :=
  if p.stat.length = (if int8 then 1024 else 2048) ∨ p.stat = [] then p.stat.getD k 0 else Config.freeByte gen k

/-- The 32 × 32 blocks of an HRUN's results in which an accumulation clamped: an ACC_SAT each (R449; log entry 15). -/
def satBlocks (clamped : List Bool) : Nat :=
  (List.range ((clamped.length + 1023) / 1024)).countP (fun b => ((clamped.drop (1024 * b)).take 1024).any id)

/-- HRUN. -/
def State.doHrun (s : State) (n : Press) (sid : Nat) (f : HndFields) : State :=
  let rowB := if f.int8 then 32 else 64
  match s.bankCheck n f.addrA (rowB * f.m) with
  | (true, s) => s.bankPoison n 4 f.addrA
  | (false, s) =>
    let p := s.press n
    let rows (x : Nat) : Byte := p.seen s.free { sid := some sid, after := some 1 } (f.addrA + x)
    let cells := (List.range (32 * f.m)).map (fun i =>
      handCell f.int8 f.sgnA f.sgnB rows (p.statByte s.free f.int8) (i / 32) (i % 32) (if f.acc then p.held.getD i 0 else 0))
    let vals := cells.map (·.1)
    let s := s.bumpFree
    let s := s.modPress n (fun p => { p with held := vals ++ p.held.drop vals.length })
    let k := satBlocks (cells.map (·.2))
    let s := if k = 0 then s else s.incSat (PRS_SAT.ACC_SAT n.val) k
    let s := if f.out then s.bankWrite n f.addrC
        (if f.outBf then vals.flatMap (fun v => leBytes 2 (bfOf v none)) else vals.flatMap (fun v => leBytes 4 v.toNat)) (some sid)
      else s
    s.endTodo n sid

/-! ### MOV transfers (R465, R506 to R509) -/

/-- A store still in the buffer overlaps a load (R465). -/
def PressSt.overlaps (p : PressSt) (a n : Nat) : Bool :=
  p.sb.any (fun e => decide (e.addr < a + n) && decide (a < e.addr + accLen e.op))

/-- SLOAD (R465, R488, R593, R594). -/
def State.doSload (s : State) (n : Press) (sid stock bank len : Nat) (provOk : Bool) : State :=
  match s.launchOn n with
  | none => s
  | some l =>
    if (s.press n).overlaps stock len then s
    else
      let q : StkReq := { src := s.unit, agent := n.val, cls := l.cls, op := .read len, addr := stock, owner := s.ownerOf l, provOk := provOk }
      match s.stkDo q with
      | (a, s1) =>
        if a.status = .wait then s1
        else if a.status = .ok then
          match s1.takeDeps l.key a.deps with
          | .inr c => (s.stkWait q (some c)).2
          | .inl s2 =>
            let s2 := if a.deps.isEmpty then s2 else s2.modPress n (fun p => { p with prov := true })
            (s2.bankWrite n bank a.data (some sid)).endTodo n sid
        else s1.stkExc n 5 stock a.status

/-- SATOM outside guard pairs: it holds while its launch is provisional (R595). -/
def State.doSatom (s : State) (n : Press) (sid stock : Nat) (op : AccessOp) (epoch : Nat) : State :=
  match s.launchOn n with
  | none => s
  | some l =>
    if (s.proofPair n).isSome || l.prov || (s.press n).overlaps stock 8 then s
    else
      match s.stkDo { src := s.unit, agent := n.val, cls := l.cls, op := op, addr := stock, epoch := epoch } with
      | (a, s) =>
        if a.status = .wait then s
        else if a.status = .ok then s.endTodo n sid (some (BitVec.ofNat 64 (leNat a.data)))
        else s.stkExc n 5 stock a.status

/-- Words of a GSEND as far as the galley has room: what is left. -/
def State.pushWords (s : State) (g : GalleyId) : List U64 → List U64 × State
  | [] => ([], s)
  | w :: ws =>
    if decide ((s.gal g).state = .normal) && decide (galDepth g ≤ (s.gal g).words.length) then (w :: ws, s)
    else (s.galPush g w ws.isEmpty).pushWords g ws

/-- GSEND: an item follows the one in progress; a full galley stalls it (R180, R506). -/
def State.doGsend (s : State) (n : Press) (sid : Nat) (g : GalleyId) (ws : List U64) (begun : Bool) : State :=
  if !begun && (s.gal g).partialIn then s
  else
    match s.pushWords g ws with
    | ([], s) => s.endTodo n sid
    | (rest, s) => s.setTodo n sid (.gsend g rest (begun || decide (rest.length < ws.length)))

/-- The galley that feeds press n. -/
def inboundOf (n : Press) : GalleyId := ⟨32 + n.val, by omega⟩

/-- GRECV takes words until the item ends (R507): stored and dropped count what it has taken. A synthetic end word is neither. -/
def State.recvWords (s : State) (n : Press) (sid bank room : Nat) : Nat → Nat → Nat → State
  | 0, stored, dropped => s.setTodo n sid (.grecv bank room stored dropped)
  | k + 1, stored, dropped =>
    let g := inboundOf n
    let synth := (s.gal g).synth
    match s.galPop g with
    | (none, s) => s.setTodo n sid (.grecv bank room stored dropped)
    | (some w, s) =>
      if w.isPoison then s.stopExc n exPoison 5 (bank + 8 * stored) { status := stPoison }
      else
        let keep := !synth && decide (stored < room)
        let s := if keep then s.bankWrite n (bank + 8 * stored) (leBytes 8 w.data.toNat) (some sid) else s
        let st := if keep then stored + 1 else stored
        let dr := if keep || synth then dropped else dropped + 1
        if w.isEnd || w.isAbort then
          s.endTodo n sid (some (BitVec.ofNat 64 (st % 65536 + 65536 * (dr % 65536) + 2 ^ 62 * w.isAbort.toNat + 2 ^ 63)))
        else s.recvWords n sid bank room k st dr

/-- GRECV. -/
def State.doGrecv (s : State) (n : Press) (sid bank room stored dropped : Nat) : State :=
  s.recvWords n sid bank room ((s.gal (inboundOf n)).words.length + 1) stored dropped

/-- BCOPY. -/
def State.doBcopy (s : State) (n : Press) (sid src dst len : Nat) : State :=
  match s.bankRead n 5 src len { sid := some sid } with
  | (none, s) => s
  | (some bs, s) => (s.bankWrite n dst bs (some sid)).endTodo n sid

/-- The RD word of an ICOPY (R530). -/
def icopyWord (bytes status detail : Nat) : U64 := BitVec.ofNat 64 (bytes % 2 ^ 32 + 2 ^ 32 * status + 2 ^ 40 * detail)

/-- Why an ICOPY does not run: status and DETAIL within the record, given the shape record (R529, R530). -/
def icopyBad (d : CopyDesc) (sb : List Byte) : Option (Nat × Nat) :=
  let h := Shape.ofBytes sb
  let se := h.extent d.srcImp
  let de := (h.permute d.perm).extent d.dstImp
  let high := (if d.src < 2 ^ 24 then [] else [0x08]) ++ (if d.dst < 2 ^ 24 then [] else [0x10]) ++
    (if d.shape + 64 ≤ bankEnd then [] else [0x18]) ++ (if h.srcDist || h.dstDist then [0x18] else [])
  let bad := copyBad d sb
  let size := if bad.isEmpty then (if d.src + se ≤ bankEnd then [] else [0x08]) ++ (if d.dst + de ≤ bankEnd then [] else [0x10]) else []
  let align := (if d.src % 64 = 0 then [] else [0x08]) ++ (if d.dst % 64 = 0 then [] else [0x10]) ++ (if d.shape % 64 = 0 then [] else [0x18])
  match leastOf (high ++ bad ++ size) with
  | some o => some (stBadOpcode, o - 8)
  | none =>
    match leastOf align with
    | some o => some (stBadAlign, o - 8)
    | none => if copyOverlaps d h { base := d.src } { base := d.dst } then some (stOverlap, 0) else none

/-- ICOPY (R529, R530). -/
def State.doIcopy (s : State) (n : Press) (sid record : Nat) : State :=
  let who : Reader := { sid := some sid }
  match s.bankRead n 5 record 64 who with
  | (none, s) => s
  | (some rb, s) =>
    let d := CopyDesc.ofBytes rb
    match s.bankRead n 5 (d.shape % 2 ^ 24) (if d.shape + 64 ≤ bankEnd then 64 else 0) who with
    | (none, s) => s
    | (some sb, s) =>
      match icopyBad d sb with
      | some (st, dt) => s.endTodo n sid (some (icopyWord 0 st dt))
      | none =>
        let h := Shape.ofBytes sb
        match s.bankCheck n d.src (if copyNoop d h then 0 else h.extent d.srcImp) with
        | (true, s) => s.bankPoison n 5 d.src
        | (false, s) =>
          let p := s.press n
          let r := copyDo d h (fun x => p.seen s.free who (d.src + x))
          let s := if (p.writers who).isEmpty then s else s.bumpFree
          (r.1.foldl (fun s e => s.bankWrite n (d.dst + e.1) [e.2] (some sid)) s).endTodo n sid (some (icopyWord r.2 stOk 0))

/-- BRICK (R395, R397, R485, R508): the version that work on the tag epoch reads, its ages moved on to that epoch; the Bank region of a
brick that is absent becomes undefined (log entry 21). -/
def State.doBrick (s : State) (n : Press) (sid key bank epoch : Nat) : State :=
  let guard := match s.launchOn n with | some l => decide (l.cls = 0) | none => false
  let seen := gotThen (s.brickSee key epoch guard) fun v s =>
    match v with
    | .version b e late g => gotThen (s.agentGet (s.brickAddr b) 4096) fun bs s =>
        (.ok (some (1 + 2 * late.toNat + 4 * g.toNat, ageBrick (epDist epoch e).toNat bs)), s)
    | .fresh => (.ok (some (9, newBrick)), s)
    | .absent => (.ok none, s)
  match seen with
  | (.ok none, s) => (s.bankLose n sid bank 4096).endTodo n sid (some 0)
  | (.ok (some (st, bs)), s) => (s.bankWrite n bank bs (some sid)).endTodo n sid (some (BitVec.ofNat 64 st))
  | (.held a op, _) => (s.ownAccess a op).2
  | (.bad a op, _) =>
    let x := s.ownAccess a op
    x.2.stkExc n 5 a x.1.status

/-- FWALK (R541, R551 to R560). -/
def State.doFwalk (s : State) (n : Press) (sid : Nat) (ra rb : U64) (bank : Nat) : State :=
  match s.launchOn n with
  | none => s
  | some l =>
    let w := WalkArgs.of ra rb
    match (s.seq w.seq).state with
    | .free => s.endTodo n sid (some (walkWord 0 0 false false))
    | .resident =>
      match s.bankCheck n (w.lo % 2 ^ 24) (if w.replay then 1024 else if w.indexed && !w.v then s.kvHeads * ceil64 (2 * s.dHead) else 0) with
      | (true, s) => s.bankPoison n 5 (w.lo % 2 ^ 24)
      | (false, s) =>
        let p := s.press n
        let who : Reader := { sid := some sid }
        match s.walk w bank (p.seenRun s.free who) ((p.walks.find? (fun e => decide (e.1 = w.seq))).map (·.2)) with
        | (.held a op, _) => (s.ownAccess a op).2
        | (.bad a op, _) =>
          let x := s.ownAccess a op
          x.2.stkExc n 5 a x.1.status
        | (.ok x, s) =>
          let s := if (p.writers who).isEmpty then s else s.bumpFree
          let s := s.setSeq w.seq { s.seq w.seq with walked := s.scn.walks + 1 }
          let s := s.setScn { s.scn with walks := s.scn.walks + 1 }
          let s := s.modLaunch l.key (fun l => { l with seqs := if l.seqs.contains w.seq then l.seqs else l.seqs ++ [w.seq] })
          let s := match x.sel with | some sel => s.modPress n (fun p => { p with walks := tabSet p.walks w.seq sel }) | none => s
          (s.bankWrite n bank x.bytes (some sid)).endTodo n sid (some x.rd)
    | _ => (s.stopLaunchBy l.key { status := stPreempted, detail := w.seq }).incSat SCN_STAT.STOPPED_WALKS

/-! ### Moving streams on -/

/-- A stream that must wait for one before it in its unit: the single load port, the weight slots a run still needs, and the order of
runs (R441, R501). -/
def aryWaits (a : Nat) (x y : StreamOp) : Bool :=
  match x, y with
  | .wload _, .wload _ => true
  | .wload f, .run g _ _ =>
    let u := wstoreSpan a f
    let v := wstoreSpan a g
    decide (f.mode ≠ g.mode) || (decide (u.1 < v.1 + v.2) && decide (v.1 < u.1 + u.2))
  | .wload _, _ => false
  | .peek _ _ _, .wload _ => false
  | _, _ => true

/-- The stream waits for an earlier one of its unit. -/
def streamHeld (a : Nat) (before : List PStream) (x : PStream) (op : StreamOp) : Bool :=
  before.any (fun y => decide (y.unit = x.unit) && decide (x.unit < 2) && (match y.todo with
    | none => false
    | some o => decide (x.unit = 1) || aryWaits a op o))

/-- A stream moves on as far as it can. -/
def State.streamStep (s : State) (n : Press) (sid : Nat) : State :=
  match (s.press n).streams.find? (fun x => decide (x.sid = sid)) with
  | none => s
  | some x =>
    match x.todo with
    | none => s
    | some op =>
      if streamHeld (s.actOf n) ((s.press n).streams.takeWhile (fun y => decide (y.sid ≠ sid))) x op then s
      else
        match op with
        | .wload f => s.doWload n sid f
        | .run f b tok => s.doRun n sid f b tok
        | .peek g p a => s.doPeek n sid g p a
        | .hload f => s.doHload n sid f
        | .hrun f => s.doHrun n sid f
        | .sload a b len ok => s.doSload n sid a b len ok
        | .satom a o e => s.doSatom n sid a o e
        | .gsend g ws b => s.doGsend n sid g ws b
        | .grecv b room st dr => s.doGrecv n sid b room st dr
        | .bcopy a b len => s.doBcopy n sid a b len
        | .icopy r => s.doIcopy n sid r
        | .brick k b e => s.doBrick n sid k b e
        | .fwalk ra rb b => s.doFwalk n sid ra rb b

/-- Every stream of a press moves on. -/
def State.pump (s : State) (n : Press) : State := ((s.press n).streams.map (·.sid)).foldl (fun s i => s.streamStep n i) s

/-- Runs of Bank lines that extents take up: first line and count. -/
def lineRuns (l : List (Nat × Nat × Nat)) : List (Nat × Nat) :=
  (l.filter (fun e => decide (e.2.1 ≠ 0))).map (fun e => (e.1 / 64, (e.1 + e.2.1 - 1) / 64 + 1 - e.1 / 64))

/-- A slug starts a stream, which has the Bank lines given still to access. -/
def State.streamStart (s : State) (n : Press) (unit kind : Nat) (rd : Reg) (left : List (Nat × Nat)) (op : StreamOp) : State :=
  let sid := (s.press n).nextSid
  let s := s.modPress n (fun p => { p with
    nextSid := sid + 1
    streams := p.streams ++ [{ sid := sid, unit := unit, kind := kind, rd := rd, todo := some op, was := p.bank, left := left,
                               recv := match op with | .grecv .. => true | _ => false }] })
  s.streamStep n sid

/-- STREAM_END (R441, R460, R482, R496): a stream that has done everything ends; the array and the hand press end theirs in order, loads
and runs each in their own. RD takes its result. -/
def State.streamEnd (s : State) (n : Press) (sid : Nat) : State :=
  let s := s.pump n
  let p := s.press n
  match p.streams.find? (fun x => decide (x.sid = sid)) with
  | none => s
  | some x =>
    let first := !(p.streams.takeWhile (fun y => decide (y.sid ≠ sid))).any (fun y => decide (x.unit < 2) && decide (y.unit = x.unit) && decide (y.kind = x.kind))
    if x.todo.isSome || !first then s
    else
      (s.modPress n (fun p => { p with
        streams := p.streams.filter (fun y => decide (y.sid ≠ sid))
        g := match x.val with | some v => if x.rd = 0 then p.g else p.g.set x.rd v | none => p.g })).pump n

/-- STREAM_END. -/
def execStreamEnd (n : Press) (sid : Nat) (s : State) : Result := s.live (s.streamEnd n sid)

end Sys2Proof.Machine
end

