-- ==== Sys2Proof/Machine/PressOps.lean ====
section
/-!
DEFINITION. What each slot operation of a slug does (Tables SLG-6, SLG-8 to SLG-14), when it must hold, and what exception it raises.
Operands are read from the press as it stood before the slug issued (R479).
-/

namespace Sys2Proof.Machine

/-! ### Register files (Table SLG-3) -/

/-- Read a g register; g0 reads 0. -/
def PressSt.getG (p : PressSt) (r : Reg) : U64 := if r = 0 then 0 else p.g[r]

/-- Write a g register; a write to g0 is ignored. -/
def PressSt.setG (p : PressSt) (r : Reg) (v : U64) : PressSt := if r = 0 then p else { p with g := p.g.set r v }

/-- Read a predicate; p0 reads 1. -/
def PressSt.getP (p : PressSt) (r : Pred) : Bool := decide (r = 0) || p.p.testBit r.val

/-- Write a predicate; a write to p0 is ignored. -/
def PressSt.setP (p : PressSt) (r : Pred) (b : Bool) : PressSt :=
  if r = 0 then p else { p with p := if b then p.p ||| 2 ^ r.val else p.p - (p.p &&& 2 ^ r.val) }

/-- The 256 lanes of a v register. -/
def PressSt.getV (p : PressSt) (r : VReg) : List U32 := (List.range 256).map (fun i => (p.v[r]).getD i 0)

/-- Lane 0 of a v register. -/
def PressSt.lane0 (p : PressSt) (r : VReg) : U32 := (p.v[r]).getD 0 0

/-- Write a v register. -/
def PressSt.setV (p : PressSt) (r : VReg) (l : List U32) : PressSt := { p with v := p.v.set r l }

/-- Change press n, its registers of keys ks becoming readable lat cycles on (R481). -/
def State.setReady (s : State) (n : Press) (ks : List Nat) (lat : Nat) : State :=
  s.modPress n (fun p => { p with ready := ks.foldl (fun m k => tabSet m k (p.cycle + lat)) p.ready })

/-- Put a result in a g register. -/
def State.putG (s : State) (n : Press) (r : Reg) (v : U64) : State := s.modPress n (fun p => p.setG r v)

/-- Put a result in a predicate. -/
def State.putP (s : State) (n : Press) (r : Pred) (b : Bool) : State := s.modPress n (fun p => p.setP r b)

/-- Put a result in a v register. -/
def State.putV (s : State) (n : Press) (r : VReg) (l : List U32) : State := s.modPress n (fun p => p.setV r l)

/-- The value of a second operand. -/
def Opnd.value (o : PressSt) : Opnd → U64
  | .reg r => o.getG r
  | .imm v => v

/-! ### CTL values (Table SLG-6) -/

/-- The result of a scalar operation. -/
def AluOp.eval (op : AluOp) (a b : U64) : U64 :=
  match op with
  | .add => a + b
  | .sub => a - b
  | .and => a &&& b
  | .or => a ||| b
  | .xor => a ^^^ b
  | .shl => a <<< (b.toNat % 64)
  | .shr => a >>> (b.toNat % 64)
  | .sar => a.sshiftRight (b.toNat % 64)
  | .mul => a * b

/-- A condition. -/
def condEval (c : Cond) (a b : U64) : Bool :=
  match c with
  | .eq => a == b
  | .ne => a != b
  | .lt => a.slt b
  | .ge => !a.slt b
  | .ltu => a.ult b
  | .geu => !a.ult b

/-- A logic function of two predicates. -/
def logicEval (o : LogicOp) (a b : Bool) : Bool :=
  match o with
  | .conj => a && b
  | .disj => a || b
  | .exor => a != b
  | .conjNot => a && !b

/-- The slug a branch goes to; none below 0. -/
def branchTo (pc : Nat) (imm : U32) : Option Nat :=
  let t := (pc : Int) + imm.toInt
  if t < 0 then none else some t.toNat

/-- Where a CTL operation sends the PC, when it does: the target, none when it lies below 0. -/
def CtlOp.target (o : PressSt) : CtlOp → Option (Option Nat)
  | .br imm => some (branchTo o.pc imm)
  | .jr ra => some (some ((o.getG ra).toNat % 2048))
  | .call imm => some (branchTo o.pc imm)
  | .loop rd imm => if o.getG rd - 1 = 0 then none else some (branchTo o.pc imm)
  | .resume ra => some (some ((o.getG ra).toNat % 2048))
  | _ => none

/-- Cycles without issue after a CTL operation that takes a branch (R484). -/
def CtlOp.branchCost (o : PressSt) : CtlOp → Nat
  | .loop _ imm => if -16 ≤ imm.toInt ∧ imm.toInt ≤ -1 then 0 else if (o.pc : Int) + imm.toInt < 0 then 0 else 2
  | _ => 2

/-- Status registers 0 to 7 (Table SLG-7). -/
def State.statusReg (s : State) (n : Press) (idx : Nat) : U64 :=
  let p := s.press n
  BitVec.ofNat 64 (match idx with
    | 0 => s.getF (PRS_EXC.CAUSE n.val)
    | 1 => s.getF (PRS_EXC.SLUG n.val)
    | 2 => s.getF (PRS_EXC.SLOT n.val)
    | 3 => s.getF (PRS_EXC_ADDR.ADDR n.val)
    | 4 => p.popEnd.toNat + 2 * p.popAbort.toNat
    | 5 => p.cycle
    | 6 => n.val
    | _ => (match s.launchOn n with | some l => (l.prov && p.prov).toNat | none => 0))

/-- Words of the press's inbound galley. -/
def State.inboundWords (s : State) (n : Press) : Nat := (s.gal (inboundOf n)).visible

/-! ### What an operation needs before it can go (R489, R493, R595) -/

/-- The operation accesses the stock: a FENCE of an earlier slug holds it (Table SLG-6). -/
def movStock : MovKind → Bool
  | .sload => true
  | .sstore => true
  | .satom => true
  | .brick => true
  | .fwalk => true
  | _ => false

/-- The press's FENCE is met (R489, R693 to R697): its stores have left, its transfers have ended and the fence condition holds. -/
def State.pressFence (s : State) (n : Press) (k : FenceKind) : StkAns × State :=
  let p := s.press n
  let prov := match s.launchOn n with | some l => l.prov | none => false
  if !p.sb.isEmpty || p.streams.any (fun x => decide (x.unit = 2)) || (decide (k = .durable) && prov) then ({ status := .wait }, s)
  else s.fence k (((s.launchOn n).map (·.cls)).getD 1) [n.val]

/-- Try the FENCE that is pending; an unreachable home unit raises REMOTE. -/
def State.fenceStep (s : State) (n : Press) : State :=
  match (s.press n).fence with
  | none => s
  | some k =>
    match s.pressFence n k with
    | (a, s) =>
      if a.status = .wait then s
      else
        let s := s.modPress n (fun p => { p with fence := none })
        if a.status = .ok then s else s.stkExc n 0 0 a.status

/-- The kinds of streams a BWAIT mask names; 0 means every kind. -/
def bwaitKinds (mask : Nat) : Nat := if mask = 0 then 15 else mask

/-- An operation must hold (GWAIT, GPOP, BWAIT, FENCE, the stock accesses after a FENCE, and the points where a provisional launch
holds). APOP holds on an empty drain queue. -/
def State.opHeld (s : State) (n : Press) (o : SlotOp) : Bool :=
  let p := s.press n
  let prov := match s.launchOn n with | some l => l.prov | none => false
  match o with
  | .ctl (.gwait onEnd words) =>
    let g := s.gal (inboundOf n)
    if onEnd then !(g.synth || (g.words.take g.visible).any (·.isEnd)) else decide (g.visible + g.synth.toNat < words)
  | .ctl (.gpop _ _) =>
    !(s.gal (inboundOf n)).available || p.streams.any (·.recv)
  | .ctl (.bwait mask) => p.streams.any (fun x => (bwaitKinds mask).testBit x.kind)
  | .ctl (.fence k) => p.fence.isSome || (decide (k = .durable) && prov)
  | .ftn (.apop ..) => p.drainQ.isEmpty
  | .mov k f =>
    (p.fence.isSome && movStock k) ||
    (prov && (match k with
      | .satom => true
      | .gsend => (match s.launchOn n with | some l => !l.mask.testBit f.dest.val | none => false)
      | .sstore => decide (stkTier ((BitVec.ofNat 64 f.stock) + p.getG f.gs).toNat = 3)
      | _ => false))
  | _ => false

/-! ### What an operation raises (R466, R476, R490, R491, R498, R502, R509, R552) -/

/-- A Bank extent: BANK_RANGE before ALIGN (log entry 17). -/
def bankFault (addr len al : Nat) : Option (Nat × Nat) :=
  if bankEnd < addr + len ∨ bankEnd ≤ addr then some (exBankRange, addr) else if addr % al ≠ 0 then some (exAlign, addr) else none

/-- The first fault of a list of extents. -/
def extFaults (l : List (Nat × Nat × Nat)) : Option (Nat × Nat) := l.findSome? (fun e => bankFault e.1 e.2.1 e.2.2)

/-- The Bank address of an FTN operation. -/
def ftnAddr (o : PressSt) (addr : Nat) (gb : Reg) : Nat := (BitVec.ofNat 64 addr + o.getG gb).toNat

/-- The Bank and stock addresses of a MOV operation. -/
def movBank (o : PressSt) (f : MovFields) : Nat := (BitVec.ofNat 64 f.bank + o.getG f.gb).toNat
def movStockAddr (o : PressSt) (f : MovFields) : Nat := (BitVec.ofNat 64 f.stock + o.getG f.gs).toNat

/-- The Bank extents an operation touches: address, length, alignment. -/
def SlotOp.extents (a : Nat) (o : PressSt) : SlotOp → List (Nat × Nat × Nat)
  | .wload f => [(f.addrA, (wstoreSpan a f).2, 64)]
  | .run f =>
    (if f.mode = .case then [] else [(f.addrA, f.m * a * 16, 64)]) ++ (if f.start then [(f.addrP, 2048 * f.m, 64)] else []) ++
    (if f.drain then [] else [(f.addrD, 2048 * f.m, 64)]) ++ (if f.satEn then [(f.addrS, 64 * f.m, 64)] else [])
  | .build b => [(b.addr, b.m * a * 64, 64)]
  | .peek _ _ addr => [(addr, 512, 64)]
  | .ftn (.vld _ gb addr) => [(ftnAddr o addr gb, 1024, 64)]
  | .ftn (.vst _ gb addr) => [(ftnAddr o addr gb, 1024, 64)]
  | .ftn (.vstp _ gb addr) => [(ftnAddr o addr gb, 32 * a, 32)]
  | .ftn (.sst _ _ gb addr) => [(ftnAddr o addr gb, 8, 8)]
  | .hload f => [(f.addrB, if f.int8 then 1024 else 2048, 64)]
  | .hrun f => (f.addrA, f.m * (if f.int8 then 32 else 64), 64) ::
      (if f.out then [(f.addrC, f.m * (if f.outBf then 64 else 128), 64)] else [])
  | .mov .satom _ => []
  | .mov .sload f => [(movBank o f, f.len, 64)]
  | .mov .sstore f => [(movBank o f, f.len, 64)]
  | .mov .gsend f => [(movBank o f, f.len, 8)]
  | .mov .grecv f => [(movBank o f, f.len, 8)]
  | .mov .bcopy f => [(movBank o f, f.len, 64), ((o.getG f.ra).toNat, f.len, 64)]
  | .mov .icopy f => [(movBank o f, 64, 64)]
  | .mov .brick f => [(movBank o f, 4096, 64)]
  | .mov .fwalk f => [(movBank o f, 1, 64)]
  | _ => []

/-- The precise cause an executing operation raises, with the faulting address. -/
def State.opFault (s : State) (n : Press) (o : PressSt) (op : SlotOp) : Option (Nat × Nat) :=
  let l := (s.launchOn n).getD { ring := 0, tag := 0, slot := 0, cls := 1, epoch := 0, mask := 0, net := 0 }
  let a := l.hdr.act
  if !op.legal a then some (exIllegal, 0)
  else
    match op with
    | .ctl .trap => some (exTrap, 0)
    | .ctl (.resume ra) =>
      if o.mode ≠ .handler ∨ l.hdr.count ≤ (o.getG ra).toNat % 2048 then some (exIllegal, 0) else none
    | .ctl c =>
      match c.target o with
      | some (some t) => if l.hdr.count ≤ t then some (exIllegal, 0) else none
      | some none => some (exIllegal, 0)
      | none => none
    | .mov k f =>
      match extFaults (op.extents a o) with
      | some x => some x
      | none =>
        let st := movStockAddr o f
        if (k = .sload ∨ k = .sstore) ∧ st % 64 ≠ 0 then some (exAlign, st)
        else if k = .satom ∧ st % 8 ≠ 0 then some (exAlign, st)
        else if k = .bcopy ∧ movBank o f < (o.getG f.ra).toNat + f.len ∧ (o.getG f.ra).toNat < movBank o f + f.len then
          some (exIllegal, 0)
        else if k = .fwalk ∧ (!(WalkArgs.of (o.getG f.ra) (o.getG f.rb)).legal ∨ a ≠ s.kvWidth) then some (exIllegal, 0)
        else none
    | _ => extFaults (op.extents a o)

/-- The operation rounds stochastically. -/
def SlotOp.rounds : SlotOp → Bool
  | .ftn (.fp _ _ _ _ _ _ rnd) => rnd
  | .ftn (.req _ _ _ _ _ _ rnd) => rnd
  | .ftn (.f2b _ _ _ rnd) => rnd
  | _ => false

/-- R416: stochastic rounding in GUARD-class work is never performed. -/
def State.opStochastic (s : State) (n : Press) (op : SlotOp) : Bool :=
  match s.launchOn n with
  | some l => decide (l.cls = 0) && op.rounds
  | none => false

/-- The lowest press of a mask. -/
def lowestPress (mask : Nat) : Nat := ((List.range 16).find? (fun i => mask.testBit i)).getD 0

/-- The stop of R416. -/
def State.stochasticStop (s : State) (n : Press) : State :=
  let low := match s.launchOn n with | some l => lowestPress l.mask | none => 0
  s.stopExc n exDeterminism 3 0 { status := stDeterminism, detail := low }

/-! ### Precise exceptions (R467 to R470) -/

/-- A precise exception of press n: recorded; its handler is entered, or its launch ends. -/
def State.precise (s : State) (n : Press) (cause slug slot addr : Nat) : State :=
  let p := s.press n
  let s := s.excRecord n cause slug slot addr
  match s.launchOn n with
  | none => s
  | some l =>
    match p.handled with
    | some c => s.stopLaunch l.key { preciseStop c with raised := some (p.cycle, n.val) }
    | none =>
      if l.hdr.handler = 0xFFFF then s.stopLaunch l.key { preciseStop cause with raised := some (p.cycle, n.val) }
      else s.setPress n { p with mode := .handler, pc := l.hdr.handler, handled := some cause, settle := true }

/-! ### CTL effects -/

/-- What a CTL operation does. -/
def State.ctlDo (s : State) (n : Press) (o : PressSt) (op : CtlOp) : State :=
  let jump (s : State) : State :=
    match op.target o with
    | some (some t) => s.modPress n (fun p => { p with pc := t, bubble := p.bubble + op.branchCost o })
    | _ => s
  match op with
  | .nop => s
  | .alu k rd ra b => s.putG n rd (k.eval (o.getG ra) (b.value o))
  | .movi rd imm => s.putG n rd (sext32 imm)
  | .movhi rd ra imm => s.putG n rd ((imm.setWidth 64 <<< 32) ||| (o.getG ra &&& 0xFFFFFFFF#64))
  | .cmp pd c ra b => s.putP n pd (condEval c (o.getG ra) (b.value o))
  | .plog pd k pa pb => s.putP n pd (logicEval k (o.getP pa) (o.getP pb))
  | .br _ => jump s
  | .jr _ => jump s
  | .call _ => jump (s.putG n 31 (BitVec.ofNat 64 (o.pc + 1)))
  | .loop rd _ => jump (s.putG n rd (o.getG rd - 1))
  | .gwait _ _ => s
  | .gcount rd => s.putG n rd (BitVec.ofNat 64 (s.inboundWords n))
  | .gpop rd pd =>
    match s.galPop (inboundOf n) with
    | (none, s) => s
    | (some w, s) =>
      let s := s.modPress n (fun p => { p with popEnd := w.isEnd, popAbort := w.isAbort })
      if w.isPoison then s.stopExc n exPoison 0 0 { status := stPoison }
      else (s.putG n rd w.data).putP n pd (w.isEnd || w.isAbort)
  | .fence k => (s.modPress n (fun p => { p with fence := some k })).fenceStep n
  | .bwait _ => s
  | .rdsr rd idx => s.putG n rd (s.statusReg n idx)
  | .trap => s
  | .resume _ => jump (s.modPress n (fun p => { p with mode := .running, handled := none }))
  | .stop => (s.modPress n (fun p => { p with ended := true }))

/-! ### FTN effects -/

/-- The random values of the lanes for one operation that rounds stochastically: one draw from each screen of the press (R454). -/
def State.draws (s : State) (n : Press) (rnd : Bool) : (Nat → Option Nat) × State :=
  if rnd then
    let sc := pressScreens n
    match s.screenDraw sc.1 with
    | (da, s) => match s.screenDraw sc.2 with
      | (db, s) => ((fun i => some (laneRandom da db i)), s)
  else ((fun _ => none), s)

/-- Combine lanes of up to three registers, each lane with its random value. -/
def lanes3 (r : Nat → Option Nat) (f : Option Nat → U32 → U32 → U32 → U32) (a b c : List U32) : List U32 :=
  (List.range 256).map (fun i => f (r i) (a.getD i 0) (b.getD i 0) (c.getD i 0))

/-- An INT32 lane operation. -/
def IntOp.eval (op : IntOp) (a b : U32) : U32 :=
  match op with
  | .add => a + b
  | .sub => a - b
  | .mul => a * b
  | .max => if a.slt b then b else a
  | .min => if a.slt b then a else b

/-- An FP32 lane operation. -/
def FpOp.eval (op : FpOp) (a b c : U32) : U32 :=
  match op with
  | .add => fAdd a b
  | .sub => fSub a b
  | .mul => fMul a b
  | .fma => fFma a b c
  | .max => fMax a b
  | .min => fMin a b

/-- Every lane the same. -/
def splat (v : U32) : List U32 := List.replicate 256 v

/-- Columns 0 to 255 of a drained set, then 256 to 511, and the SAT bits of that half as lanes 0 to 7 (R502). -/
def DrainSet.lanes (d : DrainSet) : List U32 := ((d.set.vals.drop (if d.half then 256 else 0)).take 256).map (BitVec.ofInt 32)
def DrainSet.satLanes (d : DrainSet) : List U32 := lanesOf (packBits ((d.set.sats.drop (if d.half then 256 else 0)).take 256))

/-- APOP: the next half of the oldest set. -/
def State.apop (s : State) (n : Press) (vd vc : VReg) (satv : Bool) : State :=
  match (s.press n).drainQ with
  | [] => s
  | d :: ds =>
    let s := s.modPress n (fun p => { p with drainQ := if d.half then ds else { d with half := true } :: ds })
    let s := s.putV n vd d.lanes
    let s := if satv then s.putV n vc d.satLanes else s
    s.pump n

/-- What an FTN operation does. -/
def State.ftnDo (s : State) (n : Press) (o : PressSt) (op : FtnOp) : State :=
  match op with
  | .nop => s
  | .vld vd gb addr =>
    match s.bankRead n 3 (ftnAddr o addr gb) 1024 with
    | (none, s) => s
    | (some bs, s) => s.putV n vd (lanesOf bs)
  | .vst va gb addr => s.bankWrite n (ftnAddr o addr gb) (lanesLe (o.getV va))
  | .vstp va gb addr => s.bankWrite n (ftnAddr o addr gb) (vecPlanes (s.actOf n) (o.getV va))
  | .apop vd vc satv => s.apop n vd vc satv
  | .sst va vb gb addr => s.bankWrite n (ftnAddr o addr gb) (lanesLe [o.lane0 va, o.lane0 vb])
  | .vmovg vd ga => s.putV n vd (splat ((o.getG ga).setWidth 32))
  | .gmovv gd va => s.putG n gd ((o.lane0 va).setWidth 64)
  | .int k vd va vb => s.putV n vd (lanes3 (fun _ => none) (fun _ a b _ => k.eval a b) (o.getV va) (o.getV vb) [])
  | .fp k vd va vb vc bf rnd =>
    match s.draws n rnd with
    | (r, s) => s.putV n vd (lanes3 r (fun r a b c => if bf then bfPair r k.eval a b c else k.eval a b c) (o.getV va) (o.getV vb) (o.getV vc))
  | .req vd va vb sh z sout rnd =>
    match s.draws n rnd with
    | (r, s) =>
      let a := s.actOf n
      let x := o.getV va
      let m := o.getV vb
      let out := (List.range 256).map (fun i => requant a sout z.toInt sh (r i) (x.getD i 0) (m.getD i 0))
      (s.putV n vd (out.map (·.1))).incSat (PRS_SAT.REQ_CLAMP n.val) (out.countP (·.2))
  | .f2b vd va vb rnd =>
    match s.draws n rnd with
    | (r, s) => s.putV n vd (lanes3 r (fun r a b _ => BitVec.ofNat 32 (bfOf a r + 65536 * bfOf b r)) (o.getV va) (o.getV vb) [])
  | .b2f vd va high => s.putV n vd ((o.getV va).map (fun a => bfRead (if high then a.toNat / 65536 else a.toNat)))
  | .i2f vd va => s.putV n vd ((o.getV va).map (fun a => fOfInt a.toInt 0))
  | .exp vd va => s.putV n vd ((o.getV va).map fExp)
  | .log vd va => s.putV n vd ((o.getV va).map fLog)
  | .red k vd va =>
    let l := o.getV va
    s.putV n vd (splat (match k with
      | .fsum => fTreeSum l
      | .fmax => fTreeMax l
      | .isum => iTreeSum l
      | .imax => iTreeMax l))

/-! ### MOV effects -/

/-- The atomic a SATOM makes. -/
def satomOp (aop : Nat) (a b : U64) : AccessOp := if aop = 0 then .fetchAdd a else if aop = 1 then .compareSwap b a else .swap a

/-- The 64-byte store-buffer entries of an SSTORE (R462, R485, R488). -/
def sstoreEntries (l : Launch) (owner : Option (Nat × Nat)) (addr epoch : Nat) (bs : List Byte) : List SbEntry :=
  (List.range (bs.length / 64)).map (fun k =>
    { addr := (addr + 64 * k) % 2 ^ 64, op := .write (slice bs (64 * k) 64), cls := l.cls, epoch := epoch, owner := owner })

/-- What a MOV operation starts: SSTORE enters the store buffer, everything else is a stream (R506). -/
def State.movDo (s : State) (n : Press) (o : PressSt) (k : MovKind) (f : MovFields) (provOk : Bool) (epoch : Nat) : State :=
  match s.launchOn n with
  | none => s
  | some l =>
    let bank := movBank o f
    let stock := movStockAddr o f
    let left := lineRuns ((SlotOp.mov k f).extents (s.actOf n) o)
    let op := satomOp f.aop (o.getG f.ra) (o.getG f.rb)
    match k with
    | .sload => s.streamStart n 2 2 0 left (.sload stock bank f.len provOk)
    | .sstore =>
      match s.bankRead n 5 bank f.len with
      | (none, s) => s
      | (some bs, s) => s.modPress n (fun p => { p with sb := p.sb ++ sstoreEntries l (s.ownerOf l) stock epoch bs })
    | .satom =>
      let sid := (s.press n).nextSid
      let s := s.streamStart n 2 2 f.rd left (.satom stock op epoch)
      if (s.proofPair n).isSome then
        s.modPress n (fun p => { p with sb := p.sb ++ [{ addr := stock, op := op, cls := l.cls, epoch := epoch, sid := sid }] })
      else s
    | .gsend =>
      match s.bankRead n 5 bank f.len with
      | (none, s) => s
      | (some bs, s) =>
        s.streamStart n 2 2 0 left (.gsend (inboundOf (s.sendDest n f.dest))
          ((List.range (f.len / 8)).map (fun i => BitVec.ofNat 64 (leNat (slice bs (8 * i) 8)))) false)
    | .grecv => s.streamStart n 2 2 f.rd left (.grecv bank (f.len / 8) 0 0)
    | .bcopy => s.streamStart n 2 2 0 left (.bcopy bank (o.getG f.ra).toNat f.len)
    | .icopy => s.streamStart n 2 2 f.rd left (.icopy bank)
    | .brick => s.streamStart n 2 2 f.rd left (.brick (bitsOf (o.getG f.gs).toNat 26 0) bank epoch)
    | .fwalk => s.streamStart n 2 3 f.rd left (.fwalk (o.getG f.ra) (o.getG f.rb) bank)

/-! ### All slots -/

/-- BUILD forms the tables of every token and plane; those of the last token stay for PEEK (R500, R501). -/
def State.buildLast (s : State) (n : Press) (b : BuildFields) : State :=
  let a := s.actOf n
  match s.bankCheck n b.addr (b.m * a * 64) with
  | (true, s) => s.bankPoison n 2 b.addr
  | (false, s) => s.modPress n (fun p => { p with
      built := (List.range a).map (fun pl => builtPlane (fun i => p.seen s.free { after := some 0 } (b.addr + 64 * (a * (b.m - 1) + pl) + i)) b.groups) })

/-- The effect of one operation; build is the BUILD that issues with a RUN. -/
def State.opDo (s : State) (n : Press) (o : PressSt) (op : SlotOp) (build : Option BuildFields) (provOk : Bool) (epoch : Nat) : State :=
  let left := lineRuns (op.extents (s.actOf n) o)
  match op with
  | .ctl c => s.ctlDo n o c
  | .wload f => s.streamStart n 0 0 0 left (.wload f)
  | .run f =>
    let b := if f.mode = .case then build else none
    s.streamStart n 0 1 0 (left ++ (match b with | some b => lineRuns ((SlotOp.build b).extents (s.actOf n) o) | none => [])) (.run f b 0)
  | .build b => s.buildLast n b
  | .peek g p a => s.streamStart n 0 1 0 left (.peek g p a)
  | .ftn f => s.ftnDo n o f
  | .hload f => s.streamStart n 1 0 0 left (.hload f)
  | .hrun f => s.streamStart n 1 1 0 left (.hrun f)
  | .mov k f => s.movDo n o k f provOk epoch
  | .nop _ => s

/-- One operation on its own, as a slug that holds it alone would perform it apart from the slug's own accounting: nothing while the
press does not issue or the operation must hold; an exception where it raises one; else its effect. -/
def State.opAlone (s : State) (n : Press) (op : SlotOp) (build : Option BuildFields := none) (provOk : Bool := false) (epoch : Nat := 0) : State :=
  let o := s.press n
  if !o.issues || s.opHeld n op then s
  else
    match s.opFault n o op with
    | some (c, a) => s.precise n c o.pc op.slot a
    | none => if s.opStochastic n op then s.stochasticStop n else s.opDo n o op build provOk epoch

/-- PROV_OK takes effect (R487). -/
def State.provOkOn (s : State) (n : Press) : Bool :=
  match s.launchOn n with
  | some l => l.accept && decide (l.cls ≠ 0)
  | none => false

end Sys2Proof.Machine
end

