-- ==== Sys2Proof/Machine/Press.lean ====
section
/-!
DEFINITION. The commands of a press: one slug at a time (R430, R467 to R493), each slot operation on its own, the store buffer
(R462 to R465) and the writes of PRS_CTRL (R473).
-/

namespace Sys2Proof.Machine

/-! ### One slug (R430, R476 to R486) -/

/-- The valid slots whose predicate lets them execute (R478). -/
def Slug.executing (c : SlugCtl) (o : PressSt) (slot : Nat) : Bool :=
  !c.pmask.testBit slot || (o.getP (predAtBits c.pred 0) != c.pneg)

/-- The operations of a slug that execute, in slot order. -/
def Slug.running (g : Slug) (o : PressSt) : List SlotOp := g.ops.filterMap (fun e => if Slug.executing g.ctl o e.1 then e.2 else none)

/-- The BUILD among executing operations. -/
def buildOf (ops : List SlotOp) : Option BuildFields := ops.findSome? (fun o => match o with | .build b => some b | _ => none)

/-- The case-mode RUN among executing operations. -/
def caseRunOf (ops : List SlotOp) : Option AryFields :=
  ops.findSome? (fun o => match o with | .run f => if f.mode = .case then some f else none | _ => none)

/-- R499: a case-mode RUN and its BUILD issue together and with the same M. -/
def pairFault (ops : List SlotOp) (o : SlotOp) : Bool :=
  match o with
  | .run f => decide (f.mode = .case) && (buildOf ops).isNone
  | .build b => (match caseRunOf ops with | none => true | some f => decide (f.m ≠ b.m))
  | _ => false

/-- R509: a GPOP in the slug of a GRECV. -/
def popFault (g : Slug) (o : SlotOp) : Bool :=
  match o with
  | .mov .grecv _ => g.ops.any (fun e => match e.2 with | some (.ctl (.gpop ..)) => true | _ => false)
  | _ => false

/-- The first precise fault of a slug in slot order, given the destinations named so far: slot, cause, address (R472 takes the first). -/
def State.slotFaults (s : State) (n : Press) (o : PressSt) (g : Slug) (ops : List SlotOp) :
    List (Nat × Option SlotOp) → List Nat → Option (Nat × Nat × Nat)
  | [], _ => none
  | (slot, none) :: _, _ => some (slot, exIllegal, 0)
  | (slot, some op) :: r, seen =>
    if !op.legal (s.actOf n) || op.dests.any (fun k => seen.contains k) || popFault g op then some (slot, exIllegal, 0)
    else if !Slug.executing g.ctl o slot then s.slotFaults n o g ops r (seen ++ op.dests)
    else if pairFault ops op then some (slot, exIllegal, 0)
    else
      match s.opFault n o op with
      | some (c, a) => some (slot, c, a)
      | none => s.slotFaults n o g ops r (seen ++ op.dests)

/-- The precise fault of a slug: its control field first (R476, R486), then its slots. -/
def State.slugFault (s : State) (n : Press) (o : PressSt) (g : Slug) : Option (Nat × Nat × Nat) :=
  let guard := match s.launchOn n with | some l => decide (l.cls = 0) | none => false
  if g.ctl.rsv || (guard && decide (g.ctl.valid ≠ 0) && decide (g.ctl.ereg ≠ 0)) then some (7, exIllegal, 0)
  else s.slotFaults n o g (g.running o) g.ops []

/-- Registers a slug reads or names as destinations, its predicate and EREG among them. -/
def Slug.keys (g : Slug) : List Nat :=
  g.ops.flatMap (fun e => match e.2 with | some op => op.srcs ++ op.dests | none => []) ++
  [32 + g.ctl.pred] ++ (if g.ctl.ereg = 0 then [] else [keyG g.ctl.ereg])

/-- A register that an earlier slug still has to write (R481). -/
def PressSt.waitsFor (p : PressSt) (k : Nat) : Bool :=
  p.ready.any (fun e => decide (e.1 = k) && decide (p.cycle < e.2)) || p.streams.any (fun x => decide (x.rd ≠ 0) && decide (keyG x.rd = k))

/-- Store-buffer entries an operation needs (R464). -/
def State.sbNeed (s : State) (n : Press) (op : SlotOp) : Nat :=
  match op with
  | .mov .sstore f => f.len / 64
  | .mov .satom _ => if (s.proofPair n).isSome then 1 else 0
  | _ => 0

/-- The store buffer has too few free entries for a slug, or a guard copy that stores is 64 entries ahead of its twin (R464, R715). -/
def State.sbShort (s : State) (n : Press) (need : Nat) : Bool :=
  decide (64 < (s.press n).sb.length + need) || (decide (need ≠ 0) && s.proofFull n)

/-- The unit whose queue an operation joins: array, hand press or MOV streams (R482). -/
def unitOf : SlotOp → Option Nat
  | .wload _ => some 0
  | .run _ => some 0
  | .peek _ _ _ => some 0
  | .hload _ => some 1
  | .hrun _ => some 1
  | .mov k _ => if k = .sstore then none else some 2
  | _ => none

/-- The depth of a unit's queue (R482). -/
def unitDepth : Nat → Nat
  | 0 => 4
  | 1 => 2
  | _ => 8

/-- A unit that an operation needs is full. -/
def PressSt.unitFull (p : PressSt) (op : SlotOp) : Bool :=
  match unitOf op with
  | none => false
  | some u => decide (unitDepth u ≤ p.streams.countP (fun x => decide (x.unit = u)))

/-- Halves the drain queue can give. -/
def PressSt.halves (p : PressSt) : Nat := (p.drainQ.map (fun d => if d.half then 1 else 2)).sum

/-- The slug holds for something other than store-buffer room (R430, R481, R482, R489). -/
def State.slugHeld (s : State) (n : Press) (g : Slug) (ops : List SlotOp) : Bool :=
  let p := s.press n
  g.keys.any p.waitsFor || ops.any (fun op => s.opHeld n op || p.unitFull op) ||
  decide (p.halves < ops.countP (fun op => match op with | .ftn (.apop ..) => true | _ => false))

/-! ### Sub-banks (R430, R458 to R460) -/

/-- Where the line at a Bank address lies: its sub-bank, and its row there. A SHADOW press places its Bank differently (R458, R713). -/
def bankPlace (shadow : Bool) (x : Nat) : Nat × Nat :=
  if shadow then ((x / 64 % 32) ^^^ 16, 3071 - x / 2048 % 4096) else (x / 64 % 32, x / 2048 % 4096)

/-- Press n runs as a SHADOW. -/
def State.shadowing (s : State) (n : Press) : Bool := match s.proofPair n with | some (_, b) => b | none => false

/-- Sub-banks that the slug's own accesses use, line after line (R458, R459). -/
def slugLines (shadow : Bool) (a : Nat) (o : PressSt) (ops : List SlotOp) : List Nat :=
  ops.flatMap (fun op =>
    let direct := match op with | .ftn _ => true | .mov .sstore _ => true | _ => false
    if direct then (op.extents a o).flatMap (fun e => (linesOf e.1 e.2.1).map (fun l => (bankPlace shadow (64 * l)).1)) else [])

/-- Further accesses to sub-banks the slug has used: a cycle each (R459). -/
def bankConflicts (lines : List Nat) : Nat := lines.length - lines.eraseDups.length

/-- The sub-bank of the line that a stream accesses next. -/
def PStream.wants (shadow : Bool) (x : PStream) : Option Nat := x.left.head?.map (fun e => (bankPlace shadow (64 * e.1)).1)

/-- Take up to n lines of what a stream has left, each from a sub-bank that nothing has used in this cycle: the sub-banks used, and what
is left. -/
def takeLines (shadow : Bool) : Nat → List Nat → List (Nat × Nat) → List Nat × List (Nat × Nat)
  | 0, used, left => (used, left)
  | _ + 1, used, [] => (used, [])
  | n + 1, used, (a, k) :: r =>
    let b := (bankPlace shadow (64 * a)).1
    if used.contains b then (used, (a, k) :: r)
    else takeLines shadow n (b :: used) (if k ≤ 1 then r else (a + 1, k - 1) :: r)

/-- A stream in one cycle: it takes a line, a weight load eight (R434), or waits (R460). -/
def PStream.turn (x : PStream) (shadow : Bool) (used : List Nat) : List Nat × PStream :=
  let r := takeLines shadow (if x.unit = 0 ∧ x.kind = 0 then 8 else 1) used x.left
  (r.1, { x with left := r.2, waited := if r.2 = x.left ∧ x.left ≠ [] then x.waited + 1 else 0 })

/-- One cycle of the streams on the Bank: one that has waited 16 cycles takes its sub-bank first; the others take turns round robin over what
the issuing slug leaves free (R460). -/
def PressSt.bankTurn (p : PressSt) (shadow : Bool) (used : List Nat) : PressSt :=
  let late := p.streams.filter (fun x => decide (16 ≤ x.waited))
  let rest := p.streams.filter (fun x => decide (x.waited < 16))
  let order := late ++ rest.filter (fun x => decide (p.turn < x.sid)) ++ rest.filter (fun x => decide (x.sid ≤ p.turn))
  let done := (order.foldl (fun (a : List Nat × List PStream) x => let r := x.turn shadow a.1; (r.1, a.2 ++ [r.2])) (used, [])).2
  { p with
    turn := ((rest.filter (fun x => decide (p.turn < x.sid)) ++ rest).head?.map (·.sid)).getD p.turn
    streams := p.streams.map (fun x => (done.find? (fun y => decide (y.sid = x.sid))).getD x) }

/-- A stream that has waited 16 cycles takes a sub-bank that the slug needs (R460). -/
def PressSt.starved (p : PressSt) (shadow : Bool) (lines : List Nat) : Bool :=
  p.streams.any (fun x => decide (16 ≤ x.waited) && (match x.wants shadow with | some b => lines.contains b | none => false))

/-- A slug issues: every slot that executes takes effect, the slug retires, and the PC moves on (R430, R479, R490). -/
def State.slugCommit (s : State) (n : Press) (g : Slug) : State :=
  let o := s.press n
  let ops := g.running o
  let epoch := if g.ctl.ereg = 0 then (o.getG 6).toNat % 2 ^ 32 else (o.getG g.ctl.ereg).toNat % 2 ^ 32
  let lines := slugLines (s.shadowing n) (s.actOf n) o ops
  let s := s.modPress n (fun p => { p.bankTurn (s.shadowing n) lines with pc := o.pc + 1, bubble := bankConflicts lines })
  let s := ops.foldl (fun s op => (s.opDo n o op (buildOf ops) (g.ctl.provOk && s.provOkOn n) epoch).setReady n op.dests op.latency) s
  let s := (s.modPress n (fun p => { p with retired := p.retired + 1, streams := if p.mode = .stopping then [] else p.streams })).incWrap
    (PRS_RETIRED.RETIRED n.val)
  let p := s.press n
  if p.ended && !o.ended then s.proofEnd n
  else
    match s.launchOn n with
    | none => s
    | some l => if p.issues && decide (l.hdr.count ≤ p.pc) then s.precise n exIllegal l.hdr.count 7 0 else s

/-- Fetch the slug at the PC (R431): none when it holds an uncorrectable error. -/
def State.slugFetch (s : State) (n : Press) : Option Slug × State :=
  let p := s.press n
  let bad := badWords p.slugBad (128 * p.pc) 128
  let one := bad.filter (fun e => decide (e.2 = 1))
  let s := if bad.isEmpty then s else
    (s.setPress n { p with slugBad := p.slugBad.filter (fun e => !one.contains e) }).incSat (PRS_ECC.SLUG_CORR n.val) one.length
  if one.length < bad.length then
    (none, (s.incSat (PRS_ECC.SLUG_UNCORR n.val) (bad.length - one.length)).bankPoison n 7 0)
  else (some (decodeSlug (leNat (p.slugs.read (128 * p.pc) 128))), s)

/-- A press that another press's exception stops has had its last cycle. -/
def State.stopDue (s : State) (n : Press) : State :=
  match (s.press n).stopAt with
  | some c => if c ≤ (s.press n).cycle then (s.modPress n (fun p => p.halt s.free)).bumpFree else s
  | none => s

/-- Errors strike words of a press's memories: two of one bit each are no longer correctable. -/
def hitWord (m : FMap Nat) (h : MemHit) : FMap Nat := tabSet m h.word (min 2 (tabGet 0 m h.word + (if h.double then 2 else 1)))

/-- Errors strike the slug memory and the Bank of a press. -/
def State.memHits (s : State) (n : Press) (hs : List MemHit) : State :=
  s.modPress n (fun p => hs.foldl (fun p h =>
    if h.slug then { p with slugBad := hitWord p.slugBad h } else { p with bankBad := hitWord p.bankBad h }) p)

/-- A cycle in which no slug issues: the streams have the Bank to themselves. -/
def State.idleCycle (s : State) (n : Press) : State := s.modPress n (fun p => p.bankTurn (s.shadowing n) [])

/-- One PRESS cycle of a press: its streams move on, and the slug at the PC issues unless something holds it (R430, R460, R464, R468, R481
to R484). -/
def State.slugCycle (s : State) (n : Press) : State :=
  if !(s.press n).issues then s
  else
    let s := (s.modPress n (fun p => { p with cycle := p.cycle + 1 })).pump n
    let p := s.press n
    if !p.issues then s
    else if p.bubble ≠ 0 then (s.setPress n { p with bubble := p.bubble - 1 }).idleCycle n
    else if p.settle && (!p.sb.isEmpty || !p.streams.isEmpty) then s.idleCycle n
    else
      match (s.setPress n { p with settle := false }).slugFetch n with
      | (none, s) => s
      | (some g, s) =>
        let s := s.fenceStep n
        let o := s.press n
        let ops := g.running o
        if !o.issues then s
        else if s.slugHeld n g ops then s.idleCycle n
        else
          match s.slugFault n o g with
          | some (slot, c, a) => s.precise n c o.pc slot a
          | none =>
            if ops.any (s.opStochastic n) then s.stochasticStop n
            else if o.starved (s.shadowing n) (slugLines (s.shadowing n) (s.actOf n) o ops) then (s.incSat (PRS_STALL.BANK_STALL n.val)).idleCycle n
            else if s.sbShort n (ops.map (s.sbNeed n)).sum then (s.incSat (PRS_STALL.SB_STALL n.val)).idleCycle n
            else s.slugCommit n g

/-- One PRESS cycle of a press, after which one that another press's exception stops stands still (R471). -/
def State.slugIssue (s : State) (n : Press) : State := (s.slugCycle n).stopDue n

/-- SLUG_ISSUE. -/
def execSlugIssue (t : PressCycle) (n : Press) (s : State) : Result := s.live (((s.at t.at_).memHits n t.hits).slugIssue n)

/-! ### The store buffer (R462, R463, R595, R602) -/

/-- The owner an entry carries when it leaves: none once its launch is confirmed. -/
def SbEntry.ownerNow (e : SbEntry) (l : Launch) (unit : Nat) : Option (Nat × Nat) :=
  if e.owner.isSome && (l.prov || decide (l.verdict = some false)) then l.pid.map (fun p => (unit, p)) else none

/-- The oldest entry leaves for the memory system. What a retracted launch still stores is poisoned, and never reaches host memory
(R602, R604; log entry 20). -/
def State.sbSend (s : State) (n : Press) : State :=
  let p := s.press n
  match p.sb, s.launchOn n with
  | e :: es, some l =>
    let dead := decide (l.verdict = some false) && e.owner.isSome
    let pop (s : State) : State := s.modPress n (fun p => { p with sb := es })
    if dead && decide (stkTier e.addr = 3) then pop s
    else
      match s.stkDo { src := s.unit, agent := n.val, cls := e.cls, op := e.op, addr := e.addr, epoch := e.epoch, owner := e.ownerNow l s.unit } with
      | (a, s) =>
        if a.status = .wait then s
        else if a.status = .ok then
          let s := (pop s).noteOut l.key e.addr (accLen e.op)
          match dead, l.pid with
          | true, some pid => s.pptPoison s.unit pid
          | _, _ => s
        else (pop s).stkExc n 5 e.addr a.status
  | _, _ => s

/-- STORE_BUFFER_DRAIN (R463, R715). -/
def execStoreBufferDrain (t : Tick) (n : Press) (s : State) : Result :=
  s.live (
    let s := s.at t
    ((match s.proofPair n with
      | some (k, shadow) => s.proofTake n k shadow
      | none => s.sbSend n).pump n))

/-! ### PRS_CTRL (R473, R760) -/

/-- The error counters and PRS_EXC of a press are cleared. -/
def State.prsClear (s : State) (n : Nat) : State :=
  let s := s.setF (PRS_EXC.COUNT n) 0
  (((((s.setReg (PRS_ECC n) 0).setReg (PRS_SAT n) 0).setReg (PRS_RETIRED n) 0).setReg (PRS_STALL n) 0).setReg (PRS_ARRAY n) 0)

/-- The next launch on a press loads its image anew; a fenced press ignores the write. -/
def State.prsDropImage (s : State) (n : Press) : State :=
  if s.getF SCP_ID.PRESS_MAP / 2 ^ n.val % 2 = 0 then s else s.modPress n (fun p => { p with image := none })

/-- PRS_CLEAR: the counters of the press go to 0. -/
def execPrsClear (n : Press) (s : State) : Result := s.host (s.prsClear n.val)

/-- PRS_DROP_IMAGE: the next launch loads its image anew; a fenced press ignores the write. -/
def execPrsDropImage (n : Press) (s : State) : Result := s.host (s.prsDropImage n)

/-! ### CTL operations (Table SLG-6) -/

/-- A shift amount as an operand. -/
def shiftOpnd : ShiftBy → Opnd
  | .reg r => .reg r
  | .imm n => .imm (BitVec.ofNat 64 n.val)

/-- A NOP of a slot: no effect (Tables SLG-6, SLG-8, SLG-9, SLG-11, SLG-12, SLG-14). -/
def execSlotNop (n : Press) (slot : Fin 6) (s : State) : Result := s.live (s.opAlone n (.nop slot.val))

/-- ADD: RD = RA add RB modulo 2^64. -/
def execAdd (n : Press) (rd ra rb : Reg) (s : State) : Result := s.live (s.opAlone n (.ctl (.alu .add rd ra (.reg rb))))

/-- SUB: RD = RA sub RB modulo 2^64. -/
def execSub (n : Press) (rd ra rb : Reg) (s : State) : Result := s.live (s.opAlone n (.ctl (.alu .sub rd ra (.reg rb))))

/-- AND: RD = RA and RB modulo 2^64. -/
def execAnd (n : Press) (rd ra rb : Reg) (s : State) : Result := s.live (s.opAlone n (.ctl (.alu .and rd ra (.reg rb))))

/-- OR: RD = RA or RB modulo 2^64. -/
def execOr (n : Press) (rd ra rb : Reg) (s : State) : Result := s.live (s.opAlone n (.ctl (.alu .or rd ra (.reg rb))))

/-- XOR: RD = RA xor RB modulo 2^64. -/
def execXor (n : Press) (rd ra rb : Reg) (s : State) : Result := s.live (s.opAlone n (.ctl (.alu .xor rd ra (.reg rb))))

/-- MUL: the low 64 bits of the product. -/
def execMul (n : Press) (rd ra rb : Reg) (s : State) : Result := s.live (s.opAlone n (.ctl (.alu .mul rd ra (.reg rb))))

/-- ADDI: RD = RA + the sign-extended IMM. -/
def execAddi (n : Press) (rd ra : Reg) (imm : U32) (s : State) : Result := s.live (s.opAlone n (.ctl (.alu .add rd ra (.imm (sext32 imm)))))

/-- SHL: RD = RA shifted by RB[5:0] or IMM[5:0]. -/
def execShl (n : Press) (rd ra : Reg) (by_ : ShiftBy) (s : State) : Result := s.live (s.opAlone n (.ctl (.alu .shl rd ra (shiftOpnd by_))))

/-- SHR: RD = RA shifted by RB[5:0] or IMM[5:0]. -/
def execShr (n : Press) (rd ra : Reg) (by_ : ShiftBy) (s : State) : Result := s.live (s.opAlone n (.ctl (.alu .shr rd ra (shiftOpnd by_))))

/-- SAR: RD = RA shifted by RB[5:0] or IMM[5:0]. -/
def execSar (n : Press) (rd ra : Reg) (by_ : ShiftBy) (s : State) : Result := s.live (s.opAlone n (.ctl (.alu .sar rd ra (shiftOpnd by_))))

/-- MOVI: RD = the sign-extended IMM. -/
def execMovi (n : Press) (rd : Reg) (imm : U32) (s : State) : Result := s.live (s.opAlone n (.ctl (.movi rd imm)))

/-- MOVHI: RD = IMM << 32 OR RA[31:0]. -/
def execMovhi (n : Press) (rd ra : Reg) (imm : U32) (s : State) : Result := s.live (s.opAlone n (.ctl (.movhi rd ra imm)))

/-- CMP: PD = the condition of RA against RB. -/
def execCmp (n : Press) (pd : Pred) (c : Cond) (ra rb : Reg) (s : State) : Result := s.live (s.opAlone n (.ctl (.cmp pd c ra (.reg rb))))

/-- CMPI: PD = the condition of RA against the sign-extended IMM. -/
def execCmpi (n : Press) (pd : Pred) (c : Cond) (ra : Reg) (imm : U32) (s : State) : Result := s.live (s.opAlone n (.ctl (.cmp pd c ra (.imm (sext32 imm)))))

/-- PLOG: PD = p[RA] op p[RB]. -/
def execPlog (n : Press) (pd : Pred) (op : LogicOp) (pa pb : Pred) (s : State) : Result := s.live (s.opAlone n (.ctl (.plog pd op pa pb)))

/-- BR: PC += IMM (R490). -/
def execBr (n : Press) (imm : U32) (s : State) : Result := s.live (s.opAlone n (.ctl (.br imm)))

/-- JR: PC = RA[10:0] (R490). -/
def execJr (n : Press) (ra : Reg) (s : State) : Result := s.live (s.opAlone n (.ctl (.jr ra)))

/-- CALL: g31 = PC + 1; PC += IMM (R490). -/
def execCall (n : Press) (imm : U32) (s : State) : Result := s.live (s.opAlone n (.ctl (.call imm)))

/-- LOOP: RD = RD − 1; PC += IMM unless it is 0 (R490). -/
def execLoop (n : Press) (rd : Reg) (imm : U32) (s : State) : Result := s.live (s.opAlone n (.ctl (.loop rd imm)))

/-- GWAIT: it holds until the inbound galley has what it names, and changes nothing. -/
def execGwait (n : Press) (onEnd : Bool) (words : Nat) (s : State) : Result := s.live (s.opAlone n (.ctl (.gwait onEnd words)))

/-- GCOUNT: RD = WORDS of the inbound galley. -/
def execGcount (n : Press) (rd : Reg) (s : State) : Result := s.live (s.opAlone n (.ctl (.gcount rd)))

/-- GPOP (R493). -/
def execGpop (n : Press) (rd : Reg) (pd : Pred) (s : State) : Result := s.live (s.opAlone n (.ctl (.gpop rd pd)))

/-- FENCE of the CTL slot: later stock accesses hold until it is met. -/
def execCtlFence (n : Press) (kind : FenceKind) (s : State) : Result := s.live (s.opAlone n (.ctl (.fence kind)))

/-- BWAIT: it holds until the streams of the kinds it names have ended, and changes nothing. -/
def execBwait (n : Press) (mask : BitVec 4) (s : State) : Result := s.live (s.opAlone n (.ctl (.bwait mask.toNat)))

/-- RDSR: RD = a status register (Table SLG-7). -/
def execRdsr (n : Press) (rd : Reg) (idx : Fin 8) (s : State) : Result := s.live (s.opAlone n (.ctl (.rdsr rd idx.val)))

/-- TRAP raises cause 0x06. -/
def execTrap (n : Press) (s : State) : Result := s.live (s.opAlone n (.ctl .trap))

/-- RESUME leaves the handler; PC = RA[10:0] (R491). -/
def execResume (n : Press) (ra : Reg) (s : State) : Result := s.live (s.opAlone n (.ctl (.resume ra)))

/-- END ends the launch on this press (R492); a copy of a guard pair meets the comparator's rules (R716). -/
def execEndSlot (n : Press) (s : State) : Result :=
  s.live (
    let s' := s.opAlone n (.ctl .stop)
    (if (s'.press n).ended && !(s.press n).ended then s'.proofEnd n else s'))


/-! ### ARY and CAS operations (Tables SLG-8, SLG-9) -/

/-- WLOAD (R441, R494). -/
def execWload (n : Press) (f : AryFields) (s : State) : Result := s.live (s.opAlone n (.wload f))

/-- RUN (R435 to R440, R495 to R500): a case-mode RUN comes with its BUILD, of the same M (R499). -/
def execRun (n : Press) (f : AryFields) (build : Option BuildFields) (s : State) : Result :=
  let ops := .run f :: (match build with | some b => [.build b] | none => [])
  s.live (
    if !(s.press n).issues then s
    else
      match ops.find? (fun o => pairFault ops o) with
      | some o => s.precise n exIllegal (s.press n).pc o.slot 0
      | none =>
        match build.bind (fun b => s.opFault n (s.press n) (.build b)) with
        | some (c, a) => s.precise n c (s.press n).pc 2 a
        | none => s.opAlone n (.run f) build)

/-- BUILD forms the case tables of its RUN (R443 to R445, R500). -/
def execBuild (n : Press) (b : BuildFields) (s : State) : Result := s.live (s.opAlone n (.build b))

/-- PEEK (R501). -/
def execPeek (n : Press) (group plane addr : Nat) (s : State) : Result := s.live (s.opAlone n (.peek group plane addr))


/-! ### FTN operations (Table SLG-11) -/

/-- VLD (R502). -/
def execVld (n : Press) (vd : VReg) (gb : Reg) (addr : BitVec 24) (s : State) : Result := s.live (s.opAlone n (.ftn (.vld vd gb addr.toNat)))

/-- VST (R502). -/
def execVst (n : Press) (va : VReg) (gb : Reg) (addr : BitVec 24) (s : State) : Result := s.live (s.opAlone n (.ftn (.vst va gb addr.toNat)))

/-- VSTP (R502). -/
def execVstp (n : Press) (va : VReg) (gb : Reg) (addr : BitVec 24) (s : State) : Result := s.live (s.opAlone n (.ftn (.vstp va gb addr.toNat)))

/-- APOP: the next half set of the drain queue. -/
def execApop (n : Press) (vd vc : VReg) (satv : Bool) (s : State) : Result := s.live (s.opAlone n (.ftn (.apop vd vc satv)))

/-- SST: lane 0 of VA, then lane 0 of VB. -/
def execSst (n : Press) (va vb : VReg) (gb : Reg) (addr : BitVec 24) (s : State) : Result := s.live (s.opAlone n (.ftn (.sst va vb gb addr.toNat)))

/-- VMOVG: every lane takes bits [31:0] of a g register. -/
def execVmovg (n : Press) (vd : VReg) (ga : Reg) (s : State) : Result := s.live (s.opAlone n (.ftn (.vmovg vd ga)))

/-- GMOVV: a g register takes lane 0, zero-extended. -/
def execGmovv (n : Press) (gd : Reg) (va : VReg) (s : State) : Result := s.live (s.opAlone n (.ftn (.gmovv gd va)))

/-- IADD: INT32 per lane. -/
def execIadd (n : Press) (vd va vb : VReg) (s : State) : Result := s.live (s.opAlone n (.ftn (.int .add vd va vb)))

/-- ISUB: INT32 per lane. -/
def execIsub (n : Press) (vd va vb : VReg) (s : State) : Result := s.live (s.opAlone n (.ftn (.int .sub vd va vb)))

/-- IMUL: INT32 per lane. -/
def execImul (n : Press) (vd va vb : VReg) (s : State) : Result := s.live (s.opAlone n (.ftn (.int .mul vd va vb)))

/-- IMAX: INT32 per lane. -/
def execImax (n : Press) (vd va vb : VReg) (s : State) : Result := s.live (s.opAlone n (.ftn (.int .max vd va vb)))

/-- IMIN: INT32 per lane. -/
def execImin (n : Press) (vd va vb : VReg) (s : State) : Result := s.live (s.opAlone n (.ftn (.int .min vd va vb)))

/-- FADD: FP32 per lane, or BF16 pairs (R503, R504). -/
def execFadd (n : Press) (vd va vb : VReg) (bf rnd : Bool) (s : State) : Result := s.live (s.opAlone n (.ftn (.fp .add vd va vb 0 bf rnd)))

/-- FSUB: FP32 per lane, or BF16 pairs (R503, R504). -/
def execFsub (n : Press) (vd va vb : VReg) (bf rnd : Bool) (s : State) : Result := s.live (s.opAlone n (.ftn (.fp .sub vd va vb 0 bf rnd)))

/-- FMUL: FP32 per lane, or BF16 pairs (R503, R504). -/
def execFmul (n : Press) (vd va vb : VReg) (bf rnd : Bool) (s : State) : Result := s.live (s.opAlone n (.ftn (.fp .mul vd va vb 0 bf rnd)))

/-- FMAX: FP32 per lane, or BF16 pairs (R503, R504). -/
def execFmax (n : Press) (vd va vb : VReg) (bf rnd : Bool) (s : State) : Result := s.live (s.opAlone n (.ftn (.fp .max vd va vb 0 bf rnd)))

/-- FMIN: FP32 per lane, or BF16 pairs (R503, R504). -/
def execFmin (n : Press) (vd va vb : VReg) (bf rnd : Bool) (s : State) : Result := s.live (s.opAlone n (.ftn (.fp .min vd va vb 0 bf rnd)))

/-- FMA: VA × VB + VC with one rounding. -/
def execFma (n : Press) (vd va vb vc : VReg) (bf rnd : Bool) (s : State) : Result := s.live (s.opAlone n (.ftn (.fp .fma vd va vb vc bf rnd)))

/-- REQ (R451 to R454). -/
def execReq (n : Press) (vd va vb : VReg) (sh : Nat) (z : BitVec 16) (sout rnd : Bool) (s : State) : Result := s.live (s.opAlone n (.ftn (.req vd va vb sh z sout rnd)))

/-- F2B (R455). -/
def execF2b (n : Press) (vd va vb : VReg) (rnd : Bool) (s : State) : Result := s.live (s.opAlone n (.ftn (.f2b vd va vb rnd)))

/-- B2F. -/
def execB2f (n : Press) (vd va : VReg) (high : Bool) (s : State) : Result := s.live (s.opAlone n (.ftn (.b2f vd va high)))

/-- I2F: rounded to nearest even. -/
def execI2f (n : Press) (vd va : VReg) (s : State) : Result := s.live (s.opAlone n (.ftn (.i2f vd va)))

/-- EXP (R456). -/
def execExp (n : Press) (vd va : VReg) (s : State) : Result := s.live (s.opAlone n (.ftn (.exp vd va)))

/-- LOG (R456). -/
def execLog (n : Press) (vd va : VReg) (s : State) : Result := s.live (s.opAlone n (.ftn (.log vd va)))

/-- FRSUM: a reduction in the fixed tree (R457). -/
def execFrsum (n : Press) (vd va : VReg) (s : State) : Result := s.live (s.opAlone n (.ftn (.red .fsum vd va)))

/-- FRMAX: a reduction in the fixed tree (R457). -/
def execFrmax (n : Press) (vd va : VReg) (s : State) : Result := s.live (s.opAlone n (.ftn (.red .fmax vd va)))

/-- IRSUM: a reduction in the fixed tree (R457). -/
def execIrsum (n : Press) (vd va : VReg) (s : State) : Result := s.live (s.opAlone n (.ftn (.red .isum vd va)))

/-- IRMAX: a reduction in the fixed tree (R457). -/
def execIrmax (n : Press) (vd va : VReg) (s : State) : Result := s.live (s.opAlone n (.ftn (.red .imax vd va)))


/-! ### HND and MOV operations (Tables SLG-12, SLG-14) -/

/-- HLOAD (R505). -/
def execHload (n : Press) (f : HndFields) (s : State) : Result := s.live (s.opAlone n (.hload f))

/-- HRUN (R447 to R449, R505). -/
def execHrun (n : Press) (f : HndFields) (s : State) : Result := s.live (s.opAlone n (.hrun f))

/-- SLOAD (R465, R487, R488, R593, R594). -/
def execSload (t : Tick) (n : Press) (f : MovFields) (provOk : Bool) (s : State) : Result :=
  s.live ((s.at t).opAlone n (.mov .sload f) none (provOk && s.provOkOn n))

/-- SSTORE enters the store buffer (R462, R485); without room for it nothing happens. -/
def execSstore (n : Press) (f : MovFields) (tagEpoch : Nat) (s : State) : Result :=
  s.live (if s.sbShort n (f.len / 64) ∧ (SlotOp.mov .sstore f).legal 2 then s
    else s.opAlone n (.mov .sstore f) none false tagEpoch)

/-- SATOM (R485, R595, R715). -/
def execSatom (t : Tick) (n : Press) (f : MovFields) (tagEpoch : Nat) (s : State) : Result :=
  s.live ((s.at t).opAlone n (.mov .satom f) none false tagEpoch)

/-- GSEND (R506, R595, R712). -/
def execGsend (n : Press) (f : MovFields) (s : State) : Result := s.live (s.opAlone n (.mov .gsend f))

/-- GRECV (R507). -/
def execGrecv (n : Press) (f : MovFields) (s : State) : Result := s.live (s.opAlone n (.mov .grecv f))

/-- BCOPY (R506, R509). -/
def execBcopy (n : Press) (f : MovFields) (s : State) : Result := s.live (s.opAlone n (.mov .bcopy f))

/-- ICOPY (R529, R530). -/
def execIcopy (n : Press) (f : MovFields) (s : State) : Result := s.live (s.opAlone n (.mov .icopy f))

/-- BRICK for a tag epoch (R485, R508). -/
def execBrick (n : Press) (f : MovFields) (tagEpoch : Nat) (s : State) : Result :=
  s.live (s.opAlone n (.mov .brick f) none false tagEpoch)

/-- FWALK (R551 to R560). -/
def execFwalk (t : Tick) (n : Press) (f : MovFields) (s : State) : Result := s.live ((s.at t).opAlone n (.mov .fwalk f))

end Sys2Proof.Machine
end

