-- ==== Sys2Proof/Machine/DescOps.lean ====
section
/-!
DEFINITION. What descriptors do once they start, networks apart (R134, R135, R153, R171; copies R513 to R528; folio descriptors R542 to
R545, R577 to R583; triggers R260 to R264; fences R693 to R697). A command that finds what it waits for still missing leaves the
descriptor as it stands and is given again (log entry 9).
-/

namespace Sys2Proof.Machine

/-! ### Starting and ending -/

/-- Descriptor f of ring r may start: every earlier one of its ring has started or is done, and with FENCE_BEFORE none is left in flight
(R134, R135). -/
def mayStart : List Flight → Flight → Bool
  | [], _ => false
  | g :: gs, f => if g = f then true else (g.started || g.done) && !dFence f.desc && mayStart gs f

/-- A descriptor of a GUARD ring could be dispatched: everything else waits for it (R143). -/
def State.guardReady (s : State) : Bool :=
  (List.finRange 64).any (fun r => decide (s.ringCls r = 0) && (s.ring r).flights.any (fun f =>
    !f.started && !f.done && mayStart (s.ring r).flights f && (s.launch (r.val, f.tag)).isNone))

/-- The descriptor that a command names by its slot: the oldest one of an opcode there that is not done; it has started, or may start
now, those of GUARD rings first (R143). After PFAIL nothing starts (R159). -/
def State.flightAt (s : State) (r : Ring) (slot op : Nat) : Option Flight :=
  let x := s.ring r
  match x.flights.find? (fun f => decide (f.slot = slot ∧ dOp f.desc = op) && !f.done) with
  | none => none
  | some f =>
    if f.started then some f
    else if x.state ≠ .disabled && !s.bitF PKG_PFAIL_STATUS.PFAIL && mayStart x.flights f && (decide (s.ringCls r = 0) || !s.guardReady) then
      some f
    else none

/-- Change a descriptor in flight. -/
def State.modFlight (s : State) (r : Ring) (tag : Nat) (g : Flight → Flight) : State :=
  s.modRing r (fun x => { x with flights := x.flights.map (fun f => if f.tag = tag && !f.done then g f else f) })

/-- The descriptor has started. -/
def State.begin (s : State) (r : Ring) (f : Flight) : State := s.modFlight r f.tag (fun f => { f with started := true })

/-- The descriptor completes. -/
def State.finish (s : State) (r : Ring) (f : Flight) (st : Nat) (detail result : Nat := 0) : State :=
  s.post r { tag := f.tag, slot := f.slot, status := st, detail := detail, result := result, epoch := f.mark }

/-- The descriptor completes with what a stock access answered, if that ends it. -/
def State.finishBy (s : State) (r : Ring) (f : Flight) (a : StkStatus) (result : Nat) : State :=
  match a, stkFail a with
  | .wait, _ => s
  | _, some (st, d) => s.finish r f st d
  | _, none => s.finish r f stOk 0 result

/-- Run a descriptor's meaning on the descriptor that a command names. -/
def State.onFlight (s : State) (r : Ring) (slot op : Nat) (g : State → Flight → State) : State :=
  match s.flightAt r slot op with
  | none => s
  | some f => g (s.begin r f) f

/-! ### Pool access (R153, R171, R670) -/

/-- POOL_READ. -/
def State.poolRead (s : State) (r : Ring) (f : Flight) : State :=
  let n := leAt f.desc 0x18 4
  match s.stkDo (s.ringReq r (.read n) (leAt f.desc 8 8)) with
  | (a, s) =>
    if a.status ≠ .ok then s.finishBy r f a.status 0
    else
      match s.busWrite r.val (s.ringCls r) (leAt f.desc 0x10 8) a.data with
      | (b, s) => s.finishBy r f b.status n

/-- A descriptor whose data has been handed on completes once it is VISIBLE at its home unit. -/
def State.awaitVisible (s : State) (r : Ring) (f : Flight) (n : Nat) : State :=
  match s.fence .visible (s.ringCls r) [agentRing r.val] with
  | (a, s) => s.finishBy r f a.status n

/-- POOL_WRITE. -/
def State.poolWrite (s : State) (r : Ring) (f : Flight) : State :=
  match f.wrote with
  | some n => s.awaitVisible r f n
  | none =>
    let n := leAt f.desc 0x18 4
    match s.busRead r.val (s.ringCls r) (leAt f.desc 0x10 8) n with
    | (b, s) =>
      if b.status ≠ .ok then s.finishBy r f b.status 0
      else
        match s.stkDo (s.ringReq r (.write b.data) (leAt f.desc 8 8)) with
        | (a, s) =>
          if a.status ≠ .ok then s.finishBy r f a.status 0
          else (s.modFlight r f.tag (fun f => { f with wrote := some n })).awaitVisible r f n

/-- POOL_ATOMIC. -/
def State.poolAtomicDo (s : State) (r : Ring) (f : Flight) : State :=
  match s.stkDo (s.ringReq r (poolAtomic f.desc) (leAt f.desc 8 8)) with
  | (a, s) => s.finishBy r f a.status (leNat a.data)

/-! ### COPY (R513 to R528) -/

/-- The operands of a copy as its fetch found them. -/
def copyParts (f : Flight) : CopyDesc × Shape × Placing × Placing :=
  let c := copyOf f.desc
  let h := Shape.ofBytes (f.extra.getD 0 [])
  let p (dist : Bool) (addr code n : Nat) (t : List Byte) : Placing := (placingOf dist addr code n t).getD { base := addr }
  (c, h, p h.srcDist c.src c.srcImp (h.extent c.srcImp) (f.extra.getD 1 []),
   p h.dstDist c.dst c.dstImp ((h.permute c.perm).extent c.dstImp) (f.extra.getD 2 []))

/-- Read every source interval: the answers of all of them together. -/
def State.copyRead (s : State) (r : Ring) (spans : List (Nat × Nat)) : StkAns × State :=
  match spans.foldl (fun (x : List StkAns × State) p =>
      let y := x.2.stkDo (s.ringReq r (.read p.2) p.1)
      (x.1 ++ [y.1], y.2)) ([], s) with
  | (as, s) => (worst as, s)

/-- Write runs of bytes: the first answer that is not OK ends it, with the runs not written. -/
def State.copyWrite (s : State) (r : Ring) : List (Nat × List Byte) → StkStatus × List (Nat × List Byte) × State
  | [] => (.ok, [], s)
  | w :: ws =>
    match s.stkDo (s.ringReq r (.write w.2) w.1) with
    | (a, s) => if a.status = .ok then s.copyWrite r ws else (a.status, w :: ws, s)

/-- The bytes of a copy as runs at their stock addresses, in ascending order. -/
def copyOut (pd : Placing) (bs : List (Nat × Byte)) : List (Nat × List Byte) :=
  runsOf (bs.map (fun e => (pd.at_ e.1, e.2)))

/-- A copy that meets an unreachable home unit leaves what it has not written of its destination undefined (log entry 16). -/
def State.copyLost (s : State) (a : StkStatus) (runs : List (Nat × List Byte)) : State :=
  match a with
  | .down _ => (runs.foldl (fun s w => s.loseStored w.1 w.2.length) s).bumpFree
  | _ => s

/-- COPY. The source is read whole before the first byte is written, so that MODE 1 exchanges tiles in place (R528). -/
def State.copyRun (s : State) (r : Ring) (f : Flight) : State :=
  match f.wrote with
  | some n => s.awaitVisible r f n
  | none =>
    match copyParts f with
    | (c, h, ps, pd) =>
      let put (s : State) (src : List Byte) : State :=
        let o := copyDo c h (fun i => src.getD i 0)
        match s.copyWrite r (copyOut pd o.1) with
        | (.ok, _, s) => (s.modFlight r f.tag (fun f => { f with wrote := some o.2 })).awaitVisible r f o.2
        | (a, rest, s) => (s.copyLost a rest).finishBy r f a 0
      match f.extra.getD 3 [] with
      | b :: bs => put s (b :: bs)
      | [] =>
        match s.copyRead r (if copyNoop c h then [] else ps.spans (h.extent c.srcImp)) with
        | (a, s) =>
          if a.status ≠ .ok then
            (s.copyLost a.status ((pd.spans ((h.permute c.perm).extent c.dstImp)).map (fun x => (x.1, List.replicate x.2 0)))).finishBy r f a.status 0
          else put (s.modFlight r f.tag (fun f => { f with extra := f.extra.take 3 ++ [a.data] })) a.data

/-! ### Folio descriptors (R542 to R545, R577 to R583) -/

/-- A folio descriptor runs alone in the unit (R542). -/
def State.folioTurn (s : State) (r : Ring) (slot op : Nat) (g : State → Flight → State) : State :=
  match s.flightAt r slot op with
  | none => s
  | some f =>
    if s.scn.busy = none ∨ s.scn.busy = some (r.val, f.tag) then
      g ((s.setScn { s.scn with busy := some (r.val, f.tag) }).begin r f) f
    else s

/-- A folio descriptor completes. -/
def State.folioEnd (s : State) (r : Ring) (f : Flight) (st : Nat) (detail result : Nat := 0) : State :=
  (s.setScn { s.scn with busy := none }).finish r f st detail result

/-- Some pre-emption is still under way. -/
def State.preempting (s : State) : Bool := s.scn.seqs.any (fun e => decide (e.2.state = .preempting))

/-- Folios for a request, or the pre-emptions that make room (R543, R544, R579): none while swap-outs run, and an empty list where
pre-emption cannot free enough. -/
def State.getFolios (s : State) (q prio k n : Nat) : Option (List Nat) × State :=
  if s.preempting then (none, s)
  else
    match takeFolios (folioGrains k) (s.getF SCN_POOL_CFG.GRAINS) n s.grainsUsed with
    | some fs => (some fs, s)
    | none =>
      match s.victimsFor (folioGrains k) n (s.victims prio q) with
      | some (v :: _) => (none, s.preempt v)
      | _ => (some [], s.incSat SCN_STAT.NO_FOLIO)

/-- FOLIO_ALLOC. -/
def State.folioAlloc (s : State) (r : Ring) (f : Flight) : State :=
  let q := leAt f.desc 8 2
  let k := byteAt f.desc 0x0A
  let prio := byteAt f.desc 0x0B
  let n := leAt f.desc 0x0C 4
  let x := s.seq q
  if x.state ≠ .free ∧ x.state ≠ .resident then s.folioEnd r f stPreempted q
  else if x.state = .resident ∧ x.kLog2 ≠ k then s.folioEnd r f stBadOpcode 0x0A
  else if 4096 < x.folios.length + n then s.folioEnd r f stBadOpcode 0x0C
  else
    match s.getFolios q prio k n with
    | (none, s) => s
    | (some [], s) => s.folioEnd r f stNoFolio q
    | (some (a :: fs), s) =>
      let i := x.folios.length
      let y := { x with state := .resident, kLog2 := k, priority := prio, folios := x.folios ++ a :: fs }
      match s.writeList q i (s.ringCls r) y.folios with
      | (false, s) => s
      | (true, s) => (s.setSeq q y).folioEnd r f stOk 0 (a + 2 ^ 32 * i)

/-- FOLIO_FREE. -/
def State.folioFree (s : State) (r : Ring) (f : Flight) : State :=
  let q := leAt f.desc 8 2
  let first := leAt f.desc 0x0C 4
  let cnt := leAt f.desc 0x10 4
  let x := s.seq q
  let len := max x.folios.length x.parts.length
  if len ≤ first then s.folioEnd r f stBadOpcode 0x0C
  else if !(s.holders q).isEmpty then s
  else
    let n := if cnt = 0 then len - first else min cnt (len - first)
    let cut {α : Type} (l : List α) : List α := l.take first ++ l.drop (first + n)
    let y := { x with folios := cut x.folios, parts := cut x.parts }
    match s.writeList q first (s.ringCls r) y.folios with
    | (false, s) => s
    | (true, s) => (s.setSeq q (if n = len then { fset := x.fset } else y)).folioEnd r f stOk 0 n

/-- FOLIO_SWAP_OUT. -/
def State.folioSwapOut (s : State) (r : Ring) (f : Flight) : State :=
  let q := leAt f.desc 8 2
  let x := s.seq q
  match x.state with
  | .free => s.folioEnd r f stOk
  | .swapped => s.folioEnd r f stOk
  | .resident =>
    if leAt f.desc 0x18 8 < x.folios.length * s.folioBytes x.kLog2 then s.folioEnd r f stBadOpcode 0x18
    else s.swapOutStart q (leAt f.desc 0x10 8) (some (r.val, f.tag))
  | _ => s

/-- FOLIO_SWAP_IN. -/
def State.folioSwapIn (s : State) (r : Ring) (f : Flight) : State :=
  let q := leAt f.desc 8 2
  let x := s.seq q
  match x.state with
  | .free => s.folioEnd r f stOk
  | .resident => s.folioEnd r f stOk
  | .swapped =>
    match s.getFolios q x.priority x.kLog2 x.parts.length with
    | (none, s) => s
    | (some [], s) => s.folioEnd r f stNoFolio q
    | (some (a :: fs), s) =>
      let host := leAt f.desc 0x10 8
      let y := { x with state := .swappingIn, folios := a :: fs, cause := some (r.val, f.tag),
                        readAt := if host = 0 then x.hostAddr else host }
      match s.writeList q 0 (s.ringCls r) y.folios with
      | (false, s) => s
      | (true, s) => s.setSeq q y
  | _ => s

/-- The descriptor that a sequence's swap, or the unit's waiting folio descriptor, belongs to. -/
def State.folioFlight (s : State) (key : Option (Nat × Nat)) : Option (Ring × Flight) :=
  key.bind (fun k => (s.flight (ringOf k.1) k.2).map (fun f => (ringOf k.1, f)))

/-- The folio descriptor that waits for swap-outs goes on. -/
def State.folioResume (s : State) : State :=
  match s.folioFlight s.scn.busy with
  | none => s
  | some (r, f) =>
    if dOp f.desc = 0x03 then s.folioAlloc r f
    else if dOp f.desc = 0x06 then s.folioSwapIn r f
    else s

/-- The end of a swap-out (R580, R581). -/
def State.swapOutDone (s : State) (q : Nat) : State :=
  let x := s.seq q
  if x.state ≠ .preempting then s
  else
    let ring := ((x.cause.map (·.1)).orElse (fun _ => s.scn.busy.map (·.1))).getD 0
    let s := s.swapOutEnd q ring (s.ringCls (ringOf ring))
    if (s.seq q).state ≠ .swapped then s
    else
      match s.folioFlight x.cause with
      | some (r, f) =>
        let s := s.setSeq q { s.seq q with cause := none }
        s.folioEnd r f stOk 0 (x.folios.length * s.folioBytes x.kLog2)
      | none => s.folioResume

/-- The end of a swap-in (R582, R583). -/
def State.swapInDone (s : State) (q : Nat) : State :=
  let x := s.seq q
  if x.state ≠ .swappingIn then s
  else
    let ring := (x.cause.map (·.1)).getD 0
    match s.swapInData q ring (s.ringCls (ringOf ring)) with
    | (none, s) => s
    | (some good, s) =>
      let n := x.folios.length * s.folioBytes x.kLog2
      let s := if good then (s.setSeq q { x with state := .resident, parts := [], cause := none }).swapCount false n
        else (s.setSeq q { x with state := .swapped, folios := [], cause := none }).incSat SCN_STAT.SWAP_CRC
      match s.folioFlight x.cause with
      | some (r, f) => if good then s.folioEnd r f stOk 0 n else s.folioEnd r f stPoison
      | none => s

/-! ### TRG_SCHED (R260 to R264) -/

/-- The schedule of a descriptor. -/
def schedOf (d : List Byte) : Sched where
  low := byteAt d 9 = 1
  count := leAt d 0x0C 4
  startNs := leAt d 0x10 6 * 1000000000 + leAt d 0x18 4
  periodNs := leAt d 0x1C 4
  widthNs := leAt d 0x20 4

/-- The output of a descriptor. -/
def trgOf (d : List Byte) : Fin 8 := ⟨byteAt d 8 % 8, Nat.mod_lt _ (by decide)⟩

/-- Place a schedule, or wait while its output holds four. -/
def State.trgTry (s : State) (r : Ring) (f : Flight) : State :=
  let n := trgOf f.desc
  let x := schedOf f.desc
  if x.count = 0 then (s.trgCancel n).finish r f stOk
  else
    match s.trgCheck n x with
    | .placed => (s.trgPlace n x).finish r f stOk
    | .full => s.modFlight r f.tag (fun f => { f with placing := true })
    | .late => s.finish r f stTimeout
    | .early => s.finish r f stBadOpcode 0x10

/-! ### EPOCH_MARK -/

/-- The count at which epoch e reached a stage. An epoch that was passed over never does (R275). -/
def State.stageAt (s : State) (e stage : Nat) : Option Tick :=
  (s.epochRec e).bind (fun x => match stage with | 0 => some x.openAt | 1 => x.finalAt | _ => x.pubAt)

/-- EPOCH_MARK. -/
def State.markTry (s : State) (r : Ring) (f : Flight) : State :=
  let want := leAt f.desc 8 4
  let e := f.mark.orElse (fun _ => if want = 0xFFFFFFFF then s.epochOpen.map (·.num) else some want)
  match e with
  | none => s
  | some e =>
    let f := { f with mark := some e }
    let s := s.modFlight r f.tag (fun f => { f with mark := some e })
    match s.stageAt e (byteAt f.desc 0x0C) with
    | none => s
    | some c => s.finish r f stOk 0 (c % 2 ^ 64)

/-! ### FENCE (R694, R695) -/

/-- The rings of a fence's scope. -/
def fenceRings (r : Ring) (scope : Nat) : List Nat := if scope = 0 then [r.val] else List.range 64

/-- The store-buffer entries of a press leave, as far as they can (R695). -/
def State.sbEmpty (s : State) (n : Press) : Nat → State
  | 0 => s
  | k + 1 => (s.sbSend n).sbEmpty n k

/-- FENCE: over the accesses issued so far by the earlier descriptors of its scope (log entry 22). -/
def State.fenceTry (s : State) (r : Ring) (f : Flight) : State :=
  let kind : FenceKind := match byteAt f.desc 8 with | 0 => .order | 1 => .visible | _ => .durable
  let rings := fenceRings r (byteAt f.desc 9)
  let ls := s.launches.filter (fun l => rings.contains l.ring && l.started)
  let ps := (ls.filter (fun l => !l.done)).flatMap (fun l => l.presses.map (fun p => pressOf p.1))
  let s := ps.foldl (fun s n => if (s.proofPair n).isSome then s else s.sbEmpty n (s.press n).sb.length) s
  if ps.any (fun n => !(s.press n).sb.isEmpty) then s
  else if kind = .durable && ls.any (fun l => l.prov && l.verdict.isNone) then s
  else
    match s.fence kind (s.ringCls r) (rings.map agentRing ++ ps.map (·.val)) with
    | (a, s) => s.finishBy r f a.status 0

/-! ### Meanings -/

/-- NOP (R153): it completes at dispatch. -/
def execNop (r : Ring) (slot : Nat) (s : State) : Result := s.live (s.onFlight r slot 0x00 (fun s f => s.finish r f stOk))

/-- COPY (R524). -/
def execCopy (t : Tick) (r : Ring) (slot : Nat) (s : State) : Result :=
  s.live ((s.at t).onFlight r slot 0x02 (fun s f => s.copyRun r f))

/-- FOLIO_ALLOC (R543). -/
def execFolioAlloc (r : Ring) (slot : Nat) (s : State) : Result := s.live (s.folioTurn r slot 0x03 (fun s f => s.folioAlloc r f))

/-- FOLIO_FREE (R545). -/
def execFolioFree (r : Ring) (slot : Nat) (s : State) : Result := s.live (s.folioTurn r slot 0x04 (fun s f => s.folioFree r f))

/-- FOLIO_SWAP_OUT (R581). -/
def execFolioSwapOut (r : Ring) (slot : Nat) (s : State) : Result := s.live (s.folioTurn r slot 0x05 (fun s f => s.folioSwapOut r f))

/-- FOLIO_SWAP_IN (R582). -/
def execFolioSwapIn (r : Ring) (slot : Nat) (s : State) : Result := s.live (s.folioTurn r slot 0x06 (fun s f => s.folioSwapIn r f))

/-- SWAP_OUT_DONE (R580). -/
def execSwapOutDone (q : SeqId) (s : State) : Result := s.live (s.swapOutDone q.val)

/-- SWAP_IN_DONE (R583). -/
def execSwapInDone (q : SeqId) (s : State) : Result := s.live (s.swapInDone q.val)

/-- POOL_READ (R153). -/
def execPoolRead (t : Tick) (r : Ring) (slot : Nat) (s : State) : Result :=
  s.live ((s.at t).onFlight r slot 0x07 (fun s f => s.poolRead r f))

/-- POOL_WRITE (R153). -/
def execPoolWrite (t : Tick) (r : Ring) (slot : Nat) (s : State) : Result :=
  s.live ((s.at t).onFlight r slot 0x08 (fun s f => s.poolWrite r f))

/-- POOL_ATOMIC (R670). -/
def execPoolAtomic (t : Tick) (r : Ring) (slot : Nat) (s : State) : Result :=
  s.live ((s.at t).onFlight r slot 0x09 (fun s f => s.poolAtomicDo r f))

/-- TRG_SCHED (R260). -/
def execTrgSched (t : Tick) (r : Ring) (slot : Nat) (s : State) : Result :=
  s.live ((s.at t).onFlight r slot 0x0A (fun s f => if f.placing then s else s.trgTry r f))

/-- TRG_SCHED_PLACE (R260): a schedule that waits is tried again. -/
def execTrgSchedPlace (t : Tick) (r : Ring) (slot : Nat) (s : State) : Result :=
  s.live ((s.at t).onFlight r slot 0x0A (fun s f => if f.placing then s.trgTry r f else s))

/-- EPOCH_MARK (R153). -/
def execEpochMark (t : Tick) (r : Ring) (slot : Nat) (s : State) : Result :=
  s.live ((s.at t).onFlight r slot 0x0B (fun s f => s.markTry r f))

/-- FENCE (R694). -/
def execFence (r : Ring) (slot : Nat) (s : State) : Result := s.live (s.onFlight r slot 0x0C (fun s f => s.fenceTry r f))

end Sys2Proof.Machine
end

