-- ==== Sys2Proof/Machine/Launches.lean ====
section
/-!
DEFINITION. NET_LAUNCH from its dispatch to its end (R423 to R429, R471, R492, R588 to R590, R710 to R714, R720, R730 to R733). What the
text leaves open is in log entry 23.
-/

namespace Sys2Proof.Machine

/-! ### Dispatch -/

/-- The epoch a launch is for: EPOCH 0xFFFF_FFFF means the next one to close, the open one or else the next to open (R588). -/
def State.launchEpoch (s : State) (e : Nat) : Nat :=
  if e ≠ 0xFFFFFFFF then e
  else
    match s.epochOpen with
    | some x => x.num
    | none => (s.getF DTL_EPOCH_FIRST.FIRST + s.dtl.epochK) % 2 ^ 32

/-- The deadline in µs after the close (R733). -/
def State.deadlineUs (s : State) : Nat :=
  min (s.getF GRD_TIME.DEADLINE_US) (s.getF DTL_EPOCH_CFG.PERIOD_US - 1)

/-- An epoch that was passed over. -/
def State.epochPast (s : State) (e : Nat) : Bool :=
  (s.epochRec e).isNone && (match s.epochs with | y :: _ => decide (0 < epDist y.num e) | [] => false)

/-- An epoch has been published or its deadline has passed (R731). -/
def State.guardOver (s : State) (e : Nat) : Bool :=
  match s.epochRec e with
  | none => s.epochPast e
  | some x => x.published || x.missed || (match x.closeAt with | some c => decide (c + usTicks s.deadlineUs ≤ s.dtl.count) | none => false)

/-- The presses of a launch with the press whose rank each takes: for GUARD-class work each PRIMARY and its SHADOW (R423, R712). -/
def State.launchPresses (s : State) (guard : Bool) (mask : Nat) : List (Nat × Nat) :=
  if guard then
    ((List.range 4).filter (fun k => s.bitF (GRD_PAIR.EN k) && mask.testBit (s.getF (GRD_PAIR.PRIMARY k)))).flatMap (fun k =>
      [(s.getF (GRD_PAIR.PRIMARY k), s.getF (GRD_PAIR.PRIMARY k)), (s.getF (GRD_PAIR.SHADOW k), s.getF (GRD_PAIR.PRIMARY k))])
  else ((List.range 16).filter mask.testBit).map (fun p => (p, p))

/-- A pair that the launch names is single (R730). -/
def State.namesSingle (s : State) (mask : Nat) : Bool :=
  (List.range 4).any (fun k => s.bitF (GRD_PAIR.SINGLE k) && mask.testBit (s.getF (GRD_PAIR.PRIMARY k)))

/-- The launch that a NET_LAUNCH makes. -/
def State.newLaunch (s : State) (r : Ring) (f : Flight) (e : Nat) : Launch :=
  let n := NetDesc.of f.desc
  let guard := decide (s.ringCls r = 0)
  { ring := r.val, tag := f.tag, slot := f.slot, cls := s.ringCls r, epoch := e,
    runAhead := !guard && n.lflags.testBit 0 && s.bitF (RUN_CFG.EN (s.profileOf r.val)),
    accept := !guard && n.lflags.testBit 1, mask := n.mask, presses := s.launchPresses guard n.mask, net := n.net, arg := n.arg,
    out := n.out, argLen := n.argLen, timeout := n.timeout, hdr := Header.of (f.extra.getD 0 []) }

/-- NET_LAUNCH is dispatched (R145, R586, R588, R730 to R733): a guard launch may end here, or wait for publication without running. -/
def State.netLaunch (s : State) (r : Ring) (slot : Nat) : State :=
  match s.flightAt r slot 0x01 with
  | none => s
  | some f =>
    if f.started || (s.launch (r.val, f.tag)).isSome then s
    else
      let l := s.newLaunch r f (s.launchEpoch (NetDesc.of f.desc).epoch)
      let ends (s : State) (st : Nat) : State :=
        (s.begin r f).post r { tag := f.tag, slot := f.slot, status := st, epoch := some l.epoch }
      let hold (s : State) (l : Launch) : State := { s with launches := s.launches ++ [l] }
      if l.cls ≠ 0 then hold s l
      else if !s.bitF GRD_CFG.EN then ends s stInvalid
      else
        let s := s.setF GRD_STATUS.ARMED 1
        if s.guardOver l.epoch then ends s stDeadline
        else if s.namesSingle l.mask then hold (s.begin r f) { l with single := true }
        else hold s l

/-! ### The moment to start (R588, R590, R720, R753) -/

/-- A press can take a launch: it is idle and no self-test segment runs on it. -/
def State.pressFree (s : State) (n : Nat) : Bool :=
  decide ((s.press (pressOf n)).mode = .idle) && decide (s.getF (REP_PRESS.SEGMENT n) = 0xFF)

/-- The count at which the next press time slot opens: the seal of the epoch that closes next (R720); none without one. -/
def State.nextSlot (s : State) : Option Tick :=
  let grace := usTicks (s.getF RGS_CLOSE_CFG.GRACE_US)
  match leastOf ((s.epochs.filter (fun e => !e.isSealed)).filterMap (·.closeAt)) with
  | some c => some (c + grace)
  | none =>
    if s.epochOpen.isNone then none
    else some (s.dtl.countFor (s.epochTime s.dtl.epochK) 64 s.dtl.count (s.dtl.count + 2 ^ 63) + grace)

/-- The presses of enabled pairs. -/
def State.pairMask (s : State) : List Nat :=
  ((List.range 4).filter (fun k => s.bitF (GRD_PAIR.EN k))).flatMap (fun k => [s.getF (GRD_PAIR.PRIMARY k), s.getF (GRD_PAIR.SHADOW k)])

/-- The press time slots let a launch start now (R720). -/
def State.slotAllows (s : State) (l : Launch) : Bool :=
  !s.bitF GRD_CFG.EN || decide (l.cls = 0) || !l.presses.any (fun p => s.pairMask.contains p.1) ||
  (!s.grd.slot && decide (l.timeout ≠ 0) && (match s.nextSlot with
    | none => true
    | some c => decide (s.dtl.count + usTicks l.timeout < c)))

/-- Every QUORUM slot that is enabled has delivered for an epoch (R586, R587). -/
def State.quorumDone (s : State) (k : Nat) (f : EpochRec) : Bool :=
  (List.range 60).all (fun i => !(s.getF (RUN_QUORUM.QUORUM k)).testBit i || !s.slotOn i || s.delivered f i)

/-- Whether the moment of Table RUN-2 has come: none while it has not, and otherwise whether the start is provisional. A launch that could
start provisionally but finds no identity free counts in PID_WAIT and then waits for finalisation. -/
def State.startMoment (s : State) (l : Launch) : Option Bool × State :=
  match s.epochRec l.epoch with
  | none => (if s.epochPast l.epoch then some false else none, s)
  | some f =>
    if l.cls = 0 then (if f.isSealed then some false else none, s)
    else if f.closed then (some false, s)
    else if l.runAhead && f.isSealed && s.quorumDone (s.profileOf l.ring) f then
      if l.pidWaited then (none, s)
      else if s.freePid.isSome then (some true, s)
      else (none, (s.modLaunch l.key (fun l => { l with pidWaited := true })).incSat RUN_WAIT.PID_WAIT)
    else (none, s)

/-! ### The start (R426 to R429, R712, R714) -/

/-- Press n holds the image already (R427); a guard launch always loads it (R714). -/
def State.hasImage (s : State) (l : Launch) (n : Nat) : Bool :=
  decide (l.cls ≠ 0) && decide ((s.press (pressOf n)).image = some { addr := l.net, crc := l.hdr.crc })

/-- The state of a press that starts a launch (Table PRS-2). -/
def PressSt.launched (p : PressSt) (l : Launch) (rank : Nat) : PressSt :=
  let g (i : Nat) : Nat :=
    match i with
    | 1 => ((List.range rank).filter l.mask.testBit).length
    | 2 => ((List.range 16).filter l.mask.testBit).length
    | 3 => l.arg
    | 4 => l.out
    | 5 => l.argLen
    | 6 => l.epoch
    | _ => 0
  let guard := decide (l.cls = 0)
  { p with mode := .running, launch := some l.key, ended := false, pc := l.hdr.entry
           g := Vector.ofFn (fun i => BitVec.ofNat 64 (g i.val)), p := 1, v := Vector.replicate 32 []
           acc := Vector.replicate 2 {}, drainQ := [], built := [], sb := [], streams := [], nextSid := 0
           ready := [], cycle := 0, bubble := 0, popEnd := false, popAbort := false, fence := none, stopAt := none
           handled := none, settle := false, retired := 0, walks := [], prov := l.prov
           bank := if guard then {} else p.bank
           bankBad := if guard then [] else p.bankBad }

/-- A press takes the slugs it loads. -/
def PressSt.loaded (p : PressSt) (l : Launch) (slugs : List Byte) : PressSt :=
  { p with slugs := p.slugs.write 0 slugs, slugBad := [], image := some { addr := l.net, crc := l.hdr.crc } }

/-- The launch starts on its presses, once the slugs that some of them load have been read. -/
def State.launchOnPresses (s : State) (l : Launch) (prov : Bool) (a : StkAns) : State :=
  let need := l.presses.filter (fun p => !s.hasImage l p.1)
  let s := s.modLaunch l.key (fun l => { l with started := true, startAt := s.dtl.count, provStart := prov, prov := prov, wasProv := prov })
  let s := s.modFlight (ringOf l.ring) l.tag (fun f => { f with started := true })
  let s := if prov then ((s.takePid l.key).getD s).incSat RUN_STAT.PROV_STARTS else s
  let s := if a.status = .ok then need.foldl (fun s p => s.modPress (pressOf p.1) (fun x => x.loaded l a.data)) s else s
  let s := l.presses.foldl (fun s p => (s.modPress (pressOf p.1) (fun x => x.launched { l with prov := prov } p.2)).reseedAtPress (pressOf p.1)) s
  let s := if l.cls = 0 then (s.pairsOf l).foldl State.proofStart s else s
  match stkFail a.status with
  | some (st, d) => s.stopLaunch l.key { status := st, detail := d }
  | none =>
    if need.isEmpty || decide (crc32 a.data = l.hdr.crc) then s
    else
      (need.foldl (fun s p => s.modPress (pressOf p.1) (fun x => { x with image := none })) s).stopLaunch l.key
        { status := stBadOpcode, detail := 8 }

/-- A press of the launch has been fenced since its fetch, or a pair it names is single or no longer enabled (R729, R730). -/
def State.launchBroken (s : State) (l : Launch) : Bool :=
  l.presses.any (fun p => !(s.getF SCP_ID.PRESS_MAP).testBit p.1) ||
  (decide (l.cls = 0) && (s.namesSingle l.mask || (List.range 16).any (fun p => l.mask.testBit p && !s.primaries.contains p)))

/-- Such a launch does not run (R730, R759; log entry 23). -/
def State.launchFenced (s : State) (l : Launch) : State :=
  let s := s.modFlight (ringOf l.ring) l.tag (fun f => { f with started := true })
  if l.cls = 0 then s.modLaunch l.key (fun l => { l with single := true })
  else (s.modLaunch l.key (fun l => { l with started := true, done := true, stop := some { status := stPoison } })).settleLaunch l.key

/-- NET_LAUNCH_START: the launch starts when its moment has come, its presses are free and the press time slots allow it. -/
def State.netLaunchStart (s : State) (r : Ring) (slot : Nat) : State :=
  match s.flightAt r slot 0x01 with
  | none => s
  | some f =>
    match s.launch (r.val, f.tag) with
    | none => s
    | some l =>
      if l.started || l.single then s
      else
        match s.startMoment l with
        | (none, s) => s
        | (some prov, s) =>
          if s.launchBroken l then s.launchFenced l
          else if !l.presses.all (fun p => s.pressFree p.1) || !s.slotAllows l then s
          else
            let q := s.ringReq r (.read (if l.presses.all (fun p => s.hasImage l p.1) then 0 else 128 * l.hdr.count)) (l.net + l.hdr.slugOfs)
            match s.stkDo q with
            | (a, s) => if a.status = .wait then s else s.launchOnPresses l prov a

/-! ### Stops and the end (R158, R471, R492) -/

/-- The status of a stopping cause; guard work takes its DETAIL at publication (R728, R734). -/
def stopOf : StopCause → Stop
  | .timeout => { status := stTimeout }
  | .flush => { status := stFlushed }
  | .retract => { status := stRetracted }
  | .pfail => { status := stFlushed }
  | .fence => { status := stPoison }
  | .mismatch => { status := stInvalid }
  | .deadline => { status := stDeadline }
  | .freeze => { status := stFlushed }
  | .poison => { status := stPoison }
  | .partition u => { status := stPartition, detail := u }
  | .remote u => { status := stRemoteDown, detail := u }
  | .determinism => { status := stDeterminism }
  | .badOpcode => { status := stBadOpcode, detail := 8 }
  | .badAlign => { status := stBadAlign, detail := 8 }

/-- A stopping cause comes from outside the presses: each of them records STOP (Table PRS-8). -/
def stopOutside : StopCause → Bool
  | .timeout | .flush | .retract | .pfail | .fence | .mismatch | .deadline | .freeze => true
  | _ => false

/-- A launch stops for a cause; a guard launch that a fence stops is INVALID (R728). -/
def State.launchStop (s : State) (r : Ring) (slot : Nat) (c : StopCause) : State :=
  match s.launches.find? (fun l => decide (l.ring = r.val ∧ l.slot = slot) && l.started && !l.done) with
  | none => s
  | some l =>
    let st := if l.cls = 0 && decide (c = .fence) then { status := stInvalid } else stopOf c
    if stopOutside c then s.stopLaunchBy l.key st else s.stopLaunch l.key st

/-- TIMEOUT_US of a running launch has expired (R158). -/
def State.launchTimeout (s : State) (r : Ring) (slot : Nat) : State :=
  match s.launches.find? (fun l => decide (l.ring = r.val ∧ l.slot = slot) && l.started && !l.done) with
  | none => s
  | some l => if l.timeout = 0 then s else s.stopLaunchBy l.key { status := stTimeout }

/-- Press n has nothing left to do for its launch: a stopped one has sent its stores, and one at END has also seen its streams end. -/
def State.pressOver (s : State) (n : Nat) : Bool :=
  let p := s.press (pressOf n)
  let compared := match s.proofPair (pressOf n) with | some (k, _) => (s.proof k).a.isEmpty && (s.proof k).b.isEmpty | none => true
  p.sb.isEmpty && compared && (decide (p.mode = .stopping) || (p.ended && p.streams.isEmpty))

/-- The launch leaves its presses. -/
def State.launchOver (s : State) (l : Launch) : State :=
  let most := (l.presses.map (fun p => (s.press (pressOf p.1)).retired)).foldl max 0
  let s := l.presses.foldl (fun s p => s.modPress (pressOf p.1) (fun x => { x with mode := .idle, launch := none, streams := [] })) s
  (s.modLaunch l.key (fun l => { l with done := true, result := most })).settleLaunch l.key

/-- LAUNCH_END: every press has ended and drained, and the outputs of a launch that was not stopped are VISIBLE (R153, R492). -/
def State.launchEnd (s : State) (r : Ring) (slot : Nat) : State :=
  match s.launches.find? (fun l => decide (l.ring = r.val ∧ l.slot = slot) && l.started && !l.done) with
  | none => s
  | some l =>
    if !l.presses.all (fun p => s.pressOver p.1) then s
    else if l.stop.isSome then (s.loseOut l).launchOver l
    else
      match s.fence .visible l.cls (l.presses.map (·.1)) with
      | (a, s) =>
        if a.status = .wait then s
        else
          let s := match stkFail a.status with
            | some (st, d) => s.modLaunch l.key (fun l => { l with stop := some { status := st, detail := d } })
            | none => s
          s.launchOver l

/-! ### Meanings -/

/-- NET_LAUNCH (R423). -/
def execNetLaunch (r : Ring) (slot : Nat) (s : State) : Result := s.live (s.netLaunch r slot)

/-- NET_LAUNCH_START (R588). -/
def execNetLaunchStart (t : Tick) (r : Ring) (slot : Nat) (s : State) : Result := s.live ((s.at t).netLaunchStart r slot)

/-- LAUNCH_STOP (R471). -/
def execLaunchStop (t : Tick) (r : Ring) (slot : Nat) (cause : StopCause) (s : State) : Result :=
  s.live ((s.at t).launchStop r slot cause)

/-- LAUNCH_TIMEOUT (R158). -/
def execLaunchTimeout (r : Ring) (slot : Nat) (s : State) : Result := s.live (s.launchTimeout r slot)

/-- LAUNCH_END (R492). -/
def execLaunchEnd (t : Tick) (r : Ring) (slot : Nat) (s : State) : Result := s.live ((s.at t).launchEnd r slot)

end Sys2Proof.Machine
end

