-- ==== Sys2Proof/Machine/Guard.lean ====
section
/-!
DEFINITION. The guard controller: pairs, publication, deadlines and inline check bits (R710, R717 to R720, R724, R726 to R738). What the
text leaves open is in log entry 24.
-/

namespace Sys2Proof.Machine

/-! ### Pairs (R710) -/

/-- A press of pair k runs a GUARD-class launch. -/
def State.pairRuns (s : State) (k : Nat) : Bool :=
  s.launches.any (fun l => decide (l.cls = 0) && l.started && !l.done &&
    l.presses.any (fun p => decide (p.1 = s.getF (GRD_PAIR.PRIMARY k)) && s.bitF (GRD_PAIR.EN k)))

/-- Presses a and b can form pair k. -/
def State.pairOk (s : State) (k a b : Nat) : Bool :=
  let map := s.getF SCP_ID.PRESS_MAP
  let others := ((List.range 4).filter (fun j => decide (j ≠ k) && s.bitF (GRD_PAIR.EN j))).flatMap (fun j =>
    [s.getF (GRD_PAIR.PRIMARY j), s.getF (GRD_PAIR.SHADOW j)])
  decide (a / 4 ≠ b / 4) && map.testBit a && map.testBit b && !others.contains a && !others.contains b

/-- A write of GRD_PAIR_k. A pair that is disabled, or takes other presses while enabled, brings the pins to the safe state (Table
GRD-2). SINGLE goes when the pair is enabled afresh or with other presses (log entry 24). -/
def State.pairWrite (s : State) (k : Nat) (v : U64) : State :=
  if s.pairRuns k then s
  else
    let was := s.bitF (GRD_PAIR.EN k)
    let old := (s.getF (GRD_PAIR.PRIMARY k), s.getF (GRD_PAIR.SHADOW k))
    let a := (GRD_PAIR.PRIMARY k).get v
    let b := (GRD_PAIR.SHADOW k).get v
    let want := decide ((GRD_PAIR.EN k).get v ≠ 0)
    let ok := want && s.pairOk k a b
    let s := (s.setF (GRD_PAIR.PRIMARY k) a).setF (GRD_PAIR.SHADOW k) b
    let s := s.setF (GRD_PAIR.EN k) ok.toNat
    let s := if want then s.setF (GRD_PAIR.REFUSED k) (!ok).toNat else s
    let s := if ok && (!was || decide (old ≠ (a, b))) then s.setF (GRD_PAIR.SINGLE k) 0 else s
    if was && (!ok || decide (old ≠ (a, b))) then s.safeEnter else s

/-! ### Inline check bits (R717, R718) -/

/-- The zeroing of guard partitions begins for those in a mask. -/
def State.eccInitStart (s : State) (mask : Nat) : State :=
  let m := (List.range 8).foldl (fun m k => if mask.testBit k && s.inlineEcc (s.part k) then m ||| 2 ^ k else m) 0
  if m = 0 then s else (s.setStk { s.stk with initMask := s.stk.initMask ||| m }).setF GRD_STATUS.INIT_BUSY 1

/-- One partition's data range is zero, with valid check bits. -/
def State.eccZero (s : State) (k : Nat) : State :=
  let e := s.part k
  let n := e.size * 7 / 8
  let lines := s.stk.poison.filter (fun x => decide (x.1 * 64 < e.base ∨ e.base + n ≤ x.1 * 64))
  s.setStk { s.stk with dram := s.stk.dram.erase (stkOff e.base) n, poison := lines }

/-- The end of every initialisation. -/
def State.eccInitDone (s : State) : State :=
  let s := ((List.range 8).filter (fun k => s.stk.initMask.testBit k)).foldl State.eccZero s
  (s.setStk { s.stk with initMask := 0 }).setF GRD_STATUS.INIT_BUSY 0

/-! ### The causes of an epoch (R72, R723, R724, R729) -/

/-- The slots of GRD_SENSORS. -/
def State.guardSlots (s : State) : List Nat := (List.range 60).filter (fun i => (s.getF GRD_SENSORS.MASK).testBit i)

/-- Some guard slot ended the epoch below COVER_MIN (R724). -/
def State.coverLow (s : State) (f : EpochRec) : Bool :=
  s.guardSlots.any (fun i =>
    let c := if f.enabled.testBit i then ((f.final.bind (fun x => x.slots[i]?)).getD (0, 0)).1 else 0
    decide (c < s.getF GRD_CFG.COVER_MIN))

/-- Some camera or scanner slot has passed no pattern item in the epochs up to this one (R723). -/
def State.patternGap (s : State) (f : EpochRec) : Bool :=
  s.guardSlots.any (fun i => decide (i < 48) &&
    !(tabGet [] s.rgs.patPass i).any (fun e => decide (0 ≤ epDist f.num e ∧ epDist f.num e < max 1 (s.getF GRD_CFG.PAT_MAX_GAP))))

/-- The guard launches on an epoch whose final entry is not posted. -/
def State.guardLaunches (s : State) (e : Nat) : List Launch :=
  s.launches.filter (fun l => decide (l.cls = 0 ∧ l.epoch = e) && !l.posted)

/-- A verdict record (R726). -/
structure GuardVerdict where
  epoch   : Nat
  clear   : Bool
  katFail : Bool
  deriving DecidableEq, Repr

/-- Read the verdict records of the launches that ran to END: none while a read waits. A record that cannot be read holds no epoch. -/
def State.verdicts (s : State) (ls : List Launch) : Option (List GuardVerdict) × State :=
  (ls.filter (fun l => !l.single && l.stop.isNone)).foldl (fun (x : Option (List GuardVerdict) × State) l =>
    match x with
    | (none, s) => (none, s)
    | (some vs, s) =>
      match s.ownRead l.out 64 with
      | (a, s) =>
        if a.status = .wait then (none, s)
        else if a.status ≠ .ok then (some (vs ++ [{ epoch := 2 ^ 32, clear := false, katFail := false }]), s)
        else (some (vs ++ [{ epoch := leAt a.data 0 4, clear := decide (leAt a.data 4 4 = 0x5A5A0F0F), katFail := byteAt a.data 8 % 2 = 1 }]), s))
    (some [], s)

/-- The cause bits of an epoch at its publication. -/
def State.causesOf (s : State) (f : EpochRec) (ls : List Launch) (vs : List GuardVerdict) : Nat :=
  let bit (b : Bool) (m : Nat) : Nat := if b then m else 0
  f.causes ||| bit (s.coverLow f) causeCoverage ||| bit (s.windowOver f) causeSupply ||| bit (s.patternGap f) causeGap |||
  bit (vs.any (·.katFail)) causeKat ||| bit (ls.any (·.single)) causeSingle ||| bit (s.latchedBefore f.num) causeLatched

/-! ### Publication (R727, R728, R738) -/

/-- The final entry of a guard launch at publication (R728, R730). -/
def Launch.guardEntry (l : Launch) (causes : Nat) (valid : Bool) : Compl :=
  let base : Compl := { tag := l.tag, slot := l.slot, status := stInvalid, epoch := some l.epoch, detail := causes }
  match l.stop with
  | some st => if st.status = stInvalid then base else { base with status := st.status, detail := st.detail }
  | none => if valid && !l.single then { base with status := stOk, detail := 0, result := l.result } else base

/-- Post the final entry of a guard launch. -/
def State.guardPost (s : State) (l : Launch) (c : Compl) : State :=
  ((s.modLaunch l.key (fun l => { l with posted := true })).post (ringOf l.ring) c)

/-- The pins after a publication (R736 to R738). -/
def State.pinsPublish (s : State) (good : Bool) : State :=
  if !good then s.safeEnter
  else if s.bitF GRD_STATUS.LATCHED then s.setGrd { s.grd with run := 0 }
  else
    let s := s.setGrd { s.grd with run := s.grd.run + 1 }
    if max 1 (s.getF GRD_CFG.VALID_N) ≤ s.grd.run then s.setF GRD_STATUS.VALID 1 else s

/-- GRD_LAST and LAST_EPOCH. -/
def State.guardLast (s : State) (e causes : Nat) (stop deadline valid : Bool) : State :=
  let s := s.setF GRD_LAST.EPOCH e
  let s := s.setF GRD_LAST.CAUSES causes
  let s := s.setF GRD_LAST.STOP stop.toNat
  let s := s.setF GRD_LAST.DEADLINE deadline.toNat
  s.setF GRD_LAST.VALID valid.toNat

/-- Publish an epoch whose verdicts have been read. -/
def State.publish (s : State) (f : EpochRec) (ls : List Launch) (vs : List GuardVerdict) : State :=
  let causes := s.causesOf f ls vs
  let s := if vs.any (·.katFail) then s.guardLatch f.num causeKat else s
  let valid := decide (causes = 0) && ls.all (fun l => l.stop.isNone) && vs.all (fun v => decide (v.epoch = f.num))
  let stop := vs.any (fun v => !v.clear)
  let s := s.epochSet f.num (fun x => { x with causes := causes, published := true, pubAt := some s.dtl.count })
  let s := ls.foldl (fun s l => s.guardPost l (l.guardEntry causes valid)) s
  let s := (s.guardLast f.num causes stop false valid).setF GRD_STATUS.LAST_EPOCH f.num
  (s.pinsPublish (valid && !stop)).guardFree f.num

/-- GUARD_PUBLISH: the moment of R727 has come for epoch e. -/
def State.guardPublish (s : State) (e : Nat) : State :=
  match s.epochRec e with
  | none => s
  | some f =>
    let ls := s.guardLaunches e
    if !s.bitF GRD_CFG.EN || !f.closed || f.published || f.missed || ls.isEmpty || !ls.all (fun l => l.done || l.single) then s
    else
      match s.verdicts ls with
      | (none, s) => s
      | (some vs, s) => s.publish f ls vs

/-! ### The deadline (R733, R734) -/

/-- The deadline of an epoch has come by count now and it is to be missed: a mismatch whose launch is still stopping is taken first. -/
def State.deadlineDue (s : State) (f : EpochRec) (now : Tick) : Bool :=
  let running := (s.guardLaunches f.num).filter (fun l => l.started && !l.done)
  let mismatched := !running.isEmpty && (f.causes &&& causeProof != 0) &&
    running.all (fun l => decide (l.stop.map (·.status) = some stInvalid))
  s.bitF GRD_CFG.EN && s.bitF GRD_STATUS.ARMED && !f.published && !f.missed && !mismatched &&
  (match f.closeAt with | some c => decide (c + usTicks s.deadlineUs ≤ now) | none => false)

/-- GUARD_DEADLINE, by count now. -/
def State.guardDeadline (s : State) (e : Nat) (now : Tick) : State :=
  match s.epochRec e with
  | none => s
  | some f =>
    if !s.deadlineDue f now then s
    else
      let s := s.epochSet e (fun x => { x with missed := true, pubAt := some s.dtl.count })
      let s := ((s.raise .deadlineMiss).incSat GRD_COUNT.DEADLINE_MISSES).safeEnter
      let s := (s.guardLaunches e).foldl (fun s l =>
        (s.stopLaunchBy l.key { status := stDeadline }).guardPost l
          { tag := l.tag, slot := l.slot, status := stDeadline, epoch := some e }) s
      (s.guardLast e f.causes false true false).guardFree e

/-! ### Meanings -/

/-- GUARD_BW_WINDOW (R719): the share of a window's data cycles that guard requests are granted, at least BW_PCT while they wait;
share is what they would have had without the reservation. -/
def execGuardBwWindow (waiting : Bool) (share : Nat) (s : State) : Result :=
  s.live (
    let least := if waiting && s.bitF GRD_CFG.EN then s.getF GRD_CFG.BW_PCT else 0
    s.setGrd { s.grd with share := max least (min share 100) })

/-- GRD_PAIR_ENABLE (R710): a write of GRD_PAIR_k. -/
def execGrdPairEnable (k : Fin 4) (v : U64) (s : State) : Result := s.host (s.pairWrite k.val v)

/-- INLINE_ECC_INIT_DONE (R718). -/
def execInlineEccInitDone (s : State) : Result := s.live s.eccInitDone

/-- GUARD_SLOT_END (R720). -/
def execGuardSlotEnd (s : State) : Result := s.live (s.setGrd { s.grd with slot := false })

/-- GUARD_PUBLISH (R727). -/
def execGuardPublish (t : Tick) (e : Nat) (s : State) : Result := s.live ((s.at t).guardPublish e)

/-- GUARD_DEADLINE (R734). -/
def execGuardDeadline (t : Tick) (e : Nat) (s : State) : Result := s.live ((s.at t).guardDeadline e (s.at t).dtl.count)

end Sys2Proof.Machine
end

