-- ==== Sys2Proof/Machine/Power.lean ====
section
/-!
DEFINITION. Package and power (R60 to R86, R700, R785, R786): the supply monitor, operating points, PFAIL, and the thermal sensors and
their loop. What the text leaves open is in log entry 27.
-/

namespace Sys2Proof.Machine

/-! ### Operating points (R60 to R64, R75) -/

/-- The VDD_CORE set point of an operating point, in mV (Table PKG-9). -/
def pointMv (p : Nat) : Nat := 850 - 50 * p

/-- The operating point. -/
def State.point (s : State) : Nat := s.getF PKG_DVFS_STATUS.POINT

/-- The set point that the supply monitor uses (R63, R64): during a step the lower of the old and the new one until the regulator has
settled. -/
def State.setMv (s : State) : Nat :=
  if !s.bitF PKG_DVFS_CFG.PMB_EN then 750
  else
    match s.pkg.stepTo with
    | some p => if s.pkg.settled then pointMv p else pointMv s.point
    | none => pointMv s.point

/-- Write VOUT_COMMAND over PMBus; never with PMB_EN = 0 (R61, R63). -/
def State.voutWrite (s : State) (p : Nat) : State :=
  if s.bitF PKG_DVFS_CFG.PMB_EN then s.setPkg { s.pkg with vout := pointMv p } else s

/-- The fastest point allowed: CEIL, and P2 without voltage control (R63, R785). -/
def State.fastest (s : State) : Nat :=
  if s.bitF PKG_DVFS_CFG.PMB_EN then s.getF PKG_DVFS_CTRL.CEIL else max 2 (s.getF PKG_DVFS_CTRL.CEIL)

/-- The point is slower than the ceiling, which without voltage control is P2 at best (R63, PKG_THERM_STATUS). -/
def State.throttling (s : State) : State := s.setF PKG_THERM_STATUS.THROTTLING (decide (s.fastest < s.point)).toNat

/-- The PRESS clock takes a point, and THROTTLING follows it. -/
def State.setPoint (s : State) (p : Nat) : State := (s.setF PKG_DVFS_STATUS.POINT p).throttling

/-- A faster step under way ends without its clock change. -/
def State.stepDrop (s : State) : State :=
  (s.setPkg { s.pkg with stepTo := none, settled := false }).setF PKG_DVFS_STATUS.STEPPING 0

/-- A step to a faster point: the voltage first, then the wait for the regulator; without voltage control the clock is raised at
once (R61, R63, R75). -/
def State.stepUp (s : State) (p : Nat) : State :=
  if s.point ≤ p ∨ p < s.fastest ∨ s.bitF PKG_SMON_STATUS.OPEN ∨ s.bitF PKG_DVFS_STATUS.STEPPING then s
  else if s.bitF PKG_DVFS_CFG.PMB_EN then
    let s := (s.voutWrite p).setF PKG_DVFS_STATUS.STEPPING 1
    s.setPkg { s.pkg with stepTo := some p, settled := false }
  else s.setPoint p

/-- The clock of a faster step is raised, once the regulator has settled and no warning window is open (R61, R75). A step past a ceiling
that the host has lowered meanwhile is given up: CEIL wins (Table LIM-4, R785). -/
def State.stepFinish (s : State) : State :=
  match s.pkg.stepTo with
  | none => s
  | some p =>
    if p < s.fastest then s.stepDrop.voutWrite s.point
    else if !s.pkg.settled || s.bitF PKG_SMON_STATUS.OPEN then s
    else s.stepDrop.setPoint p

/-- SETTLE_US has passed. -/
def State.settle (s : State) : State :=
  if s.pkg.stepTo.isNone then s else (s.setPkg { s.pkg with settled := true }).stepFinish

/-- A step to a slower point: the clock first, then the voltage; a faster step under way is given up (R61). -/
def State.stepDown (s : State) (p : Nat) : State :=
  if p ≤ s.point ∨ 4 < p then s else (s.stepDrop.setPoint p).voutWrite p

/-- The host has written PKG_DVFS_CTRL: the PRESS clock never runs faster than CEIL (R785), so a faster point steps down to it and a
faster step past it is given up; THROTTLING follows (DEDUCED; log entry 27). -/
def State.ceilApply (s : State) : State :=
  let s := match s.pkg.stepTo with
    | some p => if p < s.fastest then s.stepDrop.voutWrite s.point else s
    | none => s
  (s.stepDown s.fastest).throttling

/-! ### The supply monitor (R65 to R76) -/

/-- A reading lies below the warning level (R65). -/
def State.belowWarn (s : State) (mv : Nat) : Bool := decide (200 * mv < s.getF PKG_SMON_CFG.WARN_LEVEL * s.setMv)

/-- A reading lies at the clearing level or above: 2 % of the set point over the warning level (R67). -/
def State.aboveClear (s : State) (mv : Nat) : Bool := decide ((s.getF PKG_SMON_CFG.WARN_LEVEL + 4) * s.setMv ≤ 200 * mv)

/-- A reading in an open window. -/
def State.noteMin (s : State) (mv : Nat) : State :=
  if s.bitF PKG_SMON_STATUS.OPEN then s.setF PKG_SMON_MIN.MIN_MV (min mv (s.getF PKG_SMON_MIN.MIN_MV)) else s

/-- Replace the start of the filter. -/
def State.setFilter (s : State) (x : Option (Tick × Nat)) : State := s.setPkg { s.pkg with filter := x }

/-- Replace the start of the clearing wait; CLEARING follows it. -/
def State.setClearing (s : State) (x : Option Tick) : State :=
  (s.setPkg { s.pkg with clearAt := x }).setF PKG_SMON_STATUS.CLEARING x.isSome.toNat

/-- A window opens at the start of the filter, and what an assertion brings (R66, R69, R73, R736). The samples that the filter's 200 ns have
already stamped are flagged where they lie (R70). -/
def State.windowStart (s : State) (start : Tick) (mv : Nat) : State :=
  let s := (s.setF PKG_SMON_STATUS.WARN 1).setF PKG_SMON_STATUS.OPEN 1
  let s := (s.incSat PKG_SMON_STATUS.WINDOW_COUNT).setF PKG_SMON_START.COUNT (start % 2 ^ 64)
  let s := (s.setF PKG_SMON_END.COUNT 0).setF PKG_SMON_MIN.MIN_MV mv
  let s := s.setPkg { s.pkg with windows := (start, none) :: s.pkg.windows, suspended := !s.bitF PKG_PFAIL_STATUS.FLUSH_ACTIVE }
  (s.reflagAll.raise .supplyWarn).safeEnter

/-- The open window closes now (R69, R76). -/
def State.windowClose (s : State) : State :=
  let s := (s.setF PKG_SMON_STATUS.WARN 0).setF PKG_SMON_STATUS.OPEN 0
  let s := (s.setClearing none).setF PKG_SMON_END.COUNT s.count64
  let s := s.setPkg { s.pkg with suspended := false,
                                 windows := s.pkg.windows.map (fun w => if w.2 = none then (w.1, some s.dtl.count) else w) }
  s.stepFinish.stkResume

/-- The monitor asserts the warning: a new window, or back to the asserted state within one (R66, R67). While the engine is frozen only
the pin follows (R797); the Dateline tells no time then. -/
def State.warnAssert (s : State) (mv : Nat) : State :=
  match s.pkg.filter with
  | none => s
  | some (c, low) =>
    if s.halted then s.setPkg { s.pkg with filter := some (c, min low mv), warn := true }
    else if s.dtl.count < c + 100 then s
    else
      let s := s.setPkg { s.pkg with filter := none, warn := true }
      if s.bitF PKG_SMON_STATUS.OPEN then (s.setClearing none).noteMin mv
      else s.windowStart c (min low mv)

/-- The warning clears after 100 µs at the clearing level (R67). -/
def State.warnClear (s : State) : State :=
  match s.pkg.clearAt with
  | none => s
  | some c =>
    if s.halted then s.setPkg { s.pkg with warn := false, clearAt := none }
    else if s.dtl.count < c + 50000 then s
    else (s.setPkg { s.pkg with warn := false, clearAt := none }).windowClose

/-- What the pin SUPPLY_WARN shows (R66, PKG_SMON_CFG). -/
def State.supplyPin (s : State) : Bool := s.pkg.warn && s.bitF PKG_SMON_CFG.PIN_EN

/-! ### PFAIL (R78 to R81, R700, R701) -/

/-- Leaves that the PFAIL flush writes back: dirty KEEP leaves without an undecided line, oldest first. -/
def State.flushLeaves (s : State) : List Nat :=
  let xs := s.stk.leaves.filter (fun e => e.2.dirty && e.2.keep && !s.leafProv e.1)
  (sortBy (fun a b => decide (a.2.dirtyAt ≤ b.2.dirtyAt)) xs).map (·.1)

/-- Start the write-back of the flush's leaves. -/
def State.flushWrites (s : State) : State :=
  let ls := s.flushLeaves
  ls.foldl State.startWriteBack (s.setPkg { s.pkg with suspended := false, flushed := ls.length })

/-- The flush begins: no descriptor is fetched, those not started are flushed, running launches stop, the write-combining buffer
empties, and the KEEP leaves are written back (R159, R700). -/
def State.flushStart (s : State) : State :=
  let s := s.setF PKG_PFAIL_STATUS.FLUSH_ACTIVE 1
  let s := (List.finRange 64).foldl State.flushUnstarted s
  let s := s.launches.foldl (fun s l => if l.started && !l.done then s.stopLaunchBy l.key { status := stFlushed } else s) s
  (s.wcFlush (fun _ => true)).flushWrites

/-- The flush before READY: only after JOURNAL of a retained warm reset is there anything to write back (R80). -/
def State.flushEarly (s : State) : State :=
  let retained := s.bitF MKR_STATUS.RETAINED && s.mkr.journalOk
  let s := (s.setF MKR_STATUS.PHASE 0xF0).setF MKR_STATUS.ERROR 0x17
  let s := (s.setMkr { s.mkr with wdogOff := true }).setChn { s.chn with walk := {} }
  if retained then (s.setF PKG_PFAIL_STATUS.FLUSH_ACTIVE 1).flushWrites else s.setF PKG_PFAIL_STATUS.FLUSH_DONE 1

/-- What a latched PFAIL brings once the engine runs. -/
def State.pfailStart (s : State) : State :=
  let s := s.raise .pfail
  if s.ready then s.flushStart else s.flushEarly

/-- PFAIL_n is latched; while the engine stands still only the latch is set, and what it brings follows when the engine runs: at a thaw, or
when RESET_n rises (R78, R797). -/
def State.pfailLatch (s : State) : State :=
  if s.bitF PKG_PFAIL_STATUS.PFAIL then s
  else
    let s := s.setF PKG_PFAIL_STATUS.PFAIL 1
    if s.halted then s else s.pfailStart

/-- Every running launch has left its presses and every store buffer is empty. -/
def State.pressesQuiet (s : State) : Bool :=
  s.launches.all (fun l => !l.started || l.done) && (List.finRange 16).all (fun n => (s.press n).sb.isEmpty)

/-- The flush ends: what is left of the KEEP leaves is written back, and the journal checkpoint is programmed (R700, R705). -/
def State.flushDone (s : State) (us : Nat) : State :=
  if !s.bitF PKG_PFAIL_STATUS.FLUSH_ACTIVE || !s.pressesQuiet then s
  else
    let s := s.wcFlush (fun _ => true)
    let late := s.flushLeaves.filter (fun l => !s.stk.wbs.any (fun w => decide (w.leaf = l)))
    let n := s.pkg.flushed + late.length
    let s := (s.flushLeaves).foldl State.writeBack s
    let s := s.setStk { s.stk with jrecs := 0, ckptOk := (true, true) }
    let s := (s.setF STK_FLUSH.FLUSH_US us).setF STK_FLUSH.FLUSHED_MIB (roundQ (n * 16384) (2 ^ 20)).toNat
    let s := (s.setF PKG_PFAIL_STATUS.FLUSH_ACTIVE 0).setF PKG_PFAIL_STATUS.FLUSH_DONE 1
    s.setPkg { s.pkg with suspended := s.bitF PKG_SMON_STATUS.OPEN }

/-! ### Thermal sensing (R83 to R86, R785, R786) -/

/-- A signed reading of a sensor. -/
def tempByte (t : Int) : Nat := ofSigned 8 t

/-- The hottest of the readings and its sensor, the lowest number first. -/
def hottest (ts : List Int) : Option (Int × Nat) :=
  ts.zipIdx.foldl (fun b e => match b with | none => some e | some x => if x.1 < e.1 then some e else b) none

/-- The hottest reading as last taken. -/
def State.hot (s : State) : Int := toSigned 8 (s.getF PKG_THERM_STATUS.HOTTEST)

/-- The thermal trip: the pins go safe and every clock but AON stops (R86). -/
def State.trip (s : State) : State := s.safeEnter.setPkg { s.safeEnter.pkg with tripped := true }

/-- The hottest reading lies above WARN_C, as PKG_THERM_STATUS shows it. -/
def State.aboveWarn (s : State) : Bool := decide ((s.getF PKG_THERM_CFG.WARN_C : Int) < s.hot)

/-- One round of readings (R83, R84, R86): THERMAL is raised when the hottest rises above WARN_C; the stored ABOVE_WARN tells how the
last round ended. A frozen engine only trips (R797). -/
def State.thermalSample (s : State) (temps : List Int) : State :=
  let ts := temps.take 20
  let hot := ts.any (fun t => decide (115 ≤ t))
  if s.halted then (if hot then s.setPkg { s.pkg with tripped := true } else s)
  else
    let s := ts.zipIdx.foldl (fun s e => s.setF (PKG_THERM.TEMP e.2) (tempByte e.1)) s
    match hottest ts with
    | none => s
    | some (t, i) =>
      let was := s.bitF PKG_THERM_STATUS.ABOVE_WARN
      let s := (s.setF PKG_THERM_STATUS.HOTTEST (tempByte t)).setF PKG_THERM_STATUS.HOTTEST_ID i
      let s := s.setF PKG_THERM_STATUS.ABOVE_WARN s.aboveWarn.toNat
      let s := if s.aboveWarn && !was then s.raise .thermal else s
      if hot then s.trip else s

/-- The loop steps one point slower; a step past FLOOR is an override (R85, R785, R786, R790). -/
def State.thermalDown (s : State) : State :=
  if s.hot ≤ s.getF PKG_THERM_CFG.TARGET_C ∨ 4 ≤ s.point then s
  else
    let p := s.point + 1
    let floor := max (s.getF PKG_DVFS_CTRL.FLOOR) (s.getF PKG_DVFS_CTRL.CEIL)
    let s := (s.stepDown p).incSat PKG_DVFS_STATUS.THROTTLE_STEPS
    if floor < p then s.override LIM_CONFLICT.THERMAL_FLOOR 1 [] else s

/-- The loop steps one point faster, up to the ceiling (R85). -/
def State.thermalUp (s : State) : State :=
  if (s.getF PKG_THERM_CFG.TARGET_C : Int) - 3 ≤ s.hot ∨ s.point = 0 then s else s.stepUp (s.point - 1)

/-! ### Meanings -/

/-- VDD_CORE_BELOW_WARN (R66, R69): the 200 ns filter starts. -/
def execVddCoreBelowWarn (t : Tick) (mv : Nat) (s : State) : Result :=
  s.goes (let s := if s.halted then s else s.at t
    if s.belowWarn mv then ((s.noteMin mv).setClearing none).setFilter (some (s.dtl.count, mv)) else s)

/-- SUPPLY_WARN_ASSERT (R66, R67, R69 to R73). -/
def execSupplyWarnAssert (t : Tick) (mv : Nat) (s : State) : Result :=
  s.goes ((if s.halted then s else s.at t).warnAssert mv)

/-- VDD_CORE_ABOVE_CLEAR (R67): the 100 µs wait starts. -/
def execVddCoreAboveClear (t : Tick) (mv : Nat) (s : State) : Result :=
  s.goes (let s := if s.halted then s else s.at t
    if s.aboveClear mv then
      let s := (s.noteMin mv).setFilter none
      if s.pkg.warn && s.pkg.clearAt.isNone then s.setClearing (some s.dtl.count) else s
    else s)

/-- VDD_CORE_ABOVE_WARN (R66): a filter under way ends; an asserted warning holds. -/
def execVddCoreAboveWarn (t : Tick) (mv : Nat) (s : State) : Result :=
  s.goes (let s := if s.halted then s else s.at t
    if s.belowWarn mv then s else (s.noteMin mv).setFilter none)

/-- VDD_CORE_BELOW_CLEAR (R67): the wait starts again when the level is next reached. -/
def execVddCoreBelowClear (t : Tick) (mv : Nat) (s : State) : Result :=
  s.goes (let s := if s.halted then s else s.at t
    if s.aboveClear mv then s else (s.noteMin mv).setClearing none)

/-- SUPPLY_WARN_CLEAR (R67, R69, R76). -/
def execSupplyWarnClear (t : Tick) (s : State) : Result := s.goes (if s.halted then s else s.at t).warnClear

/-- DVFS_STEP_UP (R61, R63, R75). -/
def execDvfsStepUp (p : Fin 5) (s : State) : Result := s.live (s.stepUp p.val)

/-- DVFS_SETTLE_EXPIRE (R61). -/
def execDvfsSettleExpire (s : State) : Result := s.live s.settle

/-- DVFS_STEP_DOWN (R61). -/
def execDvfsStepDown (p : Fin 5) (s : State) : Result := s.live (s.stepDown p.val)

/-- PFAIL_ASSERT (R78 to R80, R700). -/
def execPfailAssert (t : Tick) (s : State) : Result := s.goes (if s.halted then s else s.at t).pfailLatch

/-- PFAIL_FLUSH_DONE (R700). -/
def execPfailFlushDone (us : Nat) (s : State) : Result := s.live (s.flushDone us)

/-- THERMAL_SAMPLE (R83 to R86). -/
def execThermalSample (temps : List Int) (s : State) : Result := s.goes (s.thermalSample temps)

/-- THERMAL_STEP_DOWN (R85, R785). -/
def execThermalStepDown (s : State) : Result := s.live s.thermalDown

/-- THERMAL_STEP_UP (R85). -/
def execThermalStepUp (s : State) : Result := s.live s.thermalUp

end Sys2Proof.Machine
end

