-- ==== Sys2Proof/Machine/Repair.lean ====
section
/-!
DEFINITION. Spares, the soft repair table, field self-test and fencing (R744 to R761). What the text leaves open is in log entry 25.
-/

namespace Sys2Proof.Machine

/-! ### Spares (R744 to R746) -/

def rkColumn : Nat := 1
def rkBankRow : Nat := 2
def rkCase : Nat := 3
def rkSlugRow : Nat := 4
def rkScreen : Nat := 5
def rkLane : Nat := 6
def rkFence : Nat := 7

/-- Spares of a kind in one scope (Table REP-1). -/
def sparesOf (kind : Nat) : Nat := if kind = rkCase then 2 else if kind = rkScreen then 16 else if kind = rkLane then 1 else 8

/-- Two repairs draw on the same spares: a press's columns, a sub-bank's rows, a table copy's entries, a press's slug rows, the
spare screens, a port's lane. -/
def Repair.sameScope (x y : Repair) : Bool :=
  decide (x.kind = y.kind) &&
  (decide (x.kind = rkScreen) ||
   (decide (x.unit = y.unit) && (decide (x.a = y.a) || !(decide (x.kind = rkBankRow) || decide (x.kind = rkCase)))))

/-- Two repairs are of the same resource. -/
def Repair.sameThing (x y : Repair) : Bool :=
  decide (x.kind = y.kind) && decide (x.a = y.a) && decide (x.b = y.b) && (decide (x.unit = y.unit) || decide (x.kind = rkScreen))

/-- The number of the first spare of a kind: spare screens are S48 on. -/
def spareBase (kind : Nat) : Nat := if kind = rkScreen then 48 else 0

/-- The lowest spare left for a repair. -/
def State.spareFor (s : State) (x : Repair) : Option Nat :=
  let taken := (s.rep.repairs.filter x.sameScope).map (·.spare)
  ((List.range (sparesOf x.kind)).map (· + spareBase x.kind)).find? (fun k => !taken.contains k)

/-- Count a repair in the press's register or in REP_SCREEN (Table REP-6). -/
def State.countSpare (s : State) (x : Repair) : State :=
  if x.kind = rkColumn then s.incSat (REP_PRESS.COLS_USED x.unit)
  else if x.kind = rkBankRow then s.incSat (REP_PRESS.BANK_ROWS_USED x.unit)
  else if x.kind = rkCase then s.incSat (REP_PRESS.CASE_USED x.unit)
  else if x.kind = rkSlugRow then s.incSat (REP_PRESS.SLUG_ROWS_USED x.unit)
  else if x.kind = rkScreen then s.setF REP_SCREEN.SPARES (s.getF REP_SCREEN.SPARES ||| 2 ^ (x.spare - 48))
  else s

/-- Put a repair in effect. -/
def State.addRepair (s : State) (x : Repair) : State :=
  (s.setRep { s.rep with repairs := s.rep.repairs ++ [x] }).countSpare x

/-- Enter a field repair or fence in the soft table; its write is due (R749). -/
def State.softAdd (s : State) (x : Repair) : State :=
  (s.setRep { s.rep with soft := s.rep.soft ++ [x] }).setF REP_STATUS.SOFT_PENDING 1

/-! ### Fencing (R758, R759) -/

def fcFactory : Nat := 1
def fcSpares : Nat := 2
def fcLogic : Nat := 3
def fcUnexplained : Nat := 4
def fcHost : Nat := 5
def fcSoft : Nat := 7

/-- The running launches of press n stop: GUARD-class work is INVALID with SINGLE, other work POISON (R729, R759). -/
def State.fenceLaunch (s : State) (n : Nat) : State :=
  match s.launchOn (pressOf n) with
  | none => s
  | some l =>
    if l.cls = 0 then (s.guardCause l.epoch causeSingle).stopLaunchBy l.key { status := stInvalid }
    else s.stopLaunchBy l.key { status := stPoison }

/-- The enabled pairs that hold press n. -/
def State.pairsWith (s : State) (n : Nat) : List Nat :=
  (List.range 4).filter (fun k => s.bitF (GRD_PAIR.EN k) && (decide (s.getF (GRD_PAIR.PRIMARY k) = n) || decide (s.getF (GRD_PAIR.SHADOW k) = n)))

/-- The marks of a fence: the map, the galley, the press's register and its guard pair (R758). -/
def State.fenceMarks (s : State) (n cause : Nat) : State :=
  let map := s.getF SCP_ID.PRESS_MAP
  let s := s.setF SCP_ID.PRESS_MAP (if map.testBit n then map - 2 ^ n else map)
  let s := s.galDisable ⟨(32 + n) % 64, Nat.mod_lt _ (by decide)⟩
  let s := ((s.setF (REP_PRESS.FENCED n) 1).setF (REP_PRESS.FENCE_CAUSE n) cause).setF (REP_PRESS.SEGMENT n) 0xFF
  let s := s.incSat REP_STATUS.FENCES
  (s.pairsWith n).foldl (fun s k => s.setF (GRD_PAIR.SINGLE k) 1) s

/-- Fence a press in the field (R758, R759). -/
def State.fencePress (s : State) (n cause : Nat) : State :=
  if s.bitF (REP_PRESS.FENCED n) then s
  else
    let safe := !(s.pairsWith n).isEmpty
    let s := (s.fenceLaunch n).fenceMarks n cause
    let s := s.setRep { s.rep with bist := s.rep.bist.set (pressOf n) { unexplained := (s.rep.bist[pressOf n]).unexplained } }
    let s := (s.raise .pressFenced).softAdd { kind := rkFence, unit := n, cause := cause }
    if safe then s.safeEnter else s

/-! ### A fault found (R744 to R746) -/

/-- The press that a screen below S48 belongs to; none for a screen of registration. -/
def screenPress (i : Nat) : Option Nat := if 16 ≤ i ∧ i < 48 then some ((i - 16) / 2) else none

/-- What a self-test finds, as the repair that it needs; a logic fault has none. -/
def faultRepair (s : State) : BistFault → Option Repair
  | .column p c => some { kind := rkColumn, unit := p.val, a := c }
  | .bankRow p sub row => some { kind := rkBankRow, unit := p.val, a := sub, b := row }
  | .caseEntry p c e => some { kind := rkCase, unit := p.val, a := c, b := e }
  | .slugRow p r => some { kind := rkSlugRow, unit := p.val, a := r }
  | .screen i =>
    if i < 48 then some { kind := rkScreen, a := i }
    else (s.rep.repairs.find? (fun x => decide (x.kind = rkScreen ∧ x.spare = i))).map (fun x => { kind := rkScreen, a := x.a })
  | .logic _ => none

/-- The press a fault belongs to. -/
def faultPress : BistFault → Option Nat
  | .column p _ => some p.val
  | .bankRow p _ _ => some p.val
  | .caseEntry p _ _ => some p.val
  | .slugRow p _ => some p.val
  | .screen i => screenPress i
  | .logic p => some p.val

/-- A fault in spare screen i while no failed screen uses it changes nothing. -/
def spareUnused (s : State) : BistFault → Bool
  | .screen i => decide (48 ≤ i) && (faultRepair s (.screen i)).isNone
  | _ => false

/-- What one fault brings: a spare is allocated, or its press is to be fenced with a cause, or a screen of registration is FAILED. -/
def State.faultDo (s : State) (f : BistFault) : Option (Repair ⊕ (Nat × Nat)) × State :=
  match faultRepair s f with
  | none => ((faultPress f).bind (fun n => if spareUnused s f then none else some (.inr (n, fcLogic))), s)
  | some x =>
    match s.spareFor x with
    | some k => (some (.inl { x with spare := k }), s.addRepair { x with spare := k })
    | none =>
      match (if x.kind = rkScreen then screenPress x.a else some x.unit) with
      | some n => (some (.inr (n, fcSpares)), s)
      | none => (none, s.setF REP_SCREEN.FAILED (s.getF REP_SCREEN.FAILED ||| 2 ^ x.a))

/-- A spare screen takes the segment of the screen it replaces (R412); how far along it starts the text does not say. -/
def State.spareScreen (s : State) (x : Repair) : State :=
  if x.kind = rkScreen then
    let i : Fin 64 := ⟨x.a % 64, Nat.mod_lt _ (by decide)⟩
    let f := s.takeFree
    f.2.setRgs { f.2.rgs with screens := f.2.rgs.screens.set i { f.2.rgs.screens[i] with draws := f.1.toNat % 2 ^ 52, left := 0 } }
  else s

/-- A fault found in the field (R752, R759). -/
def State.fieldFault (s : State) (f : BistFault) : State :=
  match s.faultDo f with
  | (some (.inl x), s) => ((s.spareScreen x).softAdd x).incSat REP_STATUS.REPAIRS
  | (some (.inr (n, cause)), s) => s.fencePress n cause
  | (none, s) => s

/-! ### Field self-test (R751 to R757) -/

/-- Segments of a pass (Table REP-3). -/
def bistSegments : Nat := 18

/-- Change the self-test state of a press. -/
def State.modBist (s : State) (n : Press) (f : Bist → Bist) : State :=
  s.setRep { s.rep with bist := s.rep.bist.set n (f s.rep.bist[n]) }

/-- The press is enabled. -/
def State.pressOn (s : State) (n : Nat) : Bool := (s.getF SCP_ID.PRESS_MAP).testBit n

/-- A pass on press n is wanted: one forced by SUSPECT, one the host asked for, or a periodic one; none, or whether it is forced (R755,
R756). -/
def State.passWanted (s : State) (n : Press) : Option Bool :=
  let x := s.rep.bist[n]
  if x.forced then some true
  else if x.host then some false
  else if x.due && s.bitF REP_BIST_CFG.PERIODIC_EN then some false
  else none

/-- A launch that names press n waits to start on it: its moment has come (R753). -/
def State.launchWaits (s : State) (n : Nat) : Bool :=
  s.launches.any (fun l => !l.started && !l.single && l.presses.any (fun p => decide (p.1 = n)) && (s.startMoment l).1.isSome)

/-- A segment may start on press n now (R753). -/
def State.idleWindow (s : State) (n : Press) : Bool :=
  s.pressOn n.val && s.pressFree n.val && !s.launchWaits n.val &&
  (!s.pairMask.contains n.val || (match s.nextSlot with | none => true | some c => decide (s.dtl.count + usTicks 500 ≤ c)))

/-- A segment starts: the next of the pass under way, or the first of a new one. -/
def State.segmentStart (s : State) (n : Press) : State :=
  let x := s.rep.bist[n]
  if !s.idleWindow n then s
  else if 0 < x.next then s.setF (REP_PRESS.SEGMENT n.val) x.next
  else
    match s.passWanted n with
    | none => s
    | some forced =>
      (s.modBist n (fun x => { x with forced := false, ofSuspect := forced, found := false, due := false,
                                      host := if forced then x.host else false })).setF (REP_PRESS.SEGMENT n.val) 0

/-- The ticks of 24 h. -/
def dayTicks : Nat := usTicks (24 * 3600 * 1000000)

/-- A pass after a mismatch found nothing: the count that R756 keeps, and the fence at its limit. -/
def State.unexplainedPass (s : State) (n : Press) : State :=
  let s := s.modBist n (fun x => { x with unexplained := s.dtl.count :: x.unexplained.filter (fun t => decide (s.dtl.count < t + dayTicks)) })
  let s := s.incSat (REP_PRESS.UNEXPLAINED n.val)
  if max 1 (s.getF REP_BIST_CFG.UNEXPLAINED_MAX) ≤ (s.rep.bist[n]).unexplained.length then s.fencePress n.val fcUnexplained else s

/-- A pass ends (R754, R756, R757): the Bank and the weight store are undefined, and the press holds no image. -/
def State.passEnd (s : State) (n : Press) : State :=
  let x := s.rep.bist[n]
  let gen := s.free
  let s := s.bumpFree.modPress n (fun p => { p with bank := p.bank.lose 0 6291456 gen, wstore := p.wstore.lose 0 131072 gen, bankBad := [],
                                                    wmode := none, image := none })
  let s := (s.incSat (REP_PRESS.PASSES n.val)).incSat REP_STATUS.PASSES
  let s := s.modBist n (fun x => { x with next := 0 })
  let s := s.raise .repairDone
  if !x.ofSuspect then s
  else
    let s := if x.forced then s else s.setF (REP_PRESS.SUSPECT n.val) 0
    if x.found then s else s.unexplainedPass n

/-- A segment ends with the faults it found (R745, R752, R759). -/
def State.segmentEnd (s : State) (n : Press) (faults : List BistFault) : State :=
  if s.getF (REP_PRESS.SEGMENT n.val) = 0xFF then s
  else
    let k := s.getF (REP_PRESS.SEGMENT n.val)
    let mine := faults.filter (fun f => decide (faultPress f = some n.val))
    let s := s.setF (REP_PRESS.SEGMENT n.val) 0xFF
    let s := s.modBist n (fun x => { x with next := k + 1, found := x.found || !mine.isEmpty })
    let s := mine.foldl State.fieldFault s
    if s.bitF (REP_PRESS.FENCED n.val) || decide (k + 1 < bistSegments) then s else s.passEnd n

/-! ### The soft repair table (R747 to R750) -/

/-- Where a copy of the table lies in the boot flash. -/
def softAt (copy : Nat) : Nat := 0x210000 + 0x8000 * copy

/-- The bytes of a table entry (Table REP-2). -/
def Repair.bytes (x : Repair) : List Byte :=
  leBytes 8 (x.kind % 256 + 2 ^ 8 * (x.unit % 16) + 2 ^ 12 * (x.a % 2 ^ 12) + 2 ^ 24 * (x.b % 2 ^ 12) + 2 ^ 36 * (x.spare % 2 ^ 12) +
    2 ^ 48 * (x.cause % 256))

/-- Read a table entry. -/
def Repair.ofBytes (b : List Byte) : Repair :=
  let v := leAt b 0 8
  { kind := bitsOf v 7 0, unit := bitsOf v 11 8, a := bitsOf v 23 12, b := bitsOf v 35 24, spare := bitsOf v 47 36, cause := bitsOf v 55 48 }

/-- The bytes of a copy. -/
def softBytes (seq : Nat) (xs : List Repair) : List Byte :=
  let head := leBytes 4 0x4150455A ++ leBytes 4 seq ++ leBytes 4 xs.length
  let body := xs.flatMap Repair.bytes
  head ++ leBytes 4 (crc32 (head ++ body)) ++ body

/-- A copy in the boot flash: its SEQ and entries, if MAGIC and CRC match. -/
def State.softCopy (s : State) (copy : Nat) : Option (Nat × List Repair) :=
  let b := s.qspi.read (softAt copy) 16
  let n := leAt b 8 4
  if leAt b 0 4 ≠ 0x4150455A ∨ 4094 < n then none
  else
    let body := s.qspi.read (softAt copy + 16) (8 * n)
    if leAt b 12 4 ≠ crc32 (b.take 12 ++ body) then none
    else some (leAt b 4 4, (List.range n).map (fun i => Repair.ofBytes (slice body (8 * i) 8)))

/-- The Foreman writes a table to the copy it did not load from (R749). -/
def State.softWrite (s : State) (xs : List Repair) : State :=
  let seq := (s.getF REP_SOFT_STAT.SEQ + 1) % 2 ^ 32
  let xs := xs.take 4094
  let s := { s with qspi := s.qspi.write (softAt (1 - s.getF REP_SOFT_STAT.LOADED_COPY)) (softBytes seq xs) }
  ((s.setF REP_SOFT_STAT.SEQ seq).setF REP_SOFT_STAT.ENTRIES xs.length).setF REP_STATUS.SOFT_PENDING 0

/-- A write of REP_CTRL carries the key. -/
def repKey (v : U64) : Bool := decide (REP_CTRL.KEY.get v = 0x5C)

/-! ### Meanings -/

/-- BIST_REQUEST (R755). -/
def execBistRequest (mask : BitVec 16) (s : State) : Result :=
  s.host ((List.finRange 16).foldl (fun s n => if mask.getLsbD n.val && s.pressOn n.val then s.modBist n (fun x => { x with host := true }) else s) s)

/-- PERIODIC_BIST_TIMER (R755). -/
def execPeriodicBistTimer (n : Press) (s : State) : Result :=
  s.live (if s.bitF REP_BIST_CFG.PERIODIC_EN && s.pressOn n.val then s.modBist n (fun x => { x with due := true }) else s)

/-- BIST_SEGMENT_START (R753). -/
def execBistSegmentStart (n : Press) (s : State) : Result := s.live (s.segmentStart n)

/-- BIST_SEGMENT_END (R752, R754, R756 to R759). -/
def execBistSegmentEnd (t : Tick) (n : Press) (faults : List BistFault) (s : State) : Result :=
  s.live ((s.at t).segmentEnd n faults)

/-- FENCE_NOW (R759). -/
def execFenceNow (t : Tick) (v : U64) (s : State) : Result :=
  s.host (if REP_CTRL.FENCE_NOW.get v = 1 && repKey v then (s.at t).fencePress (REP_CTRL.FENCE_PRESS.get v) fcHost else s.at t)

/-- CLEAR_SOFT (R750). -/
def execClearSoft (v : U64) (s : State) : Result :=
  s.host (if REP_CTRL.CLEAR_SOFT.get v = 1 && repKey v then (s.setRep { s.rep with soft := [] }).softWrite [] else s)

/-- SOFT_TABLE_WRITE (R749). -/
def execSoftTableWrite (s : State) : Result :=
  s.live (if s.bitF REP_STATUS.SOFT_PENDING then s.softWrite s.rep.soft else s)

end Sys2Proof.Machine
end

