-- ==== Sys2Proof/Machine/Makeready.lean ====
section
/-!
DEFINITION. Makeready (R93 to R111, R123, R124, R631, R637, R673, R705, R744 to R751): the phases of Table MKR-4, the firmware images, the
configuration record, the chain configuration record and the recovery mailbox. What the text leaves open is in log entry 28.
-/

namespace Sys2Proof.Machine

/-! ### Phases (R103, R109) -/

/-- Phase codes (Table MKR-4). -/
def phRom : Nat := 0x01
def phOtp : Nat := 0x02
def phFwLoad : Nat := 0x03
def phFwVerify : Nat := 0x04
def phConfig : Nat := 0x05
def phBist : Nat := 0x06
def phDram : Nat := 0x07
def phFlash : Nat := 0x08
def phJournal : Nat := 0x09
def phSerdes : Nat := 0x0A
def phEnum : Nat := 0x0B
def phReady : Nat := 0x0C
def phHalt : Nat := 0xF0

/-- The phase makeready is in. -/
def State.phase (s : State) : Nat := s.getF MKR_STATUS.PHASE

/-- A value held to 32 bits. -/
def sat32 (n : Nat) : Nat := min (2 ^ 32 - 1) n

/-- Phase n took us more; phases that run twice add up. -/
def State.phaseTime (s : State) (n us : Nat) : State :=
  s.setF (MKR_PHASE_TIME.TIME_US n) (sat32 (s.getF (MKR_PHASE_TIME.TIME_US n) + us))

/-- The next phase starts. -/
def State.goPhase (s : State) (n : Nat) : State := s.setF MKR_STATUS.PHASE n

/-- Makeready stops in HALT with an error (R109). -/
def State.haltWith (s : State) (err : Nat) : State := (s.setF MKR_STATUS.PHASE phHalt).setF MKR_STATUS.ERROR err

/-- The work of phase n ends after us: only while makeready is in that phase. -/
def State.phaseDo (s : State) (n us : Nat) (f : State → State) : Result :=
  s.live (if s.phase = n then f (s.phaseTime n us) else s)

/-- A phase that either ends well or halts. -/
def State.pass (s : State) (ok : Bool) (next err : Nat) : State := if ok then s.goPhase next else s.haltWith err

/-! ### OTP (R745, R761, Table MKR-4) -/

/-- A factory fence is in force: the press is not in PRESS_MAP (Table REP-6). It was fenced at the factory, so PRESS_FENCED is not raised
again at each boot, which R7 does not tell (DESIGN CHOICE; log entry 42). -/
def State.factoryFence (s : State) (n : Nat) : State :=
  let s := ((s.setF (REP_PRESS.FENCED n) 1).setF (REP_PRESS.FACTORY_FENCED n) 1).setF (REP_PRESS.FENCE_CAUSE n) fcFactory
  let map := s.getF SCP_ID.PRESS_MAP
  (s.setF SCP_ID.PRESS_MAP (if map.testBit n then map - 2 ^ n else map)).galDisable ⟨(32 + n) % 64, Nat.mod_lt _ (by decide)⟩

/-- Apply one factory repair or fence. -/
def State.factoryRepair (s : State) (x : Repair) : State := if x.kind = rkFence then s.factoryFence x.unit else s.addRepair x

/-- The OTP is read: SKU, the SVN floor and the factory repairs. -/
def State.otpRead (s : State) : State :=
  let s := ((s.setF SCP_ID.SKU s.otp.sku).setF SCP_ID.PRESS_MAP 0xFFFF).setF MKR_FW_STATUS.SVN_FLOOR s.otp.svn
  s.otp.repairs.foldl State.factoryRepair s

/-! ### Firmware (R94 to R98) -/

/-- Where a firmware slot lies in the boot flash (Table MKR-2). -/
def slotBase (slot : Nat) : Nat := 0x100000 * slot

/-- The slot that is being tried. -/
def State.slotTried (s : State) : Nat := if s.getF MKR_FW_STATUS.SLOT0_RESULT = 0xF then 0 else 1

/-- What the checks of R95 find of an image with header h and body b: a code of MKR_FW_STATUS, 0 for accepted. -/
def fwCheck (otp : Otp) (h b : List Byte) : Nat :=
  if leAt h 0x00 4 ≠ 0x57464C5A ∨ leAt h 0x04 2 ≠ 1 then 1
  else if leAt h 0x10 4 % 4 ≠ 0 ∨ 1048320 < leAt h 0x10 4 then 2
  else if sha256 (slice h 0x20 64) ≠ otp.keyHash then 3
  else if leAt h 0x0C 4 < otp.svn then 5
  else if ecdsaOk (beAt h 0x20 32) (beAt h 0x40 32) (beAt h 0x80 32) (beAt h 0xA0 32) (sha256 (h.take 0x80 ++ b)) then 0
  else 4

/-- The image of a slot: its header and body. -/
def State.image (s : State) (slot : Nat) : List Byte × List Byte :=
  let h := s.qspi.read (slotBase slot) 256
  (h, s.qspi.read (slotBase slot + 256) (min 1048320 (leAt h 0x10 4)))

/-- Record a slot's result. -/
def State.slotResult (s : State) (slot code : Nat) : State :=
  s.setF (if slot = 0 then MKR_FW_STATUS.SLOT0_RESULT else MKR_FW_STATUS.SLOT1_RESULT) code

/-- A slot is not accepted: slot 1 is tried after slot 0, and after slot 1 the ROM halts (R96, R98). -/
def State.slotFail (s : State) (slot code : Nat) : State :=
  let s := s.slotResult slot code
  if slot = 0 then s.goPhase phFwLoad else (s.setMkr { s.mkr with wdogOff := true }).haltWith 0x10

/-- A slot is accepted and its image runs. -/
def State.slotBoot (s : State) (slot : Nat) (h : List Byte) : State :=
  let s := (s.slotResult slot 0).setF MKR_STATUS.FW_SLOT slot
  let s := s.setF MKR_FW_STATUS.IMAGE_VERSION (leAt h 0x08 4)
  (s.setMkr { s.mkr with commit := if leAt h 0x06 2 % 2 = 1 then some (leAt h 0x0C 4) else none }).goPhase phConfig

/-- Phase FW_VERIFY (R95, R96). -/
def State.fwVerify (s : State) : State :=
  let slot := s.slotTried
  let im := s.image slot
  let code := fwCheck s.otp im.1 im.2
  if code = 0 then s.slotBoot slot im.1 else s.slotFail slot code

/-! ### The configuration record (R99 to R102) -/

/-- Where the record lies in the boot flash. -/
def cfgAt : Nat := 0x200000

/-- The entries of the record, each an offset and a value; none when the record is not valid. A count above the 4095 of R99 makes it not
valid (DESIGN CHOICE; log entry 46). -/
def State.cfgEntries (s : State) : Option (List (Nat × U64)) :=
  let h := s.qspi.read cfgAt 16
  let n := leAt h 4 4
  if leAt h 0 4 ≠ 0x46434C5A ∨ 4095 < n then none
  else
    let b := s.qspi.read (cfgAt + 16) (16 * n)
    if crc32 b ≠ leAt h 8 4 then none
    else some ((List.range n).map (fun i => (leAt b (16 * i) 4, BitVec.ofNat 64 (leAt b (16 * i + 8) 8))))

/-- Apply one entry: it changes only the RWL fields of its register, and is rejected where its register has none (R101). -/
def State.cfgApply (s : State) (e : Nat × U64) : State :=
  match regAt e.1 with
  | none => s.incSat MKR_CFG_STATUS.REJECTED
  | some r =>
    let m := kindMask (fun k => decide (k = .rwl)) r.fields
    if m = 0 then s.incSat MKR_CFG_STATUS.REJECTED
    else (s.setReg e.1 (storedWord e.1 ((s.reg e.1 &&& ~~~ m) ||| (e.2 &&& m)))).incSat MKR_CFG_STATUS.APPLIED

/-- Apply the record (R100, R102). -/
def State.cfgLoad (s : State) : State :=
  match s.cfgEntries with
  | none => s.setF MKR_STATUS.CFG_BAD 1
  | some es => es.foldl State.cfgApply s

/-! ### The soft repair table (R748) -/

/-- An entry names a spare already taken, or a resource already repaired. -/
def State.softTaken (s : State) (x : Repair) : Bool :=
  s.rep.repairs.any (fun y => (decide (x.kind ≠ rkFence) && x.sameScope y && decide (x.spare = y.spare)) || x.sameThing y)

/-- Apply one entry. A FENCE waits for BIST_REPAIR (R751). -/
def State.softApply (s : State) (x : Repair) : State :=
  if x.kind = 0 ∨ rkFence < x.kind then s.incSat REP_SOFT_STAT.REJECTED
  else if s.softTaken x then s.incSat REP_SOFT_STAT.REJECTED
  else
    let s := s.addRepair x
    if x.kind = rkLane then (s.setF (CHN_PORT_STAT.SPARE_USED (x.unit % 2)) 1).setF (CHN_PORT_STAT.SPARED_LANE (x.unit % 2)) x.a else s

/-- The valid copy with the higher SEQ: which one, its SEQ and its entries. -/
def State.softBest (s : State) : Option (Nat × Nat × List Repair) :=
  match s.softCopy 0, s.softCopy 1 with
  | none, none => none
  | some a, none => some (0, a)
  | none, some b => some (1, b)
  | some a, some b => if a.1 < b.1 then some (1, b) else some (0, a)

/-- Load and apply the soft repair table. -/
def State.softLoad (s : State) : State :=
  match s.softBest with
  | none => s
  | some (copy, seq, xs) =>
    let s := (s.setF REP_SOFT_STAT.LOADED_COPY copy).setF REP_SOFT_STAT.SEQ seq
    let s := (s.setF REP_SOFT_STAT.ENTRIES xs.length).setRep { s.rep with soft := xs }
    xs.foldl State.softApply s

/-! ### BIST_REPAIR (R745, R751) -/

/-- Fence a press at makeready. -/
def State.bootFence (s : State) (n cause : Nat) : State :=
  if s.bitF (REP_PRESS.FENCED n) then s else (s.fenceMarks n cause).raise .pressFenced

/-- What one fault brings at makeready. -/
def State.bootFault (s : State) (f : BistFault) : State :=
  match s.faultDo f with
  | (some (.inr (n, cause)), s) => s.bootFence n cause
  | (_, s) => s

/-- The presses that the soft table fences. -/
def State.softFences (s : State) : List Nat := (s.rep.repairs.filter (fun x => decide (x.kind = rkFence))).map (·.unit)

/-- Phase BIST_REPAIR. -/
def State.bistRepair (s : State) (faults : List BistFault) : State :=
  let s := faults.foldl State.bootFault s
  let s := s.softFences.foldl (fun s n => s.bootFence n fcSoft) s
  s.pass (s.getF SCP_ID.PRESS_MAP != 0) phDram 0x15

/-! ### JOURNAL and ENUM (R104, R105, R632, R638, R705) -/

/-- Phase JOURNAL: the leaf map stands as its records left it, unless neither checkpoint copy is valid: one that was written whole and is read
with a matching CRC (R705). -/
def State.replayJournal (s : State) (j : ReplayRead) : State :=
  let s := s.setStk { s.stk with ckptOk := (s.stk.ckptOk.1 && j.copy0, s.stk.ckptOk.2 && j.copy1) }
  if s.stk.ckptOk.1 || s.stk.ckptOk.2 then
    let s := (s.setF STK_JOURNAL.REPLAY_US (sat32 j.us)).setF STK_JOURNAL.RECORDS (sat32 s.stk.jrecs)
    (s.setMkr { s.mkr with journalOk := true }).goPhase phSerdes
  else s.haltWith 0x14

/-- Phase ENUM: the root starts its walk; another unit waits for its ID, and announces itself on the ports that are up. -/
def State.enumEnter (s : State) : State :=
  if s.bitF MKR_STATUS.ENUM_DONE || s.chn.walk.walking then s
  else if s.bitF CHN_ID.ROOT then s.enumStart
  else s.broadcast (s.announceMsg (if s.bitF CHN_ID.ID_VALID then some s.unit else s.sticky))

/-- A root without a chain link becomes standalone (R104). -/
def State.standalone (s : State) : State :=
  let s := (s.takeId 0 0 false).takeMap { mode := 0, ids := [0] }
  let s := s.setChn { s.chn with walk := {}, serials := [(0, s.otp.serial)] }
  (s.setF MKR_STATUS.STANDALONE 1).setF MKR_STATUS.ENUM_DONE 1

/-- ENUM_WAIT_MS has passed since the root entered ENUM. -/
def State.enumWaited (s : State) (us : Nat) : State :=
  if s.phase ≠ phEnum ∨ !s.bitF CHN_ID.ROOT ∨ s.bitF MKR_STATUS.ENUM_DONE ∨ s.portUp 0 ∨ s.portUp 1 ∨
      us < 1000 * s.getF MKR_BOOT_CFG.ENUM_WAIT_MS then s
  else (s.setF (MKR_PHASE_TIME.TIME_US 11) (sat32 us)).standalone

/-! ### READY (R97, R673, R718) -/

/-- The reset that started makeready was a warm one. -/
def State.warmBoot (s : State) : Bool := [4, 5, 6].contains (s.getF MKR_STATUS.RESET_CAUSE)

/-- One partition entry as R673 gives it. -/
def State.partDefault (s : State) (k base bytes : Nat) : State :=
  let s := s.setReg (STK_PART_BASE k) (BitVec.ofNat 64 base)
  ((s.setF (STK_PART_CFG.SIZE k) (bytes / twoMiB)).setF (STK_PART_CFG.OWNERS k) (2 ^ s.unit)).setF (STK_PART_CFG.EN k) 1

/-- The partition table and the host window mask at READY; the entries survive a warm reset (R673). -/
def State.partInit (s : State) : State :=
  let s := s.setF STK_HOSTWIN.HOSTWIN_MASK (2 ^ s.unit)
  if s.warmBoot then (if s.bitF MKR_STATUS.RETAINED then s else s.eccInitStart 0xFF)
  else (s.partDefault 0 (s.unit * 2 ^ 60) s.flatBytes).partDefault 1 (s.flashAddr 0) s.flashBytes

/-- Blow the fuses of an image with SVN_COMMIT (R97). There are 64, so that an SVN above 63, which Table MKR-3 does not have, blows no more
than those (DESIGN CHOICE; log entry 46). -/
def State.blowFuses (s : State) : State :=
  match s.mkr.commit with
  | none => s
  | some n =>
    let floor := max s.otp.svn (min 64 n)
    ({ s with otp := { s.otp with svn := floor } }).setF MKR_FW_STATUS.SVN_FLOOR floor

/-- The time of phase ENUM: what the other phases leave of the whole. -/
def State.enumTime (s : State) (readyUs : Nat) : Nat :=
  readyUs - ((List.range 10).map (fun i => s.getF (MKR_PHASE_TIME.TIME_US (i + 1)))).sum

/-- Makeready reaches READY. -/
def State.reachReady (s : State) (readyUs : Nat) : State :=
  if s.phase ≠ phEnum ∨ !s.bitF MKR_STATUS.ENUM_DONE then s
  else
    let s := s.setF (MKR_PHASE_TIME.TIME_US 11) (sat32 (s.enumTime readyUs))
    let s := (s.goPhase phReady).setF MKR_STATUS.READY 1
    (s.setF MKR_STATUS.READY_US (sat32 readyUs)).blowFuses.partInit

/-! ### The chain configuration record (R631, R637) -/

/-- The bytes of the record. -/
def chainRecord (id writes : Nat) : List Byte :=
  let b := leBytes 4 0x4E48435A ++ leBytes 1 1 ++ leBytes 1 (id + 128) ++ leBytes 2 writes ++ List.replicate 8 0
  b ++ leBytes 4 (crc32 b)

/-- WRITES of a record whose MAGIC and CRC match. -/
def State.recordWrites (s : State) : Nat :=
  let b := s.qspi.read chainRecordAt 20
  if leAt b 0 4 = 0x4E48435A ∧ leAt b 16 4 = crc32 (b.take 16) then leAt b 6 2 else 0

/-- Rewrite the record where the granted ID differs from it. -/
def State.recordRewrite (s : State) : State :=
  if !s.ready || !s.bitF CHN_ID.ID_VALID || decide (s.sticky = some s.unit) then s
  else { s with qspi := s.qspi.write chainRecordAt (chainRecord s.unit ((s.recordWrites + 1) % 2 ^ 16)) }

/-! ### The recovery mailbox (R124) -/

/-- The mailbox takes operations: in READY and HALT, and not while one runs. -/
def State.recTakes (s : State) : Bool :=
  (decide (s.phase = phReady) || decide (s.phase = phHalt)) && !s.bitF MKR_REC_CMD.BUSY

/-- An operation starts, with the address and data as they stand. -/
def State.recStart (s : State) (op : Nat) : State :=
  if !s.recTakes then s
  else
    (s.setMkr { s.mkr with op := some { op := op, addr := s.getF MKR_REC_ADDR.ADDR, data := (s.reg MKR_REC_DATA).toNat } }).setF MKR_REC_CMD.BUSY 1

/-- The address suits the operation. -/
def RecOp.aligned (o : RecOp) : Bool := if o.op = 3 then decide (o.addr % 65536 = 0) else decide (o.addr % 8 = 0)

/-- What an operation that ends does: read, program (bits only fall) or erase. -/
def State.recEffect (s : State) (o : RecOp) : State :=
  if o.op = 1 then s.setReg MKR_REC_DATA (BitVec.ofNat 64 (leNat (s.qspi.read o.addr 8)))
  else if o.op = 2 then
    let old := leNat (s.qspi.read o.addr 8)
    { s with qspi := s.qspi.write o.addr (leBytes 8 (old &&& o.data)) }
  else { s with qspi := s.qspi.erase o.addr 65536 }

/-- An operation that fails: what it would have changed holds nothing known. -/
def State.recBroken (s : State) (o : RecOp) : State :=
  if o.op = 1 then s
  else ({ s with qspi := s.qspi.lose o.addr (if o.op = 2 then 8 else 65536) s.free }).bumpFree

/-- The operation ends. -/
def State.recDone (s : State) (ok : Bool) : State :=
  match s.mkr.op with
  | none => s
  | some o =>
    let good := ok && o.aligned
    let s := (s.setMkr { s.mkr with op := none }).setF MKR_REC_CMD.BUSY 0
    let s := s.setF MKR_REC_CMD.DONE_ERR (!good).toNat
    if good then s.recEffect o else if o.aligned then s.recBroken o else s

/-! ### Meanings -/

/-- ROM_PHASE (R103). -/
def execRomPhase (us : Nat) (s : State) : Result := s.phaseDo phRom us (fun s => s.goPhase phOtp)

/-- OTP_PHASE (R103, R109). -/
def execOtpPhase (us : Nat) (checkOk : Bool) (s : State) : Result :=
  s.phaseDo phOtp us (fun s => if checkOk then s.otpRead.goPhase phFwLoad else s.haltWith 0x11)

/-- FW_LOAD (R96, R103). -/
def execFwLoad (us : Nat) (readOk : Bool) (s : State) : Result :=
  s.phaseDo phFwLoad us (fun s => if readOk then s.goPhase phFwVerify else s.slotFail s.slotTried 6)

/-- FW_VERIFY (R95, R96, R98). -/
def execFwVerify (us : Nat) (s : State) : Result := s.phaseDo phFwVerify us State.fwVerify

/-- CONFIG_PHASE (R99 to R102, R748). -/
def execConfigPhase (us : Nat) (s : State) : Result := s.phaseDo phConfig us (fun s => s.cfgLoad.softLoad.goPhase phBist)

/-- BIST_REPAIR_PHASE (R745, R751). -/
def execBistRepairPhase (us : Nat) (faults : List BistFault) (s : State) : Result := s.phaseDo phBist us (fun s => s.bistRepair faults)

/-- TRAIN_DRAM (R103, R109, R118). -/
def execTrainDram (us : Nat) (ok : Bool) (s : State) : Result :=
  s.phaseDo phDram us (fun s => (s.setMkr { s.mkr with dramOk := ok }).pass ok phFlash 0x12)

/-- TRAIN_FLASH (R103, R109). -/
def execTrainFlash (us : Nat) (ok : Bool) (s : State) : Result := s.phaseDo phFlash us (fun s => s.pass ok phJournal 0x13)

/-- JOURNAL_REPLAY (R705). -/
def execJournalReplay (us : ReplayRead) (s : State) : Result := s.phaseDo phJournal us.us (fun s => s.replayJournal us)

/-- SERDES_PHASE (R103, R109). -/
def execSerdesPhase (us : Nat) (ok : Bool) (s : State) : Result := s.phaseDo phSerdes us (fun s => s.pass ok phEnum 0x16)

/-- ENUM_PHASE (R105, R632, R640). -/
def execEnumPhase (s : State) : Result := s.live (if s.phase = phEnum then s.enumEnter else s)

/-- ENUM_WAIT_EXPIRE (R104). -/
def execEnumWaitExpire (us : Nat) (s : State) : Result := s.live (s.enumWaited us)

/-- MAKEREADY_READY (R97, R673). -/
def execMakereadyReady (readyUs : Nat) (s : State) : Result := s.live (s.reachReady readyUs)

/-- CHAIN_RECORD_REWRITE (R637). -/
def execChainRecordRewrite (s : State) : Result := s.live s.recordRewrite

/-- REC_READ (R124). -/
def execRecRead (s : State) : Result := s.live (s.recStart 1)

/-- REC_PROGRAM (R124). -/
def execRecProgram (s : State) : Result := s.live (s.recStart 2)

/-- REC_ERASE (R124). -/
def execRecErase (s : State) : Result := s.live (s.recStart 3)

/-- REC_OP_DONE (R124). -/
def execRecOpDone (ok : Bool) (s : State) : Result := s.live (s.recDone ok)

end Sys2Proof.Machine
end

