-- ==== Sys2Proof/Machine/Resets.lean ====
section
/-!
DEFINITION. The kinds of reset (R44, R47, R68, R89 to R92, R110, R117 to R122, R221, R272, R640, R702, R802, R814): what each clears and keeps,
and the PCIe track. What the text leaves open is in log entry 28.
-/

namespace Sys2Proof.Machine

/-! ### What the always-on island and the board keep (Table MKR-1) -/

/-- The registers that every reset but an AON power-on leaves (R708, R815, Table MKR-1). -/
def aonKeeps (off : Nat) : Bool :=
  [PKG_SMON_START, PKG_SMON_END, PKG_SMON_MIN, STK_JOURNAL, STK_FLUSH, DBG_FREEZE_LAST, DBG_STAT].contains off

/-- DRAM after a loss of its contents: every byte is undefined (R120). -/
def State.lostDram (s : State) : Mem := { undef := [⟨0, s.board.dramBytes, s.free⟩] }

/-- The stock with its flash tier and its journal alone (R702). -/
def State.flashOnly (s : State) : Stk :=
  { dram := s.lostDram, flash := s.stk.flash, jseq := s.stk.jseq, jrecs := s.stk.jrecs, ckptOk := s.stk.ckptOk }

/-- The TAP keeps its own state; the freeze, the lock and the challenge end (R800, R802). -/
def Dbg.afterReset (d : Dbg) : Dbg :=
  { d with freeze := .running, srFail := false, unlocked := false, lockout := false, fails := 0, challenge := none }

/-- The counts of DBG_STAT that go on: FREEZES. -/
def State.keepFreezes (s : State) : State := s.setF DBG_STAT.REFUSED 0

/-- Makeready starts, with its cause and the straps as sampled (R44, R90). -/
def State.bootStart (s : State) (cause : Nat) : State :=
  (s.setF MKR_STATUS.RESET_CAUSE cause).setF CHN_ID.ROOT s.pkg.strapRoot.toNat

/-! ### Board and supply resets -/

/-- A freeze ends by a reset: how, and a count that the text does not tell (R815). -/
def State.freezeExit (s : State) (exit : Nat) : State :=
  if s.dbg.freeze = .running then s
  else
    let f := s.takeFree
    (f.2.setF DBG_FREEZE_LAST.FREEZE_COUNT (f.1.toNat % 2 ^ 48)).setF DBG_FREEZE_LAST.EXIT exit

/-- What a reset leaves of ingress: the levels that the board holds on the encoder inputs. -/
def Ing.pinsOnly (x : Ing) : Ing := { encs := x.encs.map (fun e => { a := e.a, b := e.b }) }

/-- Every domain but AON is cleared; the flash tier, the host's memory, the boot flash and the board stay. -/
def State.cleared (s : State) : State :=
  { pending := s.pending, regs := s.regs.filter (fun e => aonKeeps e.1), free := s.free + 1,
    bus := { hostMem := s.bus.hostMem, lastRead := s.bus.lastRead, msix := s.bus.msix, perst := s.bus.perst },
    dtl := s.dtl,
    pkg := { tripped := s.pkg.tripped, resetLow := s.pkg.resetLow, vout := s.pkg.vout, smbAddr := s.pkg.smbAddr, strapRoot := s.pkg.strapRoot },
    dbg := s.dbg.afterReset, board := s.board, otp := s.otp, qspi := s.qspi, stk := s.flashOnly, ing := s.ing.pinsOnly }

/-- Counts of the coarse counter that a freeze now ending has taken: the freeze counter's, which counts the same 40 ns (R271, R796). -/
def State.freezeCounts (s : State) (frozen : Bool) : Nat := if frozen then s.getF DBG_FREEZE_LAST.FREEZE_COUNT else 0

/-- What a board reset and a supply reset do (R221, R272, Table MKR-1): the Dateline is re-based from the AON time record, at the coarse
count as it stands more counts later. -/
def State.coldReset (s : State) (cause exit more : Nat) : State :=
  let u := s.freezeExit exit
  ((u.cleared).dtlRestart (u.freezeCounts (decide (s.dbg.freeze ≠ .running)) + more)).keepFreezes.bootStart cause

/-- The reset holds until RESET_n rises. -/
def State.holdReset (s : State) : State := s.setPkg { s.pkg with resetLow := true }

/-- VDD_CORE has stayed below 85 % of the set point for 2 µs (R68). -/
def State.belowReset (s : State) (d : SupplyDip) : Bool := decide (100 * d.mv < 85 * s.setMv) && decide (d.since + 1000 ≤ d.at_)

/-- A supply reset (R68, R69): a window open ends at this instant. It is what the model takes for VDD_CORE being removed, which ends a
thermal trip (R86; DESIGN CHOICE, log entry 43). -/
def State.supplyReset (s : State) (more : Nat) : State :=
  let s := if s.bitF PKG_SMON_STATUS.OPEN then s.setF PKG_SMON_END.COUNT s.count64 else s
  let s := s.coldReset 2 4 more
  s.setPkg { s.pkg with tripped := false }

/-- An AON power-on: only what lies outside the engine or does not forget stays (Table MKR-1). -/
def State.aonPowerOn (s : State) : State :=
  let s' : State := { pending := s.pending, free := s.free + 1, board := s.board, otp := s.otp, qspi := s.qspi, stk := s.flashOnly,
                      ing := s.ing.pinsOnly, bus := { hostMem := s.bus.hostMem, lastRead := s.bus.lastRead, msix := s.bus.msix } }
  (s'.bootStart 0).holdReset

/-! ### Warm reset (R92, R117 to R122, R640) -/

/-- The registers a warm reset leaves: the TIME domain, the partition table, the supply monitor and the temperatures (R673, Table MKR-1).
Table MKR-1 names the registers of domain SYS in neither column but for ring state, ARC_NOTICE_STATUS and RETAIN: those that are not named
here, such as ARC_NOTICE_MASK, ARC_NOTICE_VECTOR, HST_ARB, HST_BAR2_MAP and PKG_SMON_CFG, go back to their reset values (DESIGN CHOICE;
log entry 44). -/
def warmKeeps (off : Nat) : Bool :=
  aonKeeps off || (decide (0x7000 ≤ off) && decide (off < 0x8000)) || (decide (0x23040 ≤ off) && decide (off < 0x230C0)) ||
  decide (off = PKG_SMON_STATUS) || decide (off = PKG_THERM_STATUS) || (decide (0x2200 ≤ off) && decide (off < 0x22A0))

/-- What is left of an epoch: its boundaries. A closed one is over. -/
def EpochRec.bare (e : EpochRec) : EpochRec :=
  { num := e.num, openAt := e.openAt, refTime := e.refTime, closeAt := e.closeAt, refAt := e.refAt,
    isSealed := e.closeAt.isSome, closed := e.closeAt.isSome, missed := e.closeAt.isSome, finalAt := e.finalAt, pubAt := e.pubAt }

/-- A leaf whose write-back a reset cuts short stays dirty, with the DURA bits of the stores the write-back held (R119, R681). -/
def leafBack (ls : FMap Leaf) (w : WriteBack) : FMap Leaf :=
  if tabHas ls w.leaf then
    let x := tabGet {} ls w.leaf
    tabSet ls w.leaf { x with dirty := true, dura := x.dura ||| w.dura, again := false }
  else ls

/-- The stock after a retained warm reset: what had reached the DRAM array, the leaf directory with it (R119, R702). -/
def Stk.retained (k : Stk) : Stk :=
  { dram := k.dram, flash := k.flash, cache := k.cache, leaves := k.wbs.foldl leafBack k.leaves, uses := k.uses, poison := k.poison, jseq := k.jseq,
    jrecs := k.jrecs, ckptOk := k.ckptOk }

/-- The package block after a warm reset: the monitor goes on. -/
def Pkg.afterWarm (p : Pkg) : Pkg := { p with stepTo := none, settled := false, flushed := 0, resetLow := false }

/-- The lanes of the crossings with no side in a domain that a warm reset clears: X01 and X02 join AON and TIME (R211, Table ARC-4). -/
def warmLane (x : XLane) : Bool := decide (x.x = 1) || decide (x.x = 2)

/-- A warm reset happens (R117 to R120). srOk: every channel entered self-refresh in time. An operation of the recovery mailbox under way
ends with the boot flash as it stood (DESIGN CHOICE; log entry 45). -/
def State.warmDo (s : State) (cause : Nat) (srOk : Bool) : State :=
  let keep := s.bitF MKR_RESET_CTRL.RETAIN && srOk && s.mkr.dramOk
  let s' : State :=
    { pending := s.pending, regs := s.regs.filter (fun e => warmKeeps e.1), free := s.free + 1, bus := { s.bus with rxWait := none }, dtl := s.dtl,
      epochs := s.epochs.map EpochRec.bare, pkg := s.pkg.afterWarm, dbg := s.dbg.afterReset, board := s.board, otp := s.otp,
      qspi := s.qspi, stk := if keep then s.stk.retained else s.flashOnly, ing := s.ing.pinsOnly,
      gutters := (s.guttersReset warmLane).gutters }
  let s' := (s'.keepFreezes.bootStart cause).setF MKR_STATUS.RETAINED keep.toNat
  let s' := s'.setF MKR_RESET_CTRL.RETAIN (s.getF MKR_RESET_CTRL.RETAIN)
  let s' := (s'.setF CHN_ID.UNIT_ID s.unit).setF CHN_ID.ID_VALID (s.getF CHN_ID.ID_VALID)
  s'.setF PKG_THERM_STATUS.THROTTLING 0

/-- A request for a warm reset: ignored while the PFAIL state is latched (R92). -/
def State.warmReset (s : State) (cause : Nat) (srOk : Bool) : State :=
  if s.bitF PKG_PFAIL_STATUS.PFAIL then s else s.warmDo cause srOk

/-- A write of MKR_RESET_CTRL: RETAIN, and a warm reset with WARM and the key (R123). -/
def State.resetCtrl (s : State) (v : U64) (cause : Nat) (srOk : Bool) : State :=
  let s := s.setF MKR_RESET_CTRL.RETAIN (MKR_RESET_CTRL.RETAIN.get v)
  if MKR_RESET_CTRL.WARM.get v = 1 ∧ MKR_RESET_CTRL.KEY.get v = 0xA5 then s.warmReset cause srOk else s

/-! ### The PCIe side (R89, R110) -/

/-- A sequence whose descriptor is lost. -/
def Sequence.orphan (e : Nat × Sequence) : Nat × Sequence := (e.1, { e.2 with cause := none })

/-- The POOL_ATOMICs of a ring that have begun and wait at this unit, their home: class, address and operation (R171). -/
def State.goneAtomics (s : State) (r : Ring) : List (Nat × Nat × AccessOp) :=
  ((s.ring r).flights.filter (fun f => f.started && !f.done && decide (dOp f.desc = 0x09) && decide (stkUnit (leAt f.desc 8 8) = s.unit))).map
    (fun f => (s.ringCls r, leAt f.desc 8 8, poolAtomic f.desc))

/-- An agent that is a ring is gone. -/
def agentLost (a : Nat) : Nat := if 16 ≤ a ∧ a < 80 then agentGone else a

/-- What the rings had sent into the stock goes its way without them: atomics wait at their home, and nobody takes the answers (R171). -/
def State.ringsLeft (s : State) : State :=
  let s := s.setStk { s.stk with late := s.stk.late ++ (List.finRange 64).flatMap s.goneAtomics,
                                 wc := s.stk.wc.map (fun w => { w with agent := agentLost w.agent }) }
  s.setChn { s.chn with outs := s.chn.outs.map (fun o => { o with agent := agentLost o.agent }) }

/-- The state of every ring is lost; whoever waited for a descriptor waits no more. -/
def State.ringsLost (s : State) : State :=
  let s := s.ringsLeft.resetRegs 0x4000 0x5400
  { s with rings := Vector.replicate 64 {}, arb := {}, launches := s.launches.filter (·.started),
           scn := { s.scn with busy := none, seqs := s.scn.seqs.map Sequence.orphan } }

/-- The PCIe core after its reset: the MSI-X table and configuration space (Table MKR-1; log entry 33). What the host has seen stays. -/
def Bus.coreReset (b : Bus) : Bus :=
  { hostMem := b.hostMem, lastRead := b.lastRead, msix := b.msix, perst := b.perst, linkUp := b.linkUp }

/-- PERST_n is low: the link is down. -/
def State.perstLow (s : State) : State := s.setBus { s.bus with perst := true, linkUp := false }

/-- A PCIe reset: PERST_n takes the link down, a Function Level Reset does not. -/
def State.pcieReset (s : State) (perst : Bool) : State :=
  let s := if s.halted then s else s.ringsLost
  let s := s.setBus s.bus.coreReset
  if perst then s.perstLow else s

/-! ### Meanings -/

/-- AON_POWER_ON (R89, R235). -/
def execAonPowerOn (s : State) : Result := s.goes s.aonPowerOn

/-- BOARD_RESET (R79, R89, R814). -/
def execBoardReset (s : State) : Result := s.goes (s.coldReset 1 3 0).holdReset

/-- A PFAIL latched while the engine stood still brings its notice, its flush or its HALT now (R78, R80, R813). -/
def State.pfailPending (s : State) : State :=
  if s.bitF PKG_PFAIL_STATUS.PFAIL && !s.bitF PKG_PFAIL_STATUS.FLUSH_ACTIVE && !s.bitF PKG_PFAIL_STATUS.FLUSH_DONE then s.pfailStart else s

/-- RESET_n rises: the straps are sampled, the Dateline re-bases at the coarse count of this instant, and makeready starts. -/
def State.resetRise (s : State) (rise : StrapRise) (addr0 addr1 : Bool) : State :=
  let s := s.setPkg { s.pkg with resetLow := false, strapRoot := rise.root, smbAddr := 0x58 + 2 * addr1.toNat + addr0.toNat }
  ((s.dtlRestart rise.coarse).bootStart (s.getF MKR_STATUS.RESET_CAUSE)).pfailPending

/-- RESET_N_RISE (R44, R46, R78, R80, R90, R272). -/
def execResetNRise (rise : StrapRise) (addr0 addr1 : Bool) (s : State) : Result :=
  s.goes (if s.pkg.resetLow then s.resetRise rise addr0 addr1 else s)

/-- WATCHDOG_EXPIRE (R91, R98): never in HALT, and only once the firmware runs. -/
def execWatchdogExpire (s : State) : Result :=
  s.live (if s.bitF MKR_BOOT_CFG.WDOG_EN && !s.mkr.wdogOff && decide (phFwVerify < s.phase) && decide (s.phase ≠ phHalt) then
      s.coldReset 3 3 0
    else s)

/-- WARM_RESET (R92, R117 to R120, R123). -/
def execWarmReset (v : U64) (srOk : Bool) (s : State) : Result := s.live (s.resetCtrl v 4 srOk)

/-- SMBUS_WARM_RESET (R89, R92). -/
def execSmbusWarmReset (srOk : Bool) (s : State) : Result := s.live (s.warmReset 5 srOk)

/-- PCIE_RESET (R89, R90). -/
def execPcieReset (perst : Bool) (s : State) : Result := s.goes (s.pcieReset perst)

/-- PERST_N_RISE (R110). -/
def execPerstNRise (s : State) : Result := s.goes (s.setBus { s.bus with perst := false })

/-- PCIE_LINK_UP (R110, R111): not before phase ROM has ended. -/
def execPcieLinkUp (s : State) : Result :=
  s.live (if s.bus.perst || decide (s.phase = phRom) then s else s.setBus { s.bus with linkUp := true })

/-- SUPPLY_RESET (R68, R69, R77, R89). -/
def execSupplyReset (t : SupplyDip) (s : State) : Result :=
  s.goes (let s := if s.halted then s else s.at t.at_
    if s.belowReset t then s.supplyReset t.coarse else s)

end Sys2Proof.Machine
end

