-- ==== Sys2Proof/Machine/Pcie.lean ====
section
/-!
DEFINITION. The PCIe endpoint as the host configures it (R111, R125, Table HST-1): configuration space and BAR4, the MSI-X table. The table of
commands has no row for either, so a REGISTER_WRITE whose offset lies above BAR0 stands for one: offsets 0x40000 on are BAR4's, 0x44000 on those
of configuration space. Table HST-1 gives the contents; the places are PCI's (PRESUMED, log entry 33).
-/

namespace Sys2Proof.Machine

/-- The first offsets of BAR4 and of configuration space, and the end. -/
def bar4Base : Nat := 0x40000
def cfgBase : Nat := 0x44000
def cfgEnd : Nat := 0x45000

/-- An offset of BAR4 or of configuration space. -/
def inPcie (off : Nat) : Bool := decide (bar4Base ≤ off) && decide (off < cfgEnd)

/-! ### Configuration space -/

/-- The bits of a configuration word that keep what is written: command, base addresses, power state, device control. -/
def State.cfgMask (s : State) (a : Nat) : Nat :=
  let bar2 := 2 ^ 64 - 2 ^ s.bus.bar2Log2
  match a with
  | 0x04 => 0x0006
  | 0x10 => 0xFFFC0000
  | 0x14 => 0xFFFFFFFF
  | 0x18 => bar2 % 2 ^ 32
  | 0x1C => bar2 / 2 ^ 32
  | 0x20 => 0xFFFFC000
  | 0x24 => 0xFFFFFFFF
  | 0x44 => 0x3
  | 0x68 => 0x71E0
  | 0x88 => 0x1000
  | _ => 0

/-- The bits of a configuration word that Table HST-1 fixes: identity and class, the BARs' kinds, power management, MSI-X with 64 vectors in
BAR4, Function Level Reset, 512-byte payloads, 10-bit tags, a link of x8 at PCIe 5.0 without ASPM, AER and the sizes of the Resizable BAR. -/
def cfgFixed (a : Nat) : Option Nat :=
  match a with
  | 0x00 => some (Config.vendorId.toNat + 2 ^ 16 * 0x5A16)
  | 0x04 => some 0x00100000
  | 0x08 => some 0x120000B0
  | 0x0C => some 0
  | 0x10 => some 0x4
  | 0x14 => some 0
  | 0x18 => some 0xC
  | 0x1C => some 0
  | 0x20 => some 0x4
  | 0x24 => some 0
  | 0x34 => some 0x40
  | 0x40 => some 0x00035001
  | 0x44 => some 0x8
  | 0x50 => some 0x003F6011
  | 0x54 => some 0x4
  | 0x58 => some 0x2004
  | 0x60 => some 0x00020010
  | 0x64 => some 0x10008022
  | 0x68 => some 0
  | 0x6C => some 0x00000085
  | 0x84 => some 0x00030000
  | 0x88 => some 0
  | 0x100 => some 0x15020001
  | 0x150 => some 0x00010015
  | 0x154 => some 0x007FC000
  | 0x158 => some 0x22
  | _ => none

/-- What the host reads of a configuration word. -/
def State.cfgWord (s : State) (a : Nat) : U32 :=
  match cfgFixed a with
  | none => Config.pciWord a
  | some x =>
    let own := if a = 0x50 then s.bus.fnMask.toNat * 2 ^ 30 + s.bus.msixOn.toNat * 2 ^ 31
      else if a = 0x158 then (s.bus.bar2Log2 - 20) * 2 ^ 8
      else 0
    BitVec.ofNat 32 (x + own) ||| tabGet 0 s.bus.cfg a

/-- Keep a configuration word. -/
def State.cfgKeep (s : State) (a : Nat) (v : U32) : State :=
  s.setBus { s.bus with cfg := tabSet s.bus.cfg a (v &&& BitVec.ofNat 32 (s.cfgMask a)) }

/-- A write of a configuration word: MSI-X control, BAR2's size, the power state, a Function Level Reset, or bits that are kept. -/
def State.cfgWrite (s : State) (a : Nat) (v : U32) : State :=
  if a = 0x50 then (s.setBus { s.bus with fnMask := v.getLsbD 30, msixOn := v.getLsbD 31 }).msixRelease
  else if a = 0x158 then
    let n := bitsOf v.toNat 13 8 + 20
    if 30 ≤ n ∧ n ≤ 38 then s.setBus { s.bus with bar2Log2 := n } else s
  else if a = 0x44 then (if bitsOf v.toNat 1 0 = 0 ∨ bitsOf v.toNat 1 0 = 3 then s.cfgKeep a v else s)
  else if a = 0x68 ∧ v.getLsbD 15 then s.pcieReset false
  else s.cfgKeep a v

/-! ### BAR4 -/

/-- What the host reads of a word of BAR4: the MSI-X table with its mask bits, and the pending-bit array. -/
def State.bar4Word (s : State) (a : Nat) : U32 :=
  if a < 0x400 then
    if a % 16 = 12 then BitVec.ofNat 32 (s.bus.vecMask.getLsbD (a / 16)).toNat else tabGet 0 s.bus.msixTab a
  else if a = 0x2000 then s.bus.pba.setWidth 32
  else if a = 0x2004 then (s.bus.pba >>> 32).setWidth 32
  else 0

/-- A write of a word of the MSI-X table: a message address or datum, or a vector's mask bit. -/
def State.bar4Write (s : State) (a : Nat) (v : U32) : State :=
  if 0x400 ≤ a then s
  else if a % 16 = 12 then
    let bit : U64 := 1#64 <<< (a / 16)
    (s.setBus { s.bus with vecMask := if v.getLsbD 0 then s.bus.vecMask ||| bit else s.bus.vecMask &&& ~~~ bit }).msixRelease
  else s.setBus { s.bus with msixTab := tabSet s.bus.msixTab a v }

/-! ### Writes -/

/-- A write of one word above BAR0. -/
def State.pcieWord (s : State) (off : Nat) (v : U32) : State :=
  if off < cfgBase then s.bar4Write (off - bar4Base) v else s.cfgWrite (off - cfgBase) v

/-- A write above BAR0: answered once the link is up, in every phase (R110, R111). -/
def State.pcieWrite (s : State) (off : Nat) (half : Half) (v : U64) : State :=
  if !s.bus.linkUp || decide (off % 8 ≠ 0) then s
  else
    match half with
    | .lower => s.pcieWord off (v.setWidth 32)
    | .upper => s.pcieWord (off + 4) (v.setWidth 32)
    | .full => (s.pcieWord off (v.setWidth 32)).pcieWord (off + 4) ((v >>> 32).setWidth 32)

end Sys2Proof.Machine
end

