-- ==== Sys2Proof/Machine/Failover.lean ====
section
/-!
DEFINITION. The active and standby pair: heartbeats, checkpoints, takeover and adoption (R762 to R777). What the text leaves open is in log
entry 26.
-/

namespace Sys2Proof.Machine

/-! ### Heartbeats (R762, R763, R777) -/

def roleActive : Nat := 1
def roleStandby : Nat := 2
def roleTaken : Nat := 3

/-- The role of this unit in an enabled pair, 0 outside one. -/
def State.role (s : State) : Nat := if s.bitF REP_PAIR_CFG.EN then s.getF REP_PAIR_CFG.ROLE else 0

/-- What a heartbeat carries: the role, the last committed checkpoint and the open epoch. -/
def State.heartbeatMsg (s : State) : Msg :=
  { op := opHeartbeat, src := s.unit, dst := s.getF REP_PAIR_CFG.PEER,
    inline := leBytes 1 s.role ++ leBytes 4 (s.getF REP_CKPT_STAT.LAST_N) ++ leBytes 4 (s.getF DTL_EPOCH_NOW.NUMBER) }

/-- Send a heartbeat; a unit that has taken over sends none (R771). -/
def State.heartbeatSend (s : State) : State :=
  if s.role = roleActive ∨ s.role = roleStandby then s.inject s.heartbeatMsg else s

/-- A heartbeat of the peer arrives. -/
def State.heartbeatTake (s : State) (src role : Nat) : State :=
  if s.role = 0 ∨ src ≠ s.getF REP_PAIR_CFG.PEER then s
  else
    let s := s.setRep { s.rep with heard := some s.dtl.count }
    if role = roleTaken ∧ s.role = roleActive then s.setF REP_PAIR_CFG.PEER_ACTIVE 1 else s

/-! ### The slots (R764, R765, Table REP-4) -/

/-- The slot of checkpoint n: A when n is even. -/
def State.slotAddr (s : State) (n : Nat) : Nat := if n % 2 = 0 then (s.reg REP_SLOT_A).toNat else (s.reg REP_SLOT_B).toNat

/-- An enabled section: where it comes from, where adoption puts it, its length, and its offset in the slot. -/
structure Section where
  src : Nat
  dst : Nat
  len : Nat
  off : Nat
  deriving DecidableEq, Repr

/-- The next 64 KiB boundary. -/
def up64K (n : Nat) : Nat := (n + 65535) / 65536 * 65536

/-- The sections in order from a slot offset on; a disabled one holds a place with length 0. -/
def State.sectionsFrom (s : State) (off : Nat) : List Nat → List Section
  | [] => []
  | k :: ks =>
    let len := s.getF (REP_SECT_LEN.LEN k)
    if len = 0 then { src := 0, dst := 0, len := 0, off := 0 } :: s.sectionsFrom off ks
    else { src := (s.reg (REP_SECT_SRC k)).toNat, dst := (s.reg (REP_SECT_DST k)).toNat, len := len, off := off } ::
      s.sectionsFrom (up64K (off + len)) ks

/-- The sixteen sections. -/
def State.sections (s : State) : List Section := s.sectionsFrom 0x20000 (List.range 16)

/-- Every section fits in the slot (R768). -/
def State.sectionsFit (s : State) : Bool :=
  s.sections.all (fun x => decide (x.len = 0) || decide (x.off + x.len ≤ s.getF REP_SLOT_SIZE.SLOT_MIB * 2 ^ 20))

/-- The section table: 32 bytes an entry. -/
def sectionBytes (x : Section) : List Byte := leBytes 8 x.src ++ leBytes 8 x.dst ++ leBytes 8 x.len ++ leBytes 8 x.off

/-- The state record: its items in the order of Table REP-4, eight bytes each, the time as DTL_CAP_S and DTL_CAP_NS hold one. What Table
REP-4 does not name of a slot's records is free (log entry 26). -/
def State.stateRecord (s : State) : List Byte :=
  let t := splitTime s.time
  fillTo s.free 0x1000 4096 (bytesOf [s.reg DTL_EPOCH_CFG, s.reg DTL_EPOCH_START_S, s.reg DTL_EPOCH_START_NS,
    BitVec.ofNat 64 (s.getF DTL_EPOCH_NOW.NUMBER), BitVec.ofNat 64 t.1, BitVec.ofNat 64 (t.2.1 * 2 ^ 16 + t.2.2), s.reg DTL_STATE,
    s.reg RGS_GRID_CFG, s.reg SCN_GEOM])

/-- The ring records: 64 bytes a ring. -/
def State.ringRecords (s : State) : List Byte :=
  (List.finRange 64).flatMap (fun r =>
    fillTo s.free (0x5000 + 64 * r.val) 64 (bytesOf [s.reg (HST_RING_CFG r.val), s.ringStatus r, s.reg (HST_RING_COUNT r.val)]))

/-- The tag windows: 256 tags of four bytes a ring, newest first. -/
def State.tagWindows (s : State) : List Byte :=
  (List.finRange 64).flatMap (fun r => fillTo s.free (0x6000 + 1024 * r.val) 1024 ((s.ring r).window.flatMap (leBytes 4)))

/-- Slot bytes 0x1000 to 0x1FFFF, captured at one instant (R766). -/
def State.slotHeader (s : State) : List Byte :=
  fillTo s.free 0x1000 0x1F000 (s.stateRecord ++ fillTo s.free 0x2000 4096 (s.sections.flatMap sectionBytes) ++
    (List.range 1024).flatMap (fun q => leBytes 8 ((s.seqInfo q).toNat % 2 ^ 29)) ++ s.ringRecords ++ s.tagWindows)

/-- The commit record (Table REP-5). -/
def State.commitRecord (s : State) (c : Ckpt) : List Byte :=
  let b := leBytes 4 0x544B435A ++ leBytes 4 1 ++ leBytes 8 c.n ++ leBytes 4 c.epochAt ++ leBytes 4 (s.getF DTL_EPOCH_NOW.NUMBER) ++
    leBytes 8 s.count64 ++ leBytes 4 c.crc ++ leBytes 4 (s.sections.countP (fun x => decide (x.len ≠ 0))) ++ List.replicate 20 0
  b ++ leBytes 4 (crc32 b)

/-! ### Taking a checkpoint (R766 to R769) -/

/-- Who copies checkpoints. -/
def agentCkpt : Nat := 99

/-- An access of checkpoint traffic: class BEST_EFFORT, checked like any other (R764, R767). -/
def State.ckptReq (s : State) (op : AccessOp) (addr : Nat) : StkReq :=
  { src := s.unit, agent := agentCkpt, cls := 2, op := op, addr := addr }

/-- Keep the checkpoint under way. -/
def State.ckptKeep (s : State) (c : Ckpt) : State :=
  (s.setRep { s.rep with ckpt := some c }).setF REP_CKPT_STAT.STATE (match c.step with | .zero | .copy => 1 | .record => 2 | .commit => 3)

/-- The checkpoint ends without a commit record (R768). -/
def State.ckptFail (s : State) : State :=
  ((s.setRep { s.rep with ckpt := none }).setF REP_CKPT_STAT.STATE 0).setF REP_CKPT_STAT.CKPT_ERR 1

/-- The checkpoint counts. -/
def State.ckptCount (s : State) (c : Ckpt) : State :=
  let s := ((s.setRep { s.rep with ckpt := none }).setF REP_CKPT_STAT.STATE 0).setF REP_CKPT_STAT.LAST_N c.n
  let s := s.setF REP_CKPT_STAT.LAST_SLOT (c.n % 2)
  s.setF REP_CKPT_STAT.DURATION_MS (min 65535 (roundQ ((s.dtl.count : Int) - c.startAt) 500000).toNat)

/-- What the write of a step carries: its slot offset and bytes, and the checkpoint that remembers it. -/
def State.ckptWrite (s : State) (c : Ckpt) : Nat × List Byte × Ckpt :=
  match c.step with
  | .record => let h := s.slotHeader; (0x1000, h, { c with posted := true, crc := crc32 h })
  | .commit => (0, s.commitRecord c, { c with posted := true })
  | _ => (0, List.replicate 64 0, { c with posted := true })

/-- The step after a step whose write is VISIBLE. -/
def State.ckptNext (s : State) (c : Ckpt) : State :=
  match c.step with
  | .zero => if s.sectionsFit then s.ckptKeep { c with step := .copy, posted := false } else s.ckptFail
  | .copy => s
  | .record => s.ckptKeep { c with step := .commit, posted := false }
  | .commit => s.ckptCount c

/-- Copy up to 64 KiB of the section under way. -/
def State.ckptCopy (s : State) (c : Ckpt) : State :=
  match s.sections[c.sect]? with
  | none => s.ckptKeep { c with step := .record, posted := false }
  | some x =>
    if x.len ≤ c.off then s.ckptKeep { c with sect := c.sect + 1, off := 0 }
    else
      let n := min 65536 (x.len - c.off)
      match s.stkDo (s.ckptReq (.read n) (x.src + c.off)) with
      | (a, s) =>
        if a.status = .wait then s
        else if a.status ≠ .ok then s.ckptFail
        else
          match s.stkDo (s.ckptReq (.write a.data) (s.slotAddr c.n + x.off + c.off)) with
          | (b, s) => if b.status = .wait then s else if b.status ≠ .ok then s.ckptFail else s.ckptKeep { c with off := c.off + n }

/-- The checkpoint under way moves on by one piece: a chunk of a section, the write of a step, or the wait for it. -/
def State.ckptMove (s : State) : State :=
  match s.rep.ckpt with
  | none => s
  | some c =>
    if c.step = .copy then s.ckptCopy c
    else if !c.posted then
      let w := s.ckptWrite c
      match s.stkDo (s.ckptReq (.write w.2.1) (s.slotAddr c.n + w.1)) with
      | (a, s) => if a.status = .wait then s else if a.status ≠ .ok then s.ckptFail else s.bumpFree.ckptKeep w.2.2
    else
      match s.fence .visible 1 [agentCkpt] with
      | (a, s) => if a.status = .wait then s else if a.status ≠ .ok then s.ckptFail else s.ckptNext c

/-- A trigger: a checkpoint starts, or the trigger is dropped and counted (R767, R777). -/
def State.ckptStart (s : State) : State :=
  if s.role ≠ roleActive ∨ s.bitF REP_PAIR_CFG.PEER_ACTIVE then s
  else if s.rep.ckpt.isSome || s.bitF PKG_PFAIL_STATUS.FLUSH_ACTIVE then s.incSat REP_CKPT_STAT.SKIPPED
  else
    let c : Ckpt := { n := s.getF REP_CKPT_STAT.LAST_N + 1, epochAt := s.getF DTL_EPOCH_NOW.NUMBER, startAt := s.dtl.count }
    ((s.setF REP_CKPT_STAT.CKPT_ERR 0).ckptKeep c).ckptMove

/-! ### Takeover (R770 to R774) -/

/-- A slot of this unit is complete: the number of its checkpoint (R770). A slot that cannot be read is not complete. -/
def State.slotComplete (s : State) (addr : Nat) : Got (Option Nat) × State :=
  match gotThen (s.agentGet addr 64) fun b s => gotThen (s.agentGet (addr + 0x1000) 0x1F000) fun h s =>
      (.ok (if leAt b 0 4 = 0x544B435A ∧ leAt b 4 4 = 1 ∧ leAt b 60 4 = crc32 (b.take 60) ∧ leAt b 32 4 = crc32 h then some (leAt b 8 8)
            else none), s) with
  | (.bad a op, s) => (.ok none, (s.ownAccess a op).2)
  | r => r

/-- The complete slot with the higher number: which one, and the number. -/
def bestSlot : Option Nat → Option Nat → Option (Nat × Nat)
  | none, none => none
  | some a, none => some (0, a)
  | none, some b => some (1, b)
  | some a, some b => if a < b then some (1, b) else some (0, a)

/-- What the standby does at takeover, us after the loss of its peer, with the slot it adopts (R771, R774). -/
def State.takenOver (s : State) (us : Nat) (best : Option (Nat × Nat)) : State :=
  let s := s.setF REP_PAIR_CFG.ROLE roleTaken
  let s := match best with
    | some (slot, n) => ((s.setF REP_TAKEOVER.N n).setF REP_TAKEOVER.SLOT slot).setF REP_TAKEOVER.NONE 0
    | none => s.setF REP_TAKEOVER.NONE 1
  let s := s.setF REP_TAKEOVER.TIME_UNLOCKED (if s.getF DTL_STATE.STATE = stLocked then 0 else 1)
  let s := s.setF REP_TAKEOVER.LATENCY_US (min (2 ^ 24 - 1) us)
  let s := (List.finRange 4).foldl (fun s p => if (s.getF REP_PAIR_CFG.PTP_MASK).testBit p.val then s.ptpEnable p else s) s
  s.raise .failover

/-- The standby reads both slots and takes over; while a read waits, the takeover is still to come (R770). -/
def State.takeover (s : State) : State :=
  match s.rep.taking with
  | none => s
  | some us =>
    (s.stepEnd (gotThen (s.slotComplete (s.reg REP_SLOT_A).toNat) fun a s => gotThen (s.slotComplete (s.reg REP_SLOT_B).toNat) fun b s =>
      (.ok (), (s.setRep { s.rep with taking := none }).takenOver us (bestSlot a b)))).2

/-- The active unit demotes itself (R776). -/
def State.selfDemote (s : State) : State :=
  let was := (List.range 4).any (fun k => s.bitF (GRD_PAIR.EN k))
  let s := (List.range 4).foldl (fun s k => s.setF (GRD_PAIR.EN k) 0) s
  let s := s.setRep { s.rep with demoted := true }
  if was then s.safeEnter else s

/-- HB_LOSS_US has passed since the peer's last heartbeat (R763). -/
def State.peerLost (s : State) (us : Nat) : State :=
  let due := match s.rep.heard with | none => true | some h => decide (h + usTicks (s.getF REP_PAIR_CFG.HB_LOSS_US) ≤ s.dtl.count)
  if !due then s
  else if s.role = roleStandby then (s.setRep { s.rep with taking := some us }).takeover
  else if s.role = roleActive ∧ s.bitF REP_PAIR_CFG.SELF_DEMOTE then s.selfDemote
  else s

/-! ### Adoption (R773) -/

/-- The slot that the takeover adopted. -/
def State.adoptedSlot (s : State) : Nat := if s.getF REP_TAKEOVER.SLOT = 0 then (s.reg REP_SLOT_A).toNat else (s.reg REP_SLOT_B).toNat

/-- A destination lies in this unit's DRAM-flat or flash-backed tier. -/
def State.adoptDst (s : State) (dst len : Nat) : Bool :=
  decide (stkUnit dst = s.unit) && decide (stkTier dst < 2) && s.inTier dst len

/-- Copy one section of the slot to its destination: none while it waits, or whether its destination was good. -/
def State.adoptSection (s : State) (k : Nat) : Option Bool × State :=
  match s.ownRead (s.adoptedSlot + 0x2000 + 32 * k) 32 with
  | (t, s) =>
    let len := leAt t.data 16 8
    let dst := leAt t.data 8 8
    if t.status = .wait then (none, s)
    else if t.status ≠ .ok then (some false, s)
    else if len = 0 then (some true, s)
    else if !s.adoptDst dst len then (some false, s)
    else
      match s.ownRead (s.adoptedSlot + leAt t.data 24 8) len with
      | (a, s) =>
        if a.status = .wait then (none, s)
        else if a.status ≠ .ok then (some false, s)
        else match s.ownWrite dst a.data with
          | (b, s) => (if b.status = .wait then none else some (decide (b.status = .ok)), s)

/-- Copy the sections that are left, at most n of them. -/
def State.adoptSections (s : State) : Nat → State
  | 0 => s
  | n + 1 =>
    match s.rep.adopt with
    | none => s
    | some x =>
      if x.ended.isSome || decide (16 ≤ x.sect) then s
      else
        match s.adoptSection x.sect with
        | (none, s) => s
        | (some ok, s) =>
          (s.setRep { s.rep with adopt := some (if ok then { x with sect := x.sect + 1 } else { x with ended := some false }) }).adoptSections n

/-- Restore one sequence of the table from its folio list. -/
def State.adoptSeq (s : State) (q w : Nat) : Got Unit × State :=
  if w % 8 = 1 then
    gotThen (s.agentGet ((s.reg SCN_LIST_BASE).toNat + 16384 * q) (4 * bitsOf w 28 16)) fun l s =>
      (.ok (), s.setSeq q { s.seq q with state := .resident, kLog2 := bitsOf w 7 4, priority := bitsOf w 15 8,
                                         folios := (List.range (bitsOf w 28 16)).map (fun i => leAt l (4 * i) 4) })
  else (.ok (), if w % 8 = 0 then s else s.incSat REP_ADOPT.LOST_SEQ)

/-- Recount the brick pool from the directory: what an entry holds is in use. -/
def State.adoptBricks (s : State) (dir : List Byte) : State :=
  let ents := (List.range (dir.length / 32)).map (fun i => DirEnt.ofBytes (slice dir (32 * i) 32))
  let held := (ents.filter (·.valid)).flatMap (fun e => [e.live, e.prior, e.guard].filter (fun b => decide (b ≠ noBrick)))
  let guards := (ents.zipIdx.filter (fun e => e.1.valid && decide (e.1.guard ≠ noBrick))).map (fun e =>
    (e.1.guardE, (s.reg RGS_DIR_BASE).toNat + 32 * e.2))
  s.setRgs { s.rgs with used := held.foldl (fun u b => tabSet u b true) [], quar := [], guards := guards }

/-- Write the epoch settings from the state record, so that numbering goes on in step with the active unit's. -/
def State.adoptEpochs (s : State) (rec : List Byte) : State :=
  let w (i : Nat) : U64 := BitVec.ofNat 64 (leAt rec (8 * i) 8)
  let s := (s.setReg DTL_EPOCH_CFG (w 0)).setF DTL_EPOCH_CFG.EN 0
  let s := (s.setReg DTL_EPOCH_START_S (w 1)).setReg DTL_EPOCH_START_NS (w 2)
  let t : Int := ((w 4).toNat : Int) * unitSec + ((w 5).toNat / 2 ^ 16 : Nat) * unitNs + ((w 5).toNat % 2 ^ 16 : Nat) * 65536
  let p := (s.getF DTL_EPOCH_CFG.PERIOD_US : Int) * 1000 * unitNs
  let k := (t - s.epochTime 0) / p
  s.setF DTL_EPOCH_FIRST.FIRST (((w 3).toNat - k) % 2 ^ 32).toNat

/-- Steps 2 to 4, once every section is in its place. -/
def State.adoptRest (s : State) : Got Unit × State :=
  gotThen (s.agentGet (s.adoptedSlot + 0x3000) 8192) fun tab s =>
    gotThen ((List.range 1024).foldl (fun r q => gotThen r fun _ s => s.adoptSeq q (leAt tab (8 * q) 8)) (.ok (), s)) fun _ s =>
      gotThen (s.agentGet (s.reg RGS_DIR_BASE).toNat (128 * 2 ^ s.getF RGS_GRID_CFG.HASH_LOG2)) fun dir s =>
        gotThen (s.agentGet (s.adoptedSlot + 0x1000) 72) fun rec s => (.ok (), (s.adoptBricks dir).adoptEpochs rec)

/-- Adoption moves on as far as it can. -/
def State.adoptMove (s : State) : State :=
  let s := s.adoptSections 16
  match s.rep.adopt with
  | none => s
  | some x =>
    if x.ended.isSome || decide (x.sect < 16) then s
    else
      let r := s.adoptRest
      let s := (s.stepEnd r).2
      match r.1 with
      | .ok _ => s.setRep { s.rep with adopt := some { x with ended := some true } }
      | .held _ _ => s
      | .bad _ _ => s.setRep { s.rep with adopt := some { x with ended := some false } }

/-- GO of REP_ADOPT. -/
def State.adoptGo (s : State) : State :=
  if s.getF REP_PAIR_CFG.ROLE ≠ roleTaken ∨ s.bitF DTL_EPOCH_CFG.EN ∨ s.bitF REP_ADOPT.BUSY then s
  else
    let s := (((s.setF REP_ADOPT.BUSY 1).setF REP_ADOPT.DONE 0).setF REP_ADOPT.ERR 0).setF REP_ADOPT.LOST_SEQ 0
    if s.bitF REP_TAKEOVER.NONE then s.setRep { s.rep with adopt := some { ended := some true } }
    else (s.setRep { s.rep with adopt := some {} }).adoptMove

/-- The end of an adoption. -/
def State.adoptEnd (s : State) : State :=
  let s := s.adoptMove
  match s.rep.adopt.bind (·.ended) with
  | none => s
  | some ok =>
    let s := (s.setRep { s.rep with adopt := none }).setF REP_ADOPT.BUSY 0
    if ok then s.setF REP_ADOPT.DONE 1 else s.setF REP_ADOPT.ERR 1

/-! ### Meanings -/

/-- HEARTBEAT_SEND (R762). -/
def execHeartbeatSend (s : State) : Result := s.live s.heartbeatSend

/-- HEARTBEAT (R763, R777). -/
def execHeartbeat (src : UnitId) (role lastN epoch : Nat) (s : State) : Result :=
  let _ := (lastN, epoch)
  s.live (s.heartbeatTake src.val role)

/-- PEER_LOSS (R763, R770 to R776). -/
def execPeerLoss (t : Tick) (us : Nat) (s : State) : Result := s.live ((s.at t).peerLost us)

/-- CKPT_GO (R766 to R768): the first write is made; the rest follows as the block runs. -/
def execCkptGo (t : Tick) (s : State) : Result := s.host (s.at t).ckptStart

/-- CKPT_PERIOD (R767). -/
def execCkptPeriod (t : Tick) (s : State) : Result :=
  s.live (if s.getF REP_CKPT_CTRL.PERIOD_MS = 0 then s.at t else (s.at t).ckptStart)

/-- ADOPT (R773). -/
def execAdopt (s : State) : Result := s.host s.adoptGo

/-- ADOPT_DONE (R773). -/
def execAdoptDone (s : State) : Result := s.live s.adoptEnd

/-- ACK (R643, R693, R766): a checkpoint that waits for it goes on. -/
def execAck (m : Msg) (s : State) : Result := s.live (s.answered m [opWrite, opFlush] {}).ckptMove

end Sys2Proof.Machine
end

