-- ==== Sys2Proof/Machine/StopPress.lean ====
section
/-!
DEFINITION. Stop-press and debug (R792 to R814): the freeze, the debug lock, the TAP, read-out, and the two exits. What the text leaves open is in
log entry 27.
-/

namespace Sys2Proof.Machine

/-! ### Entering a freeze (R792 to R798) -/

/-- A TRG output goes to its rest level; a pulse under way is cut short (R798). -/
def Trg.cut (x : Trg) : Trg :=
  match x.scheds with
  | [] => x
  | c :: _ => if c.edge % 2 = 1 then x.edge else x

/-- A freeze request is taken: the pins go safe, every pulse ends, and every domain but MEM stops. -/
def State.freeze (s : State) (source : Nat) : State :=
  if s.dbg.freeze ≠ .running then s
  else
    let s := s.safeEnter
    let s := s.setDtl { s.dtl with trgs := s.dtl.trgs.map Trg.cut, ppsOut := none }
    let s := (s.incSat DBG_STAT.FREEZES).setF DBG_FREEZE_LAST.SOURCE source
    (s.setF DBG_FREEZE_LAST.EXIT 0).setDbg { s.dbg with freeze := .stopping }

/-- MEM stops: flash is suspended, and FROZEN reads 1 (R794). -/
def State.memFreeze (s : State) (srOk : Bool) : State :=
  if s.dbg.freeze ≠ .stopping then s
  else (s.setPkg { s.pkg with suspended := true }).setDbg { s.dbg with freeze := .frozen, srFail := !srOk }

/-- A host's write of DBG_FREEZE_CTRL (R792). -/
def State.freezeWrite (s : State) (v : U64) : State :=
  if s.bitF DBG_CFG.REG_EN && decide (DBG_FREEZE_CTRL.KEY.get v = 0x3D) then
    (if DBG_FREEZE_CTRL.GO.get v = 1 then s.freeze 2 else s)
  else s.incSat DBG_STAT.REFUSED

/-! ### The thaw (R811 to R813) -/

/-- The total shifted along some chain is no multiple of its length (R809). -/
def Dbg.rotated (d : Dbg) : Bool := d.rotation.any (fun e => decide (e.2 % Config.scanLen e.1 ≠ 0))

/-- FROZEN. -/
def Dbg.isFrozen (d : Dbg) : Bool := decide (d.freeze = .frozen)

/-- The conditions of R812 that the engine itself holds; FREEZE_n is high (log entry 27). -/
def Dbg.mayThaw (d : Dbg) : Bool := d.unlocked && d.isFrozen && !d.srFail && !d.rotated

/-- Ticks of the Dateline in n of the freeze counter's 40 ns. -/
def freezeTicks (n : Nat) : Nat := 20 * n

/-- The guard deadlines that passed during the freeze are missed. -/
def State.thawDeadlines (s : State) (n : Nat) : State :=
  let now := s.dtl.count + freezeTicks n
  s.epochs.foldl (fun s e => s.guardDeadline e.num now) s

/-- A camera abandons the packet it was receiving. -/
def State.thawCam (s : State) (p : CamPort) : State :=
  match (s.cam p).cur with
  | none => s
  | some c => ((s.setCam p { s.cam p with cur := none }).galAbandon (camGalley p)).camDrop p (Fin.ofNat 4 c.vc) c.stamp

/-- An IMU abandons the script it was running. -/
def State.thawImu (s : State) (i : Fin 2) : State :=
  if s.bitF (ING_IMU_STAT.BUSY i) then
    ((s.setImu i { s.imu i with csLow := false }).setF (ING_IMU_STAT.BUSY i) 0).covX (52 + i.val) (s.imu i).stamp
  else s

/-- The receivers. -/
def State.thawIngress (s : State) : State := (List.finRange 2).foldl State.thawImu ((List.finRange 8).foldl State.thawCam s)

/-- The chain and the host link: both ports are down, and the PCIe link retrains. -/
def State.thawLinks (s : State) : State :=
  let s := (s.portFold 0).portFold 1
  s.setBus { s.bus with linkUp := false }

/-- The supply monitor's marks follow what it shows now. -/
def State.thawSupply (s : State) : State :=
  let opened := s.bitF PKG_SMON_STATUS.OPEN
  let s :=
    if s.pkg.warn && !opened then
      match s.pkg.filter with
      | some (_, low) => (s.setFilter none).windowStart s.dtl.count low
      | none => let f := s.takeFree; f.2.windowStart s.dtl.count (f.1.toNat % 2 ^ 16)
    else if !s.pkg.warn && opened then s.windowClose
    else s
  s.setPkg { s.pkg with suspended := s.bitF PKG_SMON_STATUS.OPEN && !s.bitF PKG_PFAIL_STATUS.FLUSH_ACTIVE }

/-- A thaw-in-place. -/
def State.thaw (s : State) (freezeCount : Nat) : State :=
  let n := min (2 ^ 48 - 1) freezeCount
  let s := s.setDbg { s.dbg with freeze := .running }
  let s := (s.setF DBG_FREEZE_LAST.FREEZE_COUNT n).setF DBG_FREEZE_LAST.EXIT 1
  let s := ((s.thawDeadlines n).dtlThaw n).epochClose
  let s := s.thawIngress.thawLinks
  let s := if s.bitF REP_PAIR_CFG.EN then s.selfDemote else s
  s.thawSupply.pfailPending

/-! ### The TAP (R799 to R810) -/

/-- TAP instructions (Table DBG-1). -/
def irExtest : Nat := 0x00
def irIdcode : Nat := 0x01
def irSample : Nat := 0x02
def irStatus : Nat := 0x10
def irChallenge : Nat := 0x11
def irResponse : Nat := 0x12
def irScanSel : Nat := 0x20
def irScanRead : Nat := 0x21
def irSramAddr : Nat := 0x22
def irSramData : Nat := 0x23
def irThaw : Nat := 0x30
def irStopReset : Nat := 0x31
def irBypass : Nat := 0xFF

/-- Select an instruction; its data register has captured these bytes. -/
def State.tap (s : State) (ir : Nat) (out : List Byte) : State := s.setDbg { s.dbg with ir := ir, out := out }

/-- The identification register (R805). -/
def idcode : Nat := 1 + 2 * Config.manufacturer.toNat + 2 ^ 12 * 0x5A16 + 2 ^ 28

/-- DBG_STATUS (R808). -/
def Dbg.status (d : Dbg) : Nat :=
  d.isFrozen.toNat + 2 * d.unlocked.toNat + 4 * d.lockout.toNat + 8 * d.srFail.toNat + 16 * d.extestBlocked.toNat +
    32 * d.rotated.toNat + 256 * (Config.scanLen d.chain % 2 ^ 24)

/-- A new challenge (R800); the nonce is random. -/
def State.newChallenge (s : State) : State :=
  let a := s.takeFree
  let b := a.2.takeFree
  let c := leBytes 8 a.1.toNat ++ leBytes 8 b.1.toNat ++ leBytes 8 s.otp.serial ++ leBytes 4 idcode ++ leBytes 4 0
  (b.2.setDbg { s.dbg with challenge := some c }).tap irChallenge c

/-- A response unlocks debug (R799, R801). -/
def State.responseOk (s : State) (d : List Byte) : Bool :=
  let x := slice d 0 32
  let y := slice d 32 32
  match s.dbg.challenge with
  | none => false
  | some c =>
    decide (s.otp.debugHash ≠ List.replicate 32 0) && decide (sha256 (x.reverse ++ y.reverse) = s.otp.debugHash) &&
      ecdsaOk (leNat x) (leNat y) (leNat (slice d 64 32)) (leNat (slice d 96 32)) (sha256 c)

/-- A response is taken; the third that fails locks debug (R802). -/
def State.response (s : State) (d : List Byte) : State :=
  if s.dbg.lockout then s
  else if s.responseOk d then s.setDbg { s.dbg with unlocked := true }
  else s.setDbg { s.dbg with fails := s.dbg.fails + 1, lockout := decide (3 ≤ s.dbg.fails + 1) }


/-- Shift the selected chain by some bits (R809): what comes out is the stopped flops, which this model does not hold one by one. -/
def State.scanShift (s : State) (bits : Nat) : State :=
  let f := s.freeBytes ((bits + 7) / 8)
  let d := f.2.dbg
  (f.2.setDbg { d with rotation := tabSet d.rotation d.chain (tabGet 0 d.rotation d.chain + bits) }).tap irScanRead f.1

/-- A word of a galley's storage (Table DBG-2): none where nothing held lies there. -/
def Galley.stored (x : Galley) (depth w : Nat) : Option U64 :=
  if depth ≤ w then none else (x.words[(w + depth - x.rptr.1 % depth) % depth]?).map (·.data)

/-- The eight bytes that SRAM_DATA captures at an address: none where no rule tells what lies there (Table DBG-2). -/
def State.sramAt (s : State) (a : Nat) : Option (List Byte) :=
  let p := s.press ⟨bitsOf a 43 40 % 16, Nat.mod_lt _ (by decide)⟩
  match bitsOf a 47 44 with
  | 0 => if bitsOf a 22 0 < 0x600000 then some (p.bank.read (bitsOf a 22 0) 8) else none
  | 1 => if bitsOf a 17 0 < 262144 then some (p.slugs.read (bitsOf a 17 0) 8) else none
  | 2 => if bitsOf a 17 0 < 131072 then some (p.wstore.read (bitsOf a 17 0) 8) else none
  | 3 =>
    let g : GalleyId := ⟨bitsOf a 43 38 % 64, Nat.mod_lt _ (by decide)⟩
    ((s.gal g).stored (galDepth g) (bitsOf a 16 3)).map (fun w => leBytes 8 w.toNat)
  | _ => none

/-- Capture, and the next address (R810). -/
def State.sramData (s : State) : State :=
  let a := s.dbg.sramAddr
  let r := match s.sramAt a with
    | some b => (b, s)
    | none => s.freeBytes 8
  (r.2.setDbg { r.2.dbg with sramAddr := a / 2 ^ 44 * 2 ^ 44 + (a + 8) % 2 ^ 44 }).tap irSramData r.1

/-- Debug is unlocked and FROZEN is 1. -/
def Dbg.readsOut (d : Dbg) : Bool := d.unlocked && d.isFrozen

/-! ### Meanings -/

/-- FREEZE_N_ASSERT (R792, R793, R798). -/
def execFreezeNAssert (t : Tick) (s : State) : Result := s.live ((s.at t).freeze 1)

/-- DBG_FREEZE_GO (R792). -/
def execDbgFreezeGo (t : Tick) (v : U64) (s : State) : Result := s.host ((s.at t).freezeWrite v)

/-- MEM_FREEZE (R794). -/
def execMemFreeze (srOk : Bool) (s : State) : Result := s.goes (s.memFreeze srOk)

/-- SELF_REFRESH_TIMEOUT (R794). -/
def execSelfRefreshTimeout (s : State) : Result := s.goes (s.memFreeze false)

/-- EXTEST (R807): outside a board reset it acts as BYPASS. -/
def execExtest (s : State) : Result :=
  s.goes (if s.pkg.resetLow then s.tap irExtest [] else (s.setDbg { s.dbg with extestBlocked := true }).tap irBypass [0])

/-- IDCODE (R805). -/
def execIdcode (s : State) : Result := s.goes (s.tap irIdcode (leBytes 4 idcode))

/-- SAMPLE_PRELOAD (R804): the boundary register is loaded; what it sampled is the pins. -/
def execSamplePreload (load : List Bool) (s : State) : Result :=
  s.goes (let f := s.freeBytes ((load.length + 7) / 8)
    (f.2.setDbg { f.2.dbg with boundary := load }).tap irSample f.1)

/-- DBG_STATUS (R808). -/
def execDbgStatus (s : State) : Result := s.goes (s.tap irStatus (leBytes 4 s.dbg.status))

/-- DBG_CHALLENGE (R800). -/
def execDbgChallenge (s : State) : Result := s.goes s.newChallenge

/-- DBG_RESPONSE (R801, R802). -/
def execDbgResponse (data : List Byte) (s : State) : Result := s.goes ((s.tap irResponse []).response data)

/-- SCAN_SEL (R809). -/
def execScanSel (v : U16) (s : State) : Result :=
  s.goes (let s := s.tap irScanSel []
    if s.dbg.unlocked then s.setDbg { s.dbg with chain := v.toNat % 4096 } else s)

/-- SCAN_READ (R803, R809). -/
def execScanRead (bits : Nat) (s : State) : Result :=
  s.goes (if s.dbg.readsOut then s.scanShift bits else s.tap irScanRead [])

/-- SRAM_ADDR (R803, R810). -/
def execSramAddr (v : BitVec 48) (s : State) : Result :=
  s.goes (let s := s.tap irSramAddr []
    if s.dbg.readsOut then s.setDbg { s.dbg with sramAddr := v.toNat / 8 * 8 } else s)

/-- SRAM_DATA (R803, R810). -/
def execSramData (s : State) : Result := s.goes (if s.dbg.readsOut then s.sramData else s.tap irSramData [])

/-- THAW (R812, R813). -/
def execThaw (freezeCount : Nat) (s : State) : Result :=
  s.goes (let s := s.tap irThaw []
    if s.dbg.mayThaw && !s.pkg.tripped then s.thaw freezeCount else s)

/-- STOP_RESET (R814). -/
def execStopReset (s : State) : Result :=
  s.goes (let s := s.tap irStopReset []
    if s.dbg.isFrozen && !s.pkg.tripped then s.coldReset 7 2 0 else s)

/-- BYPASS (R804). -/
def execBypass (s : State) : Result := s.goes (s.tap irBypass [0])

/-- TAP_RESET (R804). -/
def execTapReset (s : State) : Result := s.goes (s.tap irIdcode [])

end Sys2Proof.Machine
end

