-- ==== Sys2Proof/Machine/Registers.lean ====
section
/-!
DEFINITION. BAR0 and BAR2 as the host reaches them (R9 to R17, R113 to R116, R127 to R129, R172, R200 to R204, R605, R650 to R654): what each
register shows, what a write of each does, and the stock window. A write over the chain does the same as one over PCIe (R172). What the
text leaves open is in log entry 29.
-/

namespace Sys2Proof.Machine

/-! ### Accesses (R11 to R13, R113, R114) -/

/-- The MKR block, which answers in every phase (R115). -/
def inMkr (off : Nat) : Bool := decide (0x1000 ≤ off) && decide (off < 0x2000)

/-- Keep the lower half of a register's write (R13). A full 64-bit write is not a write of the lower half, and leaves what is kept as it was
(DESIGN CHOICE; log entry 51). -/
def State.keepHalf (s : State) (off : Nat) (v : U64) : State := { s with halves := FMap.set (fun _ => 0#32) s.halves off (v.setWidth 32) }

/-- The word that a write of a register applies: a full one, or an upper half with the lower half last written; a lower half alone applies
nothing (R13). A register whose lower half has not been written since reset takes 0 for it (DESIGN CHOICE; log entry 52). -/
def State.writeWord (s : State) (off : Nat) : Half → U64 → Option U64
  | .full, v => some v
  | .upper, v => some (((v.setWidth 32 : U32).setWidth 64 <<< 32) ||| (FMap.get (fun _ => 0#32) s.halves off).setWidth 64)
  | .lower, _ => none

/-! ### What registers show -/

/-- The codes of PRS_STATUS (R473). -/
def PressMode.code : PressMode → Nat
  | .idle => 0 | .loading => 1 | .running => 2 | .handler => 3 | .stopping => 4

/-- PRS_STATUS_n. -/
def State.pressStatus (s : State) (n : Nat) : U64 :=
  let p := s.press (pressOf n)
  let st := if s.bitF (REP_PRESS.FENCED n) then 5 else p.mode.code
  let tag := match p.launch with | some k => k.2 | none => 0
  BitVec.ofNat 64 (st + 2 ^ 16 * (p.pc % 2048) + 2 ^ 32 * (tag % 2 ^ 32))

/-- The code of a galley's state. -/
def GalState.code : GalState → Nat
  | .normal => 0 | .discard => 1 | .disabled => 2

/-- GAL_COUNT_g and GAL_PKT_g. -/
def State.galShow (s : State) (g k : Nat) : Option U64 :=
  let x := s.gal ⟨g % 64, Nat.mod_lt _ (by decide)⟩
  if k = 0x00 then some (BitVec.ofNat 64 (x.words.length % 2 ^ 16 + 2 ^ 16 * (if x.stateShown then x.state.code else 0) + 2 ^ 32 * (x.pktIn % 2 ^ 32)))
  else if k = 0x08 then some (BitVec.ofNat 64 (x.pktOut % 2 ^ 32 + 2 ^ 32 * (x.pktDrop % 2 ^ 32)))
  else none

/-- The sequence that SCN_SEQ_SEL names. -/
def State.seqSel (s : State) : Nat := s.getF SCN_SEQ_SEL.SEL

/-- MiB of a count of bytes, at most what 32 bits hold. -/
def mib32 (n : Nat) : Nat := min (2 ^ 32 - 1) (n / 2 ^ 20)

/-- Registers of scene memory, run-ahead and the stock that show a view of the state. -/
def State.viewStock (s : State) (off : Nat) : Option U64 :=
  if off = SCN_GEOM then some (SCN_GEOM.GRAIN.put (s.reg off) s.grainBytes)
  else if off = SCN_POOL_FREE then some (BitVec.ofNat 64 s.grainsFree)
  else if off = SCN_SEQ_INFO then some (s.seqInfo s.seqSel)
  else if off = SCN_SEQ_CFG then some (BitVec.ofNat 64 (s.seq s.seqSel).fset)
  else if off = SCN_SWAP_BYTES then some (BitVec.ofNat 64 (mib32 s.scn.outBytes + 2 ^ 32 * mib32 s.scn.inBytes))
  else if off = RUN_PPT then some (BitVec.ofNat 64 (s.stk.ppt.length + 2 ^ 16 * s.run.pids.length))
  else if off = STK_FLAT then some (BitVec.ofNat 64 s.flatBytes)
  else if off = STK_FLASH then some (BitVec.ofNat 64 s.flashBytes)
  else if off = STK_SETS then some (BitVec.ofNat 64 s.cacheSets)
  else if off = STK_DIRTY then some (BitVec.ofNat 64 (s.keepDirty + 2 ^ 32 * s.dirty))
  else if off = STK_DIRTY_CFG then some (STK_DIRTY_CFG.HOLDUP_MS.put (s.reg off) s.holdupMs)
  else if off = RGS_POOL_CFG then some (RGS_POOL_CFG.FREE.put (s.reg off) s.bricksFree)
  else none

/-- Registers of the rings, galleys, sensors and presses that show a view of the state. -/
def State.viewBlocks (s : State) (off : Nat) : Option U64 :=
  if 0x4000 ≤ off ∧ off < 0x5000 then (if off % 0x40 = 0x28 then some (s.ringStatus (ringOf ((off - 0x4000) / 0x40))) else none)
  else if 0x6000 ≤ off ∧ off < 0x6800 then s.galShow ((off - 0x6000) / 0x20) (off % 0x20)
  else if 0x7000 ≤ off ∧ off < 0x8000 then s.dtlView off
  else if 0xA800 ≤ off ∧ off < 0xA9E0 then
    some (ING_SENSOR.ENABLED ((off - 0xA800) / 8) |>.put (s.reg off) (s.slotOn ((off - 0xA800) / 8)).toNat)
  else if 0x10000 ≤ off ∧ off < 0x20000 then
    let n := (off - 0x10000) / 0x1000
    let k := off % 0x1000
    if k = 0 then some (s.pressStatus n)
    else if k = 0x40 then some (BitVec.ofNat 64 (((s.press (pressOf n)).image.map (·.addr)).getD 0))
    else if k = 0x48 then some (BitVec.ofNat 64 (((s.press (pressOf n)).image.map (·.crc)).getD 0))
    else none
  else if off = PKG_THERM_STATUS then some (PKG_THERM_STATUS.ABOVE_WARN.put (s.reg off) s.aboveWarn.toNat)
  else s.viewStock off

/-- What a read of the register at an offset returns, without its effect. -/
def State.readReg (s : State) (off : Nat) : U64 := (s.viewBlocks off).getD (s.reg off)

/-- The value that an operation gives the host, taken for another reader. -/
def State.given (s s' : State) : U64 × State := (BitVec.ofNat 64 (leNat s'.bus.lastRead), s'.readBack s.bus.lastRead)

/-- A 64-bit read with its effect (R172, R202, R204, R259): the not-ready word before READY (R113). -/
def State.readWord (s : State) (off : Nat) : U64 × State :=
  if !s.ready && !inMkr off then (s.notReadyWord, s)
  else if 0x7300 ≤ off ∧ off < 0x7380 then s.given (s.evtRead (Fin.ofNat 16 ((off - 0x7300) / 8)))
  else if off = GAL_HOST_RX_DATA then
    if (s.gal 49).available then s.given (s.galHostRead .full) else (0, s.setF GAL_HOST_RX_FLAGS.VALID 0)
  else (s.readReg off, s)

/-! ### Writes (R14) -/

/-- A write of a register with no effect of its own: RW fields take the value, RWL fields until makeready completes, W1C fields are cleared
where it is 1 (R14, R115, Table SCP-3). -/
def State.plainWrite (s : State) (off : Nat) (v : U64) : State :=
  match regAt off with
  | none => s
  | some r =>
    let rw := kindMask (fun k => decide (k = .rw) || (decide (k = .rwl) && !s.ready)) r.fields
    let w1c := kindMask (fun k => decide (k = .w1c)) r.fields
    s.setReg off (storedWord off (((s.reg off &&& ~~~ rw) ||| (v &&& rw)) &&& ~~~ (v &&& w1c)))

/-- A plain write that leaves one field as it is. -/
def State.writeBut (s : State) (off : Nat) (v : U64) (f : Fld) : State := (s.plainWrite off v).setF f (s.getF f)

/-- The notice registers (R32 to R35). -/
def State.writeArc (s : State) (off : Nat) (v : U64) : State :=
  if off = ARC_NOTICE_STATUS ∨ off = ARC_NOTICE_MASK then (s.plainWrite off v).noticeResend else s.plainWrite off v

/-- The MKR block (R123, R124). -/
def State.writeMkr (s : State) (off : Nat) (v : U64) (cause : Nat) (srOk : Bool) : State :=
  if off = MKR_RESET_CTRL then s.resetCtrl v cause srOk
  else if off = MKR_REC_CMD then (if MKR_REC_CMD.OP.get v = 0 then s else s.recStart (MKR_REC_CMD.OP.get v))
  else s.plainWrite off v

/-- The package block: a lower ceiling is in force at once (R85, R785). -/
def State.writePkg (s : State) (off : Nat) (v : U64) : State :=
  if off = PKG_DVFS_CTRL then (s.plainWrite off v).ceilApply else s.plainWrite off v

/-- HST_RING_CTRL_n: ENABLE, then DRAIN with FLUSH (R167). -/
def State.ringCtrl (s : State) (r : Ring) (v : U64) : State :=
  let s := if v.getLsbD 0 then s.ringEnable r else s
  if v.getLsbD 1 then s.ringDrain r (v.getLsbD 2) else s

/-- The HST block (R146, R147, R168, R173). -/
def State.writeHst (s : State) (off : Nat) (v : U64) : State :=
  if off < 0x5000 then
    let r := ringOf ((off - 0x4000) / 0x40)
    let k := off % 0x40
    if k = 0x20 then s.ringCtrl r v
    else if k < 0x18 then (if (s.ring r).state = .disabled then s.plainWrite off v else s)
    else s.plainWrite off v
  else if off < 0x5200 then let r := ringOf ((off - 0x5000) / 8); s.sqDoorbell r ((HST_SQ_DB.TAIL r.val).get v)
  else if off < 0x5400 then let r := ringOf ((off - 0x5200) / 8); s.cqDoorbell r ((HST_CQ_DB.HEAD r.val).get v)
  else s.plainWrite off v

/-- The GAL block (R192, R200, R201). -/
def State.writeGal (s : State) (off : Nat) (v : U64) : State :=
  if off = GAL_HOST_TX_DATA then s.galHostPush v false
  else if off = GAL_HOST_TX_LAST then s.galHostPush v true
  else if off < 0x6800 ∧ off % 0x20 = 0x10 then
    let g := (off - 0x6000) / 0x20
    if v.getLsbD 0 && decide (galDepth g ≠ 0) then s.galFlush ⟨g % 64, Nat.mod_lt _ (by decide)⟩ else s
  else s.plainWrite off v

/-- DTL_CTRL (R237 to R239). A write with both UNSET and SET returns to UNSET first (DESIGN CHOICE; log entry 32). -/
def State.dtlCtrl (s : State) (v : U64) : State :=
  let s := if v.getLsbD 2 then s.unset else s
  if v.getLsbD 0 then (if v.getLsbD 1 then s.setAtPps else s.setNow) else s

/-- DTL_SEL_CFG: a reference that is no longer enabled is lost (R242). -/
def State.writeSelCfg (s : State) (v : U64) : State :=
  let gone := (List.range 3).filter (fun r => s.refState r ≠ rsAbsent && !(DTL_SEL_CFG.REF_EN.get v).testBit r)
  gone.foldl State.refLose (s.plainWrite DTL_SEL_CFG v)

/-- The DTL block (R225 to R239, R268, R277). -/
def State.writeDtl (s : State) (off : Nat) (v : U64) : State :=
  if off = DTL_RATE then s.writeRate v.toNat
  else if off = DTL_CAPTURE then (if v.getLsbD 0 then s.capture else s)
  else if off = DTL_CTRL then s.dtlCtrl v
  else if off = DTL_SLEW then s.writeSlew v.toNat
  else if off = DTL_SLEW_CFG then (s.plainWrite off v).setSlew (fun x => x)
  else if off = DTL_SEL_CFG then s.writeSelCfg v
  else if off = DTL_PPS_OUT then (s.plainWrite off v).ppsGate
  else if off = DTL_EPOCH_CFG then s.writeEpochCfg v
  else if off = DTL_EPOCH_START_S ∨ off = DTL_EPOCH_START_NS ∨ off = DTL_EPOCH_FIRST then
    (if s.bitF DTL_EPOCH_CFG.EN then s else s.plainWrite off v)
  else if off = DTL_CONV_COUNT then s.convert v.toNat
  else s.plainWrite off v

/-- The PTP block (R306, R307). -/
def State.writePtp (s : State) (off : Nat) (v : U64) : State :=
  if off < 0x8400 then
    let p : EthPort := Fin.ofNat 4 ((off - 0x8000) / 0x100)
    if off % 0x100 = 0 then s.writePtpCfg p v
    else if s.bitF (PTP_PORT_CFG.PORT_EN p) then s
    else s.plainWrite off v
  else
    let q := (off - 0x8400) / 0x40
    if s.bitF (PTP_PORT_CFG.PORT_EN (2 * q)) || s.bitF (PTP_PORT_CFG.PORT_EN (2 * q + 1)) then s else s.plainWrite off v

/-- The register that enables a sensor port, and the port, by the offset of any of its configuration registers (R330, R361). -/
def ingOwner (off : Nat) : Option IngPort :=
  if off < 0xA200 then some (.cam (Fin.ofNat 8 ((off - 0xA000) / 0x40)))
  else if off < 0xA300 then some (.enc (Fin.ofNat 4 ((off - 0xA200) / 0x20)))
  else if off < 0xA600 then some (.imu (Fin.ofNat 2 ((off - 0xA300) / 0x100)))
  else if off < 0xA700 then some (.eth (Fin.ofNat 4 ((off - 0xA600) / 0x40)))
  else if 0xB000 ≤ off then some (.eth (Fin.ofNat 4 ((off - 0xB000) / 0x400)))
  else none

/-- A write of a port's own configuration register: with EN = 1 only EN is taken (R361). -/
def State.writeIngCfg (s : State) (p : IngPort) (off : Nat) (v : U64) : State :=
  let en := v.getLsbD 0
  if s.bitF (ingEn p) then (if en then s else s.ingDisable p)
  else
    let s := s.writeBut off v (ingEn p)
    if en then s.ingEnable p else s

/-- The ING block (R330, R361). -/
def State.writeIng (s : State) (off : Nat) (v : U64) : State :=
  if off = ING_MDIO then s.mdioStart (ING_MDIO.OP.get v) v
  else
    match ingOwner off with
    | none => s.plainWrite off v
    | some p =>
      if off = (ingEn p).off then s.writeIngCfg p off v
      else if s.bitF (ingEn p) then s
      else s.plainWrite off v

/-- The RGS block (R380, R410, R422). -/
def State.writeRgs (s : State) (off : Nat) (v : U64) : State :=
  if off = RGS_GRID_CFG then
    let s := if s.bitF RGS_GRID_CFG.GRID_EN then s else s.writeBut off v RGS_GRID_CFG.GRID_EN
    if v.getLsbD 63 then s.gridEnable else s.setF RGS_GRID_CFG.GRID_EN 0
  else if RGS_ORIGIN_XY ≤ off ∧ off ≤ RGS_DIRTY_BASE then (if s.bitF RGS_GRID_CFG.GRID_EN then s else s.plainWrite off v)
  else if off = RGS_CAL_CTRL then (if v.getLsbD 0 then s.calLoad else s)
  else if off = RGS_SCREEN_CTRL then (if v.getLsbD 0 then s.reseed else s)
  else s.plainWrite off v

/-- The PRS blocks (R17, R473, R760): on a fenced press only CLEAR takes effect. -/
def State.writePrs (s : State) (off : Nat) (v : U64) : State :=
  let n := (off - 0x10000) / 0x1000
  if off % 0x1000 = 0x80 then
    let s := if v.getLsbD 0 then s.prsClear n else s
    if v.getLsbD 1 then s.prsDropImage (pressOf n) else s
  else if s.bitF (REP_PRESS.FENCED n) then s
  else s.plainWrite off v

/-- The SCN block (R534, R584). -/
def State.writeScn (s : State) (off : Nat) (v : U64) : State :=
  if [SCN_GEOM, SCN_POOL_BASE, SCN_POOL_CFG, SCN_LIST_BASE, SCN_INDEX_BASE].contains off then
    (if s.seqsInUse then s else s.plainWrite off v)
  else if off = SCN_SEQ_CFG then s.setSeq s.seqSel { s.seq s.seqSel with fset := SCN_SEQ_CFG.FSET.get v }
  else s.plainWrite off v

/-- A launch that uses profile k is undecided (R608). -/
def State.profileBusy (s : State) (k : Nat) : Bool :=
  s.launches.any (fun l => l.provStart && !l.ownDone && decide (s.profileOf l.ring = k))

/-- The RUN block. -/
def State.writeRun (s : State) (off : Nat) (v : U64) : State :=
  if off < 0x21100 ∧ s.profileBusy ((off - 0x21000) / 0x20) then s else s.plainWrite off v

/-! ### Proxy control (R650 to R654) -/

def proxyRead : Nat := 1
def proxyWrite : Nat := 2

/-- The operation under way ends. -/
def State.proxyEnd (s : State) (err : Bool) : State :=
  ((s.setChn { s.chn with proxy := none }).setF CHN_PROXY_CMD.BUSY 0).setF CHN_PROXY_CMD.ERR err.toNat

/-- OP of CHN_PROXY_CMD sends one REG_READ or REG_WRITE; a target that no route reaches is an error at once (R644, R651). -/
def State.proxyStart (s : State) (op : Nat) : State :=
  let u := s.getF CHN_PROXY_TARGET.UNIT
  if s.bitF CHN_PROXY_CMD.BUSY || !s.bitF CHN_ID.ROOT || !(decide (op = proxyRead) || decide (op = proxyWrite)) then s
  else
    let m : Msg := { op := if op = proxyRead then opRegRead else opRegWrite, src := s.unit, dst := u, tag := s.chn.nextTag,
                     addr := s.getF CHN_PROXY_TARGET.OFFSET / 8 * 8, len := 8,
                     inline := if op = proxyWrite then leBytes 8 (s.reg CHN_PROXY_DATA).toNat else [] }
    let s := s.setChn { s.chn with nextTag := (s.chn.nextTag + 1) % 65536, proxy := some m }
    let s := (s.setF CHN_PROXY_CMD.BUSY 1).setF CHN_PROXY_CMD.ERR 0
    if s.reachable u then s.inject m else s.proxyEnd true

/-- A write of CHN_PROXY_IRQ_u leaves a bit set: a message goes out as for notices (R34, R654). -/
def State.proxyIrqWrite (s : State) (u : Nat) (v : U64) : State :=
  let s := s.plainWrite (CHN_PROXY_IRQ u) v
  if s.reg (CHN_PROXY_IRQ u) = 0 then s else s.msixLocal (s.getF CHN_PROXY_VEC.PROXY_VEC)

/-- The CHN block (R650 to R659). -/
def State.writeChn (s : State) (off : Nat) (v : U64) : State :=
  if off = CHN_PORT_CFG 0 then (s.plainWrite off v).forceRate 0
  else if off = CHN_PORT_CFG 1 then (s.plainWrite off v).forceRate 1
  else if off = CHN_PROXY_CMD then (if CHN_PROXY_CMD.OP.get v = 0 then s else s.proxyStart (CHN_PROXY_CMD.OP.get v))
  else if 0x22280 ≤ off ∧ off < 0x22300 then s.proxyIrqWrite ((off - 0x22280) / 8) v
  else s.plainWrite off v

/-! ### The other blocks -/

/-- A write of a partition entry: a guard partition that is enabled, or enabled elsewhere, is initialised (R680, R718). -/
def State.writePart (s : State) (k off : Nat) (v : U64) : State :=
  let s' := s.plainWrite off v
  if s'.inlineEcc (s'.part k) && !(s.inlineEcc (s.part k) && decide (s.part k = s'.part k)) then s'.eccInitStart (2 ^ k) else s'

/-- A write of STK_PIN_CFG_r: a range that is enabled, changed or disabled (R689 to R692). -/
def State.writePin (s : State) (r : Nat) (v : U64) : State :=
  let s := if s.bitF (STK_PIN_CFG.EN r) then s.pinDisable r else s
  let s := s.writeBut (STK_PIN_CFG r) v (STK_PIN_CFG.EN r)
  if (STK_PIN_CFG.EN r).get v = 1 then s.pinEnable r else s

/-- The STK block (R680, R689, R708, R718). -/
def State.writeStk (s : State) (off : Nat) (v : U64) : State :=
  if 0x23040 ≤ off ∧ off < 0x230C0 then s.writePart ((off - 0x23040) / 0x10) off v
  else if 0x23500 ≤ off ∧ off < 0x23600 ∧ off % 0x10 = 8 then s.writePin ((off - 0x23500) / 0x10) v
  else s.plainWrite off v

/-- The GRD block (R710, R737). -/
def State.writeGrd (s : State) (off : Nat) (v : U64) : State :=
  if 0x24020 ≤ off ∧ off < 0x24040 then s.pairWrite ((off - 0x24020) / 8) v
  else if off = GRD_CTRL then (if v.getLsbD 0 && decide (GRD_CTRL.KEY.get v = 0xC3) then s.guardRearm else s)
  else s.plainWrite off v

/-- REP_CTRL (R750, R755, R759). -/
def State.repCtrl (s : State) (v : U64) : State :=
  let mask := REP_CTRL.BIST_MASK.get v
  let s := (List.finRange 16).foldl (fun s n =>
    if mask.testBit n.val && s.pressOn n.val then s.modBist n (fun x => { x with host := true }) else s) s
  let s := if REP_CTRL.FENCE_NOW.get v = 1 && repKey v then s.fencePress (REP_CTRL.FENCE_PRESS.get v) fcHost else s
  if REP_CTRL.CLEAR_SOFT.get v = 1 && repKey v then (s.setRep { s.rep with soft := [] }).softWrite [] else s

/-- REP_PAIR_CFG: with EN = 1 only EN is taken; EN = 0 ends a demotion; the host cannot write TAKEN_OVER (R776, R778, R813). -/
def State.writePair (s : State) (v : U64) : State :=
  let en := REP_PAIR_CFG.EN.get v = 1
  let role := s.getF REP_PAIR_CFG.ROLE
  let s :=
    if s.bitF REP_PAIR_CFG.EN then s.setF REP_PAIR_CFG.EN (REP_PAIR_CFG.EN.get v)
    else
      let s := s.plainWrite REP_PAIR_CFG v
      if REP_PAIR_CFG.ROLE.get v = roleTaken then s.setF REP_PAIR_CFG.ROLE role else s
  if en then s else s.setRep { s.rep with demoted := false, heard := none, taking := none }

/-- The REP block (R767, R773, R778). -/
def State.writeRep (s : State) (off : Nat) (v : U64) : State :=
  if off = REP_CTRL then s.repCtrl v
  else if off = REP_PAIR_CFG then s.writePair v
  else if off = REP_CKPT_CTRL then
    let s := s.plainWrite off v
    if v.getLsbD 0 then s.ckptStart else s
  else if off = REP_ADOPT then (if v.getLsbD 0 then s.adoptGo else s)
  else if [REP_SLOT_A, REP_SLOT_B, REP_SLOT_SIZE].contains off ∨ 0x25300 ≤ off then
    (if s.bitF REP_PAIR_CFG.EN then s else s.plainWrite off v)
  else s.plainWrite off v

/-- The DBG block (R792). -/
def State.writeDbg (s : State) (off : Nat) (v : U64) : State :=
  if off = DBG_FREEZE_CTRL then s.freezeWrite v else s.plainWrite off v

/-- A write of the register at an offset, by the block it lies in (Table SCP-5). An offset of no block is reserved (R16). -/
def State.writeReg (s : State) (off : Nat) (v : U64) (cause : Nat) (srOk : Bool) : State :=
  if off < 0x1000 then s.writeArc off v
  else if off < 0x2000 then s.writeMkr off v cause srOk
  else if off < 0x4000 then s.writePkg off v
  else if off < 0x6000 then s.writeHst off v
  else if off < 0x7000 then s.writeGal off v
  else if off < 0x8000 then s.writeDtl off v
  else if off < 0xA000 then s.writePtp off v
  else if off < 0xC000 then s.writeIng off v
  else if off < 0x10000 then s.writeRgs off v
  else if off < 0x20000 then s.writePrs off v
  else if off < 0x21000 then s.writeScn off v
  else if off < 0x22000 then s.writeRun off v
  else if off < 0x23000 then s.writeChn off v
  else if off < 0x24000 then s.writeStk off v
  else if off < 0x25000 then s.writeGrd off v
  else if off < 0x26000 then s.writeRep off v
  else if off < 0x27000 then s.writeDbg off v
  else s

/-- A write of a register in one of its forms, if the engine takes it now: before READY only the MKR block is written (R114, R115). -/
def State.hostWrite (s : State) (off : Nat) (half : Half) (v : U64) (cause : Nat) (srOk : Bool) : State :=
  if off % 8 ≠ 0 ∨ (!s.ready && !inMkr off) ∨ (regAt off).isNone then s
  else
    match s.writeWord off half v with
    | none => s.keepHalf off v
    | some w => s.writeReg off w cause srOk

/-! ### BAR2 (R127 to R129, R605) -/

/-- The stock address of a BAR2 offset. -/
def State.bar2Addr (s : State) (x : Nat) : Nat := (s.reg HST_BAR2_MAP).toNat / 2 ^ s.bus.bar2Log2 * 2 ^ s.bus.bar2Log2 + x

/-- An access through BAR2: class OPERATIONAL, the unit's own ID (R678). -/
def State.bar2Req (s : State) (x : Nat) (op : AccessOp) : StkReq :=
  { src := s.unit, agent := agentHost, cls := 1, op := op, addr := s.bar2Addr x }

/-- All ones, in n bytes. -/
def allOnes (n : Nat) : List Byte := List.replicate n 0xFF

/-- A read that is forbidden, or whose home no route reaches. -/
def State.bar2Fail (s : State) (n : Nat) : State := (s.incSat HST_BAR2_ERR.FAILED_READS).readBack (allOnes n)

/-- A BAR2 read. The bytes of a poisoned line are not told (log entry 29). -/
def State.bar2Read (s : State) (x n : Nat) : State :=
  if !s.ready then s.readBack (allOnes n)
  else if !(s.pptHolders none (s.bar2Addr x) n).isEmpty then s.bar2Fail n
  else
    match s.stkDo (s.bar2Req x (.read n)) with
    | (a, s) =>
      match a.status with
      | .ok => s.readBack a.data
      | .wait => s
      | .poison => let f := s.freeBytes n; f.2.readBack f.1
      | _ => s.bar2Fail n

/-- A BAR2 write. -/
def State.bar2Write (s : State) (x : Nat) (bs : List Byte) : State :=
  if s.pptForeign none (s.bar2Addr x) bs.length then s.incSat HST_BAR2_ERR.DROPPED_WRITES
  else
    match s.stkDo (s.bar2Req x (.write bs)) with
    | (a, s) =>
      match a.status with
      | .denied _ => s.incSat HST_BAR2_ERR.DROPPED_WRITES
      | .down _ => s.incSat HST_BAR2_ERR.DROPPED_WRITES
      | _ => s

/-! ### Meanings -/

/-- REGISTER_WRITE (R13, R14, R111, R114, R115). -/
def execRegisterWrite (t : Tick) (off : Nat) (half : Half) (v : U64) (s : State) : Result :=
  s.live (if inPcie off then (s.at t).pcieWrite off half v else (s.at t).hostWrite off half v 4 true)

/-- BAR0_BAD_ACCESS (R12): a write is ignored, a read returns all ones. -/
def execBar0BadAccess (write : Bool) (_off size : Nat) (s : State) : Result :=
  s.live (if write then s else s.readBack (allOnes size))

/-- ARC_NOTICE_STATUS_WRITE (R34). -/
def execArcNoticeStatusWrite (v : U64) (s : State) : Result := s.host (s.writeArc ARC_NOTICE_STATUS v)

/-- ARC_NOTICE_MASK_WRITE (R34). -/
def execArcNoticeMaskWrite (v : U64) (s : State) : Result := s.host (s.writeArc ARC_NOTICE_MASK v)

/-- BAR2_READ (R114, R127, R129, R605). -/
def execBar2Read (x n : Nat) (s : State) : Result := s.live (s.bar2Read x n)

/-- BAR2_WRITE (R114, R127, R128, R605). -/
def execBar2Write (t : Tick) (x : Nat) (data : List Byte) (s : State) : Result := s.host ((s.at t).bar2Write x data)

/-- PROXY_READ (R651). -/
def execProxyRead (s : State) : Result := s.host (s.proxyStart proxyRead)

/-- PROXY_WRITE (R651). -/
def execProxyWrite (s : State) : Result := s.host (s.proxyStart proxyWrite)

/-- PROXY_TIMEOUT (R651). -/
def execProxyTimeout (s : State) : Result := s.live (if s.chn.proxy.isSome then s.proxyEnd true else s)

/-- CHN_PROXY_IRQ_WRITE (R654). -/
def execChnProxyIrqWrite (u : UnitId) (v : U64) (s : State) : Result := s.host (s.proxyIrqWrite u.val v)

end Sys2Proof.Machine
end

