-- ==== Sys2Proof/Machine/ChainControl.lean ====
section
/-!
DEFINITION. What the chain does to lanes, to folds and to another unit's registers (R614, R625, R627, R641 to R644, R650 to R654, R657).
What the text leaves open is in log entry 30.
-/

namespace Sys2Proof.Machine

/-! ### Spare lanes and rate changes (R614, R657) -/

/-- The symbols that the FEC corrected on a lane are counted, and the worst lane is shown (Table CHN-8). -/
def State.laneCount (s : State) (d : Port) (r : LaneReport) : State :=
  let s := s.incSat (CHN_PORT_FEC.CORRECTED d) r.symbols
  if s.getF (CHN_PORT_LANE.SYMBOLS d) ≤ r.symbols ∨ s.getF (CHN_PORT_LANE.WORST_LANE d) = r.lane then
    (s.setF (CHN_PORT_LANE.WORST_LANE d) r.lane).setF (CHN_PORT_LANE.SYMBOLS d) (min (2 ^ 32 - 1) r.symbols)
  else s

/-- The lane is above LANE_LIMIT, or has lost lock. -/
def State.laneBad (s : State) (d : Port) (r : LaneReport) : Bool := r.lost || decide (s.getF (CHN_PORT_CFG.LANE_LIMIT d) < r.symbols)

/-- A lane of a port fails (R614, R757): its traffic moves to the spare, or the port goes down. -/
def State.laneFail (s : State) (d : Port) (lane : Nat) : State :=
  if s.getF (CHN_PORT_STAT.STATE d) ≠ psUp ∧ s.getF (CHN_PORT_STAT.STATE d) ≠ psRetrain then s
  else if s.bitF (CHN_PORT_STAT.SPARE_USED d) then s.portFold d
  else
    let x : Repair := { kind := rkLane, unit := d.val, a := lane }
    let s := s.setPort d { s.port d with held := true }
    let s := (s.setF (CHN_PORT_STAT.SPARE_USED d) 1).setF (CHN_PORT_STAT.SPARED_LANE d) lane
    let s := ((s.addRepair x).softAdd x).incSat REP_STATUS.REPAIRS
    s.raiseAll [.laneErr, .repairDone]

/-- A retraining ends (R657). -/
def State.retrainEnd (s : State) (d : Port) (ok : Bool) : State :=
  if s.getF (CHN_PORT_STAT.STATE d) ≠ psRetrain then s
  else if ok then (s.setF (CHN_PORT_STAT.STATE d) psUp).setF (CHN_PORT_STAT.RATE d) (s.port d).goal
  else s.portFold d

/-! ### Replay (R625, R627) -/

/-- Flits of a sent message that lie at or after a SEQ. -/
def Sent.from (e : Sent) (nak : Nat) : Nat :=
  let n := msgFlits e.msg
  if seqCovered nak e.seq then n
  else
    let past := (nak + 1024 - e.seq % 1024) % 1024
    if past < n then n - past else 0

/-- A NAK makes the port resend every flit from NAK_SEQ on; one that was already resent 8 times takes the port down. -/
def State.nakTake (s : State) (d : Port) (nak : Nat) : State :=
  if !s.portUp d then s
  else
    let x := s.port d
    if x.replay.any (fun e => decide (e.from nak ≠ 0) && decide (8 ≤ e.resends)) then s.portFold d
    else
      let n := (x.replay.map (fun e => e.from nak)).sum
      let s := s.setPort d { x with replay := x.replay.map (fun e => if e.from nak = 0 then e else { e with resends := e.resends + 1 }) }
      (s.incSat (CHN_PORT_ERR.REPLAYS d) n).incWrap (CHN_PORT_TX.FLITS d) n

/-! ### Folds (R600, R641) -/

/-- Undecided identities of the units that a fold cut off count as retracted (R600). -/
def State.dropLost (s : State) : State := s.lostUnits.foldl State.pidOwnerLost s

/-- A port of this unit goes down. -/
def State.portDown (s : State) (d : Port) : State := (s.portFold d).dropLost

/-- FOLD arrives: this unit goes over to line routing. -/
def State.foldSeen (s : State) (u : Nat) (d : Port) : State := (s.linkCut u d).dropLost

/-! ### Proxy control (R650 to R652, R654) -/

/-- REG_RESULT for a proxy request. -/
def State.regAnswer (s : State) (m : Msg) (v : U64) : State :=
  s.inject { op := opRegResult, src := s.unit, dst := m.src, tag := m.tag, addr := m.addr, len := 8, inline := leBytes 8 v.toNat }

/-- REG_READ at the target: a read returns what a local one would. -/
def State.regRead (s : State) (m : Msg) : State :=
  match s.readWord m.addr with
  | (v, s) => s.regAnswer m v

/-- REG_WRITE at the target: its answer is made first, so that a reset that the write starts drops it with the links. -/
def State.regWrite (s : State) (m : Msg) (srOk : Bool) : State :=
  (s.regAnswer m 0).hostWrite m.addr .full (BitVec.ofNat 64 (leAt m.inline 0 8)) 6 srOk

/-- REG_RESULT at the root. -/
def State.regResult (s : State) (m : Msg) : State :=
  match s.chn.proxy with
  | none => s
  | some q =>
    if q.tag ≠ m.tag ∨ q.dst ≠ m.src then s
    else
      let s := s.proxyEnd false
      if q.op = opRegRead then s.setReg CHN_PROXY_DATA (BitVec.ofNat 64 (leAt m.inline 0 8)) else s

/-- IRQ_FWD at the root: a bit that goes from 0 to 1 sends one message on PROXY_VEC (R33, R654). -/
def State.irqForwarded (s : State) (u vec : Nat) : State :=
  if !s.bitF CHN_ID.ROOT then s
  else
    let old := s.reg (CHN_PROXY_IRQ u)
    let s := s.setReg (CHN_PROXY_IRQ u) (old ||| (1#64 <<< vec))
    if old.getLsbD vec then s else s.msixLocal (s.getF CHN_PROXY_VEC.PROXY_VEC)

/-! ### Meanings -/

/-- LANE_SPARE (R614). -/
def execLaneSpare (d : Port) (r : LaneReport) (s : State) : Result :=
  s.live (let s := s.laneCount d r
    if s.laneBad d r then (s.laneFail d r.lane).dropLost else s)

/-- LANE_SPARE_SWAP_DONE (R614): the port's held traffic goes on. -/
def execLaneSpareSwapDone (d : Port) (s : State) : Result := s.live (s.setPort d { s.port d with held := false })

/-- LINK_NAK (R625, R627). -/
def execLinkNak (d : Port) (seq : Nat) (s : State) : Result := s.live ((s.nakTake d seq).dropLost)

/-- CHAIN_PORT_DOWN (R641, R642). -/
def execChainPortDown (d : Port) (s : State) : Result := s.live (s.portDown d)

/-- FOLD (R641). -/
def execFold (u : UnitId) (d : Port) (s : State) : Result := s.live (s.foldSeen u.val d)

/-- REG_READ (R650, R651). -/
def execRegRead (m : Msg) (s : State) : Result := s.live (s.regRead m)

/-- REG_WRITE (R650, R652). -/
def execRegWrite (t : Tick) (m : Msg) (srOk : Bool) (s : State) : Result := s.live ((s.at t).regWrite m srOk)

/-- REG_RESULT (R651). -/
def execRegResult (m : Msg) (s : State) : Result := s.live (s.regResult m)

/-- IRQ_FWD (R654). -/
def execIrqFwd (u : UnitId) (vec : Fin 64) (s : State) : Result := s.live (s.irqForwarded u.val vec.val)

/-- RETRAIN_DONE (R657). -/
def execRetrainDone (d : Port) (ok : Bool) (s : State) : Result := s.live ((s.retrainEnd d ok).dropLost)

end Sys2Proof.Machine
end

