-- ==== Sys2Proof/Machine/Dispatch.lean ====
section
/-!
DEFINITION. The command dispatch: one arm for each constructor of Instr, each a direct call of its meaning.
-/

namespace Sys2Proof.Machine

/-- The effect of a command on everything but the queue. -/
def exec (i : Instr) (s : State) : Host.Outcome State Fault Refusal :=
  match i with
  | .registerWrite t off half v => Sys2Proof.Machine.execRegisterWrite t off half v s
  | .bar0BadAccess write off size => Sys2Proof.Machine.execBar0BadAccess write off size s
  | .arcNoticeStatusWrite v => Sys2Proof.Machine.execArcNoticeStatusWrite v s
  | .arcNoticeMaskWrite v => Sys2Proof.Machine.execArcNoticeMaskWrite v s
  | .aonPowerOn => Sys2Proof.Machine.execAonPowerOn s
  | .boardReset => Sys2Proof.Machine.execBoardReset s
  | .resetNRise root addr0 addr1 => Sys2Proof.Machine.execResetNRise root addr0 addr1 s
  | .watchdogExpire => Sys2Proof.Machine.execWatchdogExpire s
  | .warmReset v srOk => Sys2Proof.Machine.execWarmReset v srOk s
  | .smbusWarmReset srOk => Sys2Proof.Machine.execSmbusWarmReset srOk s
  | .pcieReset perst => Sys2Proof.Machine.execPcieReset perst s
  | .perstNRise => Sys2Proof.Machine.execPerstNRise s
  | .pcieLinkUp => Sys2Proof.Machine.execPcieLinkUp s
  | .romPhase us => Sys2Proof.Machine.execRomPhase us s
  | .otpPhase us checkOk => Sys2Proof.Machine.execOtpPhase us checkOk s
  | .fwLoad us readOk => Sys2Proof.Machine.execFwLoad us readOk s
  | .fwVerify us => Sys2Proof.Machine.execFwVerify us s
  | .configPhase us => Sys2Proof.Machine.execConfigPhase us s
  | .bistRepairPhase us faults => Sys2Proof.Machine.execBistRepairPhase us faults s
  | .trainDram us ok => Sys2Proof.Machine.execTrainDram us ok s
  | .trainFlash us ok => Sys2Proof.Machine.execTrainFlash us ok s
  | .journalReplay us => Sys2Proof.Machine.execJournalReplay us s
  | .serdesPhase us ok => Sys2Proof.Machine.execSerdesPhase us ok s
  | .enumPhase => Sys2Proof.Machine.execEnumPhase s
  | .enumWaitExpire us => Sys2Proof.Machine.execEnumWaitExpire us s
  | .makereadyReady readyUs => Sys2Proof.Machine.execMakereadyReady readyUs s
  | .chainRecordRewrite => Sys2Proof.Machine.execChainRecordRewrite s
  | .recRead => Sys2Proof.Machine.execRecRead s
  | .recProgram => Sys2Proof.Machine.execRecProgram s
  | .recErase => Sys2Proof.Machine.execRecErase s
  | .recOpDone ok => Sys2Proof.Machine.execRecOpDone ok s
  | .vddCoreBelowWarn t mv => Sys2Proof.Machine.execVddCoreBelowWarn t mv s
  | .supplyWarnAssert t mv => Sys2Proof.Machine.execSupplyWarnAssert t mv s
  | .vddCoreAboveClear t mv => Sys2Proof.Machine.execVddCoreAboveClear t mv s
  | .supplyWarnClear t => Sys2Proof.Machine.execSupplyWarnClear t s
  | .supplyReset t => Sys2Proof.Machine.execSupplyReset t s
  | .dvfsStepUp p => Sys2Proof.Machine.execDvfsStepUp p s
  | .dvfsSettleExpire => Sys2Proof.Machine.execDvfsSettleExpire s
  | .dvfsStepDown p => Sys2Proof.Machine.execDvfsStepDown p s
  | .pfailAssert t => Sys2Proof.Machine.execPfailAssert t s
  | .pfailFlushDone us => Sys2Proof.Machine.execPfailFlushDone us s
  | .thermalSample temps => Sys2Proof.Machine.execThermalSample temps s
  | .thermalStepDown => Sys2Proof.Machine.execThermalStepDown s
  | .thermalStepUp => Sys2Proof.Machine.execThermalStepUp s
  | .bar2Read x n => Sys2Proof.Machine.execBar2Read x n s
  | .bar2Write t x data => Sys2Proof.Machine.execBar2Write t x data s
  | .hstSqDbWrite r v => Sys2Proof.Machine.execHstSqDbWrite r v s
  | .hstCqDbWrite r v => Sys2Proof.Machine.execHstCqDbWrite r v s
  | .descriptorFetch r ok => Sys2Proof.Machine.execDescriptorFetch r ok s
  | .nop r slot => Sys2Proof.Machine.execNop r slot s
  | .netLaunch r slot => Sys2Proof.Machine.execNetLaunch r slot s
  | .netLaunchStart t r slot => Sys2Proof.Machine.execNetLaunchStart t r slot s
  | .copy t r slot => Sys2Proof.Machine.execCopy t r slot s
  | .folioAlloc r slot => Sys2Proof.Machine.execFolioAlloc r slot s
  | .folioFree r slot => Sys2Proof.Machine.execFolioFree r slot s
  | .folioSwapOut r slot => Sys2Proof.Machine.execFolioSwapOut r slot s
  | .folioSwapIn r slot => Sys2Proof.Machine.execFolioSwapIn r slot s
  | .swapOutDone q => Sys2Proof.Machine.execSwapOutDone q s
  | .swapInDone q => Sys2Proof.Machine.execSwapInDone q s
  | .poolRead t r slot => Sys2Proof.Machine.execPoolRead t r slot s
  | .poolWrite t r slot => Sys2Proof.Machine.execPoolWrite t r slot s
  | .poolAtomic t r slot => Sys2Proof.Machine.execPoolAtomic t r slot s
  | .trgSched t r slot => Sys2Proof.Machine.execTrgSched t r slot s
  | .trgSchedPlace t r slot => Sys2Proof.Machine.execTrgSchedPlace t r slot s
  | .epochMark t r slot => Sys2Proof.Machine.execEpochMark t r slot s
  | .fence r slot => Sys2Proof.Machine.execFence r slot s
  | .launchTimeout r slot => Sys2Proof.Machine.execLaunchTimeout r slot s
  | .completionWrite t r ok => Sys2Proof.Machine.execCompletionWrite t r ok s
  | .coalTimerExpire r => Sys2Proof.Machine.execCoalTimerExpire r s
  | .ringEnable r => Sys2Proof.Machine.execRingEnable r s
  | .ringDrain r => Sys2Proof.Machine.execRingDrain r s
  | .ringDrainFlush r => Sys2Proof.Machine.execRingDrainFlush r s
  | .ringDrainDone r => Sys2Proof.Machine.execRingDrainDone r s
  | .galleyPush g w endMark => Sys2Proof.Machine.execGalleyPush g w endMark s
  | .galleyPop g ecc => Sys2Proof.Machine.execGalleyPop g ecc s
  | .galleyAbandon g => Sys2Proof.Machine.execGalleyAbandon g s
  | .galleyFlush g => Sys2Proof.Machine.execGalleyFlush g s
  | .galleyFaultReset g readSide => Sys2Proof.Machine.execGalleyFaultReset g readSide s
  | .galHostTxData v => Sys2Proof.Machine.execGalHostTxData v s
  | .galHostTxLast v => Sys2Proof.Machine.execGalHostTxLast v s
  | .galHostRxData form => Sys2Proof.Machine.execGalHostRxData form s
  | .hostRxEmptyTimeout => Sys2Proof.Machine.execHostRxEmptyTimeout s
  | .gutterTransfer x w ecc => Sys2Proof.Machine.execGutterTransfer x w ecc s
  | .togglePulse x acked => Sys2Proof.Machine.execTogglePulse x acked s
  | .dtlCapture t v => Sys2Proof.Machine.execDtlCapture t v s
  | .dtlRateWrite t v => Sys2Proof.Machine.execDtlRateWrite t v s
  | .dtlSlewWrite t v => Sys2Proof.Machine.execDtlSlewWrite t v s
  | .dtlSet t => Sys2Proof.Machine.execDtlSet t s
  | .dtlSetAtPps => Sys2Proof.Machine.execDtlSetAtPps s
  | .dtlUnset t => Sys2Proof.Machine.execDtlUnset t s
  | .ppsInEdge t sub => Sys2Proof.Machine.execPpsInEdge t sub s
  | .refSample t r theta => Sys2Proof.Machine.execRefSample t r theta s
  | .refLossTimeout t r => Sys2Proof.Machine.execRefLossTimeout t r s
  | .refHoldoffExpire t r => Sys2Proof.Machine.execRefHoldoffExpire t r s
  | .switchCommit t => Sys2Proof.Machine.execSwitchCommit t s
  | .ppsOutRise t => Sys2Proof.Machine.execPpsOutRise t s
  | .ppsOutFall t => Sys2Proof.Machine.execPpsOutFall t s
  | .evtEdge t n rise sub => Sys2Proof.Machine.execEvtEdge t n rise sub s
  | .dtlEvtRead n => Sys2Proof.Machine.execDtlEvtRead n s
  | .trgEdge t n => Sys2Proof.Machine.execTrgEdge t n s
  | .epochClockEnable t v => Sys2Proof.Machine.execEpochClockEnable t v s
  | .epochOpen t => Sys2Proof.Machine.execEpochOpen t s
  | .aonTimeRecord t coarse => Sys2Proof.Machine.execAonTimeRecord t coarse s
  | .dtlConv t v => Sys2Proof.Machine.execDtlConv t v s
  | .ptpRxMessage t p sub frame => Sys2Proof.Machine.execPtpRxMessage t p sub frame s
  | .ptpTxMessage t p sub frame => Sys2Proof.Machine.execPtpTxMessage t p sub frame s
  | .tcForward t p f => Sys2Proof.Machine.execTcForward t p f s
  | .tcEntryExpire p key => Sys2Proof.Machine.execTcEntryExpire p key s
  | .masterSyncTx t p => Sys2Proof.Machine.execMasterSyncTx t p s
  | .masterAnnounceTx t p => Sys2Proof.Machine.execMasterAnnounceTx t p s
  | .ptpPortEnable p => Sys2Proof.Machine.execPtpPortEnable p s
  | .csi2LongHeader t p ecc vc dt wc => Sys2Proof.Machine.execCsi2LongHeader t p ecc vc dt wc s
  | .csi2PacketEnd t p payload crcOk => Sys2Proof.Machine.execCsi2PacketEnd t p payload crcOk s
  | .csi2SotErr p => Sys2Proof.Machine.execCsi2SotErr p s
  | .csi2FrameStart t p vc frame => Sys2Proof.Machine.execCsi2FrameStart t p vc frame s
  | .csi2FrameEnd t p vc frame => Sys2Proof.Machine.execCsi2FrameEnd t p vc frame s
  | .ethFrameRx t p frame fcsOk => Sys2Proof.Machine.execEthFrameRx t p frame fcsOk s
  | .encEdge t n a b => Sys2Proof.Machine.execEncEdge t n a b s
  | .encZEdge t n => Sys2Proof.Machine.execEncZEdge t n s
  | .encPeriodItem n => Sys2Proof.Machine.execEncPeriodItem n s
  | .imuDrdyEdge t unit rise => Sys2Proof.Machine.execImuDrdyEdge t unit rise s
  | .imuPeriod t unit => Sys2Proof.Machine.execImuPeriod t unit s
  | .imuScriptEnd unit miso => Sys2Proof.Machine.execImuScriptEnd unit miso s
  | .ingPortEnable p => Sys2Proof.Machine.execIngPortEnable p s
  | .ingPortDisable p => Sys2Proof.Machine.execIngPortDisable p s
  | .mdioAddress v => Sys2Proof.Machine.execMdioAddress v s
  | .mdioWrite v => Sys2Proof.Machine.execMdioWrite v s
  | .mdioRead v => Sys2Proof.Machine.execMdioRead v s
  | .mdioFrameDone data => Sys2Proof.Machine.execMdioFrameDone data s
  | .regItem t g => Sys2Proof.Machine.execRegItem t g s
  | .calLoad => Sys2Proof.Machine.execCalLoad s
  | .calLoadDone => Sys2Proof.Machine.execCalLoadDone s
  | .gridEnable => Sys2Proof.Machine.execGridEnable s
  | .reseed => Sys2Proof.Machine.execReseed s
  | .epochSeal t e => Sys2Proof.Machine.execEpochSeal t e s
  | .epochFinalise t e => Sys2Proof.Machine.execEpochFinalise t e s
  | .slugIssue t n => Sys2Proof.Machine.execSlugIssue t n s
  | .slotNop n slot => Sys2Proof.Machine.execSlotNop n slot s
  | .add n rd ra rb => Sys2Proof.Machine.execAdd n rd ra rb s
  | .addi n rd ra imm => Sys2Proof.Machine.execAddi n rd ra imm s
  | .sub n rd ra rb => Sys2Proof.Machine.execSub n rd ra rb s
  | .and n rd ra rb => Sys2Proof.Machine.execAnd n rd ra rb s
  | .or n rd ra rb => Sys2Proof.Machine.execOr n rd ra rb s
  | .xor n rd ra rb => Sys2Proof.Machine.execXor n rd ra rb s
  | .shl n rd ra by_ => Sys2Proof.Machine.execShl n rd ra by_ s
  | .shr n rd ra by_ => Sys2Proof.Machine.execShr n rd ra by_ s
  | .sar n rd ra by_ => Sys2Proof.Machine.execSar n rd ra by_ s
  | .mul n rd ra rb => Sys2Proof.Machine.execMul n rd ra rb s
  | .movi n rd imm => Sys2Proof.Machine.execMovi n rd imm s
  | .movhi n rd ra imm => Sys2Proof.Machine.execMovhi n rd ra imm s
  | .cmp n pd c ra rb => Sys2Proof.Machine.execCmp n pd c ra rb s
  | .cmpi n pd c ra imm => Sys2Proof.Machine.execCmpi n pd c ra imm s
  | .plog n pd op pa pb => Sys2Proof.Machine.execPlog n pd op pa pb s
  | .br n imm => Sys2Proof.Machine.execBr n imm s
  | .jr n ra => Sys2Proof.Machine.execJr n ra s
  | .call n imm => Sys2Proof.Machine.execCall n imm s
  | .loop n rd imm => Sys2Proof.Machine.execLoop n rd imm s
  | .gwait n onEnd words => Sys2Proof.Machine.execGwait n onEnd words s
  | .gcount n rd => Sys2Proof.Machine.execGcount n rd s
  | .gpop n rd pd => Sys2Proof.Machine.execGpop n rd pd s
  | .ctlFence n kind => Sys2Proof.Machine.execCtlFence n kind s
  | .bwait n mask => Sys2Proof.Machine.execBwait n mask s
  | .rdsr n rd idx => Sys2Proof.Machine.execRdsr n rd idx s
  | .trap n => Sys2Proof.Machine.execTrap n s
  | .resume n ra => Sys2Proof.Machine.execResume n ra s
  | .endSlot n => Sys2Proof.Machine.execEndSlot n s
  | .wload n f => Sys2Proof.Machine.execWload n f s
  | .run n f build => Sys2Proof.Machine.execRun n f build s
  | .build n b => Sys2Proof.Machine.execBuild n b s
  | .peek n group plane addr => Sys2Proof.Machine.execPeek n group plane addr s
  | .vld n vd gb addr => Sys2Proof.Machine.execVld n vd gb addr s
  | .vst n va gb addr => Sys2Proof.Machine.execVst n va gb addr s
  | .vstp n va gb addr => Sys2Proof.Machine.execVstp n va gb addr s
  | .apop n vd vc satv => Sys2Proof.Machine.execApop n vd vc satv s
  | .sst n va vb gb addr => Sys2Proof.Machine.execSst n va vb gb addr s
  | .vmovg n vd ga => Sys2Proof.Machine.execVmovg n vd ga s
  | .gmovv n gd va => Sys2Proof.Machine.execGmovv n gd va s
  | .iadd n vd va vb => Sys2Proof.Machine.execIadd n vd va vb s
  | .isub n vd va vb => Sys2Proof.Machine.execIsub n vd va vb s
  | .imul n vd va vb => Sys2Proof.Machine.execImul n vd va vb s
  | .imax n vd va vb => Sys2Proof.Machine.execImax n vd va vb s
  | .imin n vd va vb => Sys2Proof.Machine.execImin n vd va vb s
  | .fadd n vd va vb bf rnd => Sys2Proof.Machine.execFadd n vd va vb bf rnd s
  | .fsub n vd va vb bf rnd => Sys2Proof.Machine.execFsub n vd va vb bf rnd s
  | .fmul n vd va vb bf rnd => Sys2Proof.Machine.execFmul n vd va vb bf rnd s
  | .fma n vd va vb vc bf rnd => Sys2Proof.Machine.execFma n vd va vb vc bf rnd s
  | .fmax n vd va vb bf rnd => Sys2Proof.Machine.execFmax n vd va vb bf rnd s
  | .fmin n vd va vb bf rnd => Sys2Proof.Machine.execFmin n vd va vb bf rnd s
  | .req n vd va vb sh z sout rnd => Sys2Proof.Machine.execReq n vd va vb sh z sout rnd s
  | .f2b n vd va vb rnd => Sys2Proof.Machine.execF2b n vd va vb rnd s
  | .b2f n vd va high => Sys2Proof.Machine.execB2f n vd va high s
  | .i2f n vd va => Sys2Proof.Machine.execI2f n vd va s
  | .exp n vd va => Sys2Proof.Machine.execExp n vd va s
  | .log n vd va => Sys2Proof.Machine.execLog n vd va s
  | .frsum n vd va => Sys2Proof.Machine.execFrsum n vd va s
  | .frmax n vd va => Sys2Proof.Machine.execFrmax n vd va s
  | .irsum n vd va => Sys2Proof.Machine.execIrsum n vd va s
  | .irmax n vd va => Sys2Proof.Machine.execIrmax n vd va s
  | .hload n f => Sys2Proof.Machine.execHload n f s
  | .hrun n f => Sys2Proof.Machine.execHrun n f s
  | .sload t n f provOk => Sys2Proof.Machine.execSload t n f provOk s
  | .sstore n f tagEpoch => Sys2Proof.Machine.execSstore n f tagEpoch s
  | .satom t n f tagEpoch => Sys2Proof.Machine.execSatom t n f tagEpoch s
  | .gsend n f => Sys2Proof.Machine.execGsend n f s
  | .grecv n f => Sys2Proof.Machine.execGrecv n f s
  | .bcopy n f => Sys2Proof.Machine.execBcopy n f s
  | .icopy n f => Sys2Proof.Machine.execIcopy n f s
  | .brick n f tagEpoch => Sys2Proof.Machine.execBrick n f tagEpoch s
  | .fwalk t n f => Sys2Proof.Machine.execFwalk t n f s
  | .streamEnd n sid => Sys2Proof.Machine.execStreamEnd n sid s
  | .storeBufferDrain t n => Sys2Proof.Machine.execStoreBufferDrain t n s
  | .proofEndSkewTimeout t k => Sys2Proof.Machine.execProofEndSkewTimeout t k s
  | .launchStop t r slot cause => Sys2Proof.Machine.execLaunchStop t r slot cause s
  | .launchEnd t r slot => Sys2Proof.Machine.execLaunchEnd t r slot s
  | .prsClear n => Sys2Proof.Machine.execPrsClear n s
  | .prsDropImage n => Sys2Proof.Machine.execPrsDropImage n s
  | .chainLinkUp d far => Sys2Proof.Machine.execChainLinkUp d far s
  | .laneSpare d lane => Sys2Proof.Machine.execLaneSpare d lane s
  | .chainMessageTx d => Sys2Proof.Machine.execChainMessageTx d s
  | .chainMessageRx d h m crcOk => Sys2Proof.Machine.execChainMessageRx d h m crcOk s
  | .linkNak d seq => Sys2Proof.Machine.execLinkNak d seq s
  | .linkCredit d ctrl req wdata resp => Sys2Proof.Machine.execLinkCredit d ctrl req wdata resp s
  | .enumProbe d b => Sys2Proof.Machine.execEnumProbe d b s
  | .enumEnd d b => Sys2Proof.Machine.execEnumEnd d b s
  | .enumDone d b => Sys2Proof.Machine.execEnumDone d b s
  | .hopWaitExpire => Sys2Proof.Machine.execHopWaitExpire s
  | .announce d sticky serial => Sys2Proof.Machine.execAnnounce d sticky serial s
  | .grant id serial map => Sys2Proof.Machine.execGrant id serial map s
  | .detach id => Sys2Proof.Machine.execDetach id s
  | .detachMsExpire id => Sys2Proof.Machine.execDetachMsExpire id s
  | .chainPortDown d => Sys2Proof.Machine.execChainPortDown d s
  | .fold u d => Sys2Proof.Machine.execFold u d s
  | .healHoldExpire d => Sys2Proof.Machine.execHealHoldExpire d s
  | .heal u d => Sys2Proof.Machine.execHeal u d s
  | .remoteTimeout tag op => Sys2Proof.Machine.execRemoteTimeout tag op s
  | .read t m => Sys2Proof.Machine.execRead t m s
  | .write t m => Sys2Proof.Machine.execWrite t m s
  | .atomic t m => Sys2Proof.Machine.execAtomic t m s
  | .flush m => Sys2Proof.Machine.execFlush m s
  | .rdata m => Sys2Proof.Machine.execRdata m s
  | .ack m => Sys2Proof.Machine.execAck m s
  | .atomResult m => Sys2Proof.Machine.execAtomResult m s
  | .nack m => Sys2Proof.Machine.execNack m s
  | .regRead m => Sys2Proof.Machine.execRegRead m s
  | .regWrite t m srOk => Sys2Proof.Machine.execRegWrite t m srOk s
  | .regResult m => Sys2Proof.Machine.execRegResult m s
  | .irqFwd u vec => Sys2Proof.Machine.execIrqFwd u vec s
  | .decision u pid confirm lateRoi => Sys2Proof.Machine.execDecision u pid confirm lateRoi s
  | .proxyRead => Sys2Proof.Machine.execProxyRead s
  | .proxyWrite => Sys2Proof.Machine.execProxyWrite s
  | .proxyTimeout => Sys2Proof.Machine.execProxyTimeout s
  | .chnProxyIrqWrite u v => Sys2Proof.Machine.execChnProxyIrqWrite u v s
  | .replayWindowEnd d resent => Sys2Proof.Machine.execReplayWindowEnd d resent s
  | .upshiftTimerExpire d => Sys2Proof.Machine.execUpshiftTimerExpire d s
  | .retrainDone d ok => Sys2Proof.Machine.execRetrainDone d ok s
  | .stockAccess t a => Sys2Proof.Machine.execStockAccess t a s
  | .provisionalLoadWait n addr => Sys2Proof.Machine.execProvisionalLoadWait n addr s
  | .wcLineTimeout t line => Sys2Proof.Machine.execWcLineTimeout t line s
  | .leafFillDone leaf bad => Sys2Proof.Machine.execLeafFillDone leaf bad s
  | .leafWritebackDone leaf programOk => Sys2Proof.Machine.execLeafWritebackDone leaf programOk s
  | .idleWriteback => Sys2Proof.Machine.execIdleWriteback s
  | .pinRangeEnable r => Sys2Proof.Machine.execPinRangeEnable r s
  | .pinRangeDisable r => Sys2Proof.Machine.execPinRangeDisable r s
  | .dramBusyWindow busyPct => Sys2Proof.Machine.execDramBusyWindow busyPct s
  | .flashBusyWindow busyPct => Sys2Proof.Machine.execFlashBusyWindow busyPct s
  | .guardBwWindow waiting share => Sys2Proof.Machine.execGuardBwWindow waiting share s
  | .grdPairEnable k v => Sys2Proof.Machine.execGrdPairEnable k v s
  | .inlineEccInitDone => Sys2Proof.Machine.execInlineEccInitDone s
  | .guardSlotEnd => Sys2Proof.Machine.execGuardSlotEnd s
  | .guardPublish t e => Sys2Proof.Machine.execGuardPublish t e s
  | .guardDeadline t e => Sys2Proof.Machine.execGuardDeadline t e s
  | .grdRearm v => Sys2Proof.Machine.execGrdRearm v s
  | .bistRequest mask => Sys2Proof.Machine.execBistRequest mask s
  | .periodicBistTimer n => Sys2Proof.Machine.execPeriodicBistTimer n s
  | .bistSegmentStart n => Sys2Proof.Machine.execBistSegmentStart n s
  | .bistSegmentEnd t n faults => Sys2Proof.Machine.execBistSegmentEnd t n faults s
  | .fenceNow t v => Sys2Proof.Machine.execFenceNow t v s
  | .clearSoft v => Sys2Proof.Machine.execClearSoft v s
  | .softTableWrite => Sys2Proof.Machine.execSoftTableWrite s
  | .heartbeatSend => Sys2Proof.Machine.execHeartbeatSend s
  | .heartbeat src role lastN epoch => Sys2Proof.Machine.execHeartbeat src role lastN epoch s
  | .peerLoss t us => Sys2Proof.Machine.execPeerLoss t us s
  | .ckptGo t => Sys2Proof.Machine.execCkptGo t s
  | .ckptPeriod t => Sys2Proof.Machine.execCkptPeriod t s
  | .adopt => Sys2Proof.Machine.execAdopt s
  | .adoptDone => Sys2Proof.Machine.execAdoptDone s
  | .freezeNAssert t => Sys2Proof.Machine.execFreezeNAssert t s
  | .dbgFreezeGo t v => Sys2Proof.Machine.execDbgFreezeGo t v s
  | .memFreeze srOk => Sys2Proof.Machine.execMemFreeze srOk s
  | .selfRefreshTimeout => Sys2Proof.Machine.execSelfRefreshTimeout s
  | .extest => Sys2Proof.Machine.execExtest s
  | .idcode => Sys2Proof.Machine.execIdcode s
  | .samplePreload load => Sys2Proof.Machine.execSamplePreload load s
  | .dbgStatus => Sys2Proof.Machine.execDbgStatus s
  | .dbgChallenge => Sys2Proof.Machine.execDbgChallenge s
  | .dbgResponse data => Sys2Proof.Machine.execDbgResponse data s
  | .scanSel v => Sys2Proof.Machine.execScanSel v s
  | .scanRead bits => Sys2Proof.Machine.execScanRead bits s
  | .sramAddr v => Sys2Proof.Machine.execSramAddr v s
  | .sramData => Sys2Proof.Machine.execSramData s
  | .thaw freezeCount => Sys2Proof.Machine.execThaw freezeCount s
  | .stopReset => Sys2Proof.Machine.execStopReset s
  | .bypass => Sys2Proof.Machine.execBypass s
  | .vddCoreAboveWarn t mv => Sys2Proof.Machine.execVddCoreAboveWarn t mv s
  | .vddCoreBelowClear t mv => Sys2Proof.Machine.execVddCoreBelowClear t mv s
  | .highSpeedTransmissionEnd p => Sys2Proof.Machine.execHighSpeedTransmissionEnd p s
  | .laneSpareSwapDone d => Sys2Proof.Machine.execLaneSpareSwapDone d s
  | .tapReset => Sys2Proof.Machine.execTapReset s

end Sys2Proof.Machine
end

