-- ==== Sys2Proof/Machine/Idle.lean ====
section
/-! DEFINITION. What the block does when no command waits (log entry 21). -/

namespace Sys2Proof.Machine

/-- What the block's own machinery does in a cycle in which nothing is commanded: pattern items whose last word is due are complete, every
galley compares its pointers (R190), the destination of every gutter and the Foreman take what has come for them (R206, R290), registration
goes on with what it has in hand, atomics of rings that are gone are performed (R171), and a checkpoint and a takeover under way move on. -/
def State.background (s : State) : State :=
  let s := (List.finRange 64).foldl State.galCompare s.camsSettle.gutterDrain
  (((List.finRange 4).foldl State.txTake s).regOn.lateOn).ckptMove.takeover

/-- One SYS cycle in which nothing is commanded: the Dateline counts once (R220) and the background work goes on; while the engine stands
still, nothing. The queue is the step's own. -/
def State.idle (s : State) : State :=
  if s.halted then s else { (s.at (s.dtl.count + 1)).background with pending := s.pending }

end Sys2Proof.Machine
end

