-- ==== Sys2Proof/WellFormed.lean ====
section
/-!
DEFINITION. Which commands are well formed: the bounds that the spec puts on operands whose types do not carry them. A meaning
is total and does not rest on these checks.
-/

namespace Sys2Proof

/-- A number of w bits. -/
def fitsBits (w v : Nat) : Bool := decide (v < 2 ^ w)

/-- A register of the 256 KiB of BAR0 (R13, R15), or a word of BAR4 or of configuration space (Table HST-1, log entry 33). -/
def offsetOk (off : Nat) : Bool := decide (off % 8 = 0) && decide (off < 0x45000)

/-- An access that R12 turns away: no aligned access of 4 or 8 bytes. -/
def badAccess (off size : Nat) : Bool := !((size == 8 && off % 8 == 0) || (size == 4 && off % 4 == 0))

/-- The fields of an ARY operation fit their places (Table SLG-8). -/
def AryFields.fits (f : AryFields) : Bool :=
  fitsBits 4 f.wslot && fitsBits 24 f.addrA && fitsBits 24 f.addrP && fitsBits 24 f.addrD && fitsBits 24 f.addrS && fitsBits 12 f.m

/-- The fields of a BUILD fit their places (Table SLG-9). -/
def BuildFields.fits (b : BuildFields) : Bool := fitsBits 24 b.addr && fitsBits 8 b.groups && fitsBits 12 b.m

/-- The fields of an HND operation fit their places (Table SLG-12). -/
def HndFields.fits (f : HndFields) : Bool := fitsBits 24 f.addrA && fitsBits 24 f.addrB && fitsBits 24 f.addrC && fitsBits 12 f.m

/-- The fields of a MOV operation fit their places (Table SLG-13). -/
def MovFields.fits (f : MovFields) : Bool := fitsBits 2 f.aop && fitsBits 24 f.bank && fitsBits 64 f.stock && fitsBits 32 f.len

/-- A message fits its header, and carries as many data bytes as it says (Table CHN-3). -/
def Msg.fits (m : Msg) : Bool :=
  fitsBits 8 m.op && fitsBits 4 m.src && fitsBits 4 m.dst && fitsBits 16 m.tag && decide (m.cls ≤ 2) && fitsBits 6 m.pid &&
  decide (m.len ≤ 2048) && fitsBits 64 m.addr && fitsBits 32 m.epoch && fitsBits 32 m.stat && decide (m.inline.length ≤ 32) &&
  decide (m.data.length ≤ m.len)

/-- A link header fits its flit (Table CHN-2). -/
def LinkHeader.fits (h : LinkHeader) : Bool := fitsBits 10 h.seq && fitsBits 10 h.ackSeq && fitsBits 2 h.crdVc && fitsBits 2 h.crdN

/-- The IDs of a map lie in 0 to 15, and none stands twice (R632). -/
def ChainMap.fits (m : ChainMap) : Bool := m.ids.all (fun i => decide (i < 16)) && decide m.ids.Nodup && decide (m.mode ≤ 3)

/-- An access names at most what the stock serves at once, and its address has 64 bits (R665). -/
def Access.fits (a : Access) : Bool :=
  fitsBits 64 a.addr && fitsBits 32 a.epoch &&
  match a.op with
  | .read n => decide (1 ≤ n)
  | .write d => decide (1 ≤ d.length)
  | _ => decide (a.addr % 8 = 0)

/-- A fault of a self-test names a resource that is there (Tables REP-1 and REP-3). -/
def BistFault.fits : BistFault → Bool
  | .screen n => decide (n < 64)
  | _ => true

/-- The command's operands keep the spec's bounds. -/
def Instr.wellFormed : Instr → Bool
  | .registerWrite _ off _ _ => offsetOk off
  | .bar0BadAccess _ off size => badAccess off size
  | .thermalSample temps => decide (temps.length = 20)
  | .bistRepairPhase _ fs => fs.all BistFault.fits
  | .bistSegmentEnd _ _ fs => fs.all BistFault.fits
  | .bar2Read _ n => decide (1 ≤ n)
  | .bar2Write _ _ d => decide (1 ≤ d.length)
  | .nop _ slot => fitsBits 16 slot
  | .netLaunch _ slot => fitsBits 16 slot
  | .netLaunchStart _ _ slot => fitsBits 16 slot
  | .copy _ _ slot => fitsBits 16 slot
  | .folioAlloc _ slot => fitsBits 16 slot
  | .folioFree _ slot => fitsBits 16 slot
  | .folioSwapOut _ slot => fitsBits 16 slot
  | .folioSwapIn _ slot => fitsBits 16 slot
  | .poolRead _ _ slot => fitsBits 16 slot
  | .poolWrite _ _ slot => fitsBits 16 slot
  | .poolAtomic _ _ slot => fitsBits 16 slot
  | .trgSched _ _ slot => fitsBits 16 slot
  | .trgSchedPlace _ _ slot => fitsBits 16 slot
  | .epochMark _ _ slot => fitsBits 16 slot
  | .fence _ slot => fitsBits 16 slot
  | .launchTimeout _ slot => fitsBits 16 slot
  | .launchStop _ _ slot _ => fitsBits 16 slot
  | .launchEnd _ _ slot => fitsBits 16 slot
  | .csi2LongHeader _ _ _ vc dt wc => decide (vc < 32) && fitsBits 6 dt && fitsBits 16 wc
  | .csi2PacketEnd _ _ payload _ => fitsBits 16 payload.length
  | .csi2FrameStart _ _ vc _ => decide (vc < 32)
  | .csi2FrameEnd _ _ vc _ => decide (vc < 32)
  | .imuScriptEnd _ miso => decide (miso.length ≤ 240)
  | .epochSeal _ e => fitsBits 32 e
  | .epochFinalise _ e => fitsBits 32 e
  | .guardPublish _ e => fitsBits 32 e
  | .guardDeadline _ e => fitsBits 32 e
  | .gwait _ _ words => fitsBits 11 words
  | .wload _ f => f.fits
  | .run _ f b => f.fits && b.all BuildFields.fits
  | .build _ b => b.fits
  | .peek _ group plane addr => fitsBits 7 group && fitsBits 4 plane && fitsBits 24 addr
  | .req _ _ _ _ sh _ _ _ => fitsBits 6 sh
  | .hload _ f => f.fits
  | .hrun _ f => f.fits
  | .sload _ _ f _ => f.fits
  | .sstore _ f e => f.fits && fitsBits 32 e
  | .satom _ _ f e => f.fits && fitsBits 32 e
  | .gsend _ f => f.fits
  | .grecv _ f => f.fits
  | .bcopy _ f => f.fits
  | .icopy _ f => f.fits
  | .brick _ f e => f.fits && fitsBits 32 e
  | .fwalk _ _ f => f.fits
  | .laneSpare _ r => decide (r.lane ≤ 16)
  | .chainMessageRx _ h m _ => h.fits && m.fits
  | .linkNak _ seq => fitsBits 10 seq
  | .linkCredit _ a b c d => fitsBits 16 a && fitsBits 16 b && fitsBits 16 c && fitsBits 16 d
  | .enumDone _ b => b.map.fits
  | .grant _ _ m => m.fits
  | .remoteTimeout tag op => fitsBits 16 tag && fitsBits 8 op
  | .read _ m => m.fits
  | .write _ m => m.fits
  | .atomic _ m => m.fits
  | .flush m => m.fits
  | .rdata m => m.fits
  | .ack m => m.fits
  | .atomResult m => m.fits
  | .nack m => m.fits
  | .regRead m => m.fits
  | .regWrite _ m _ => m.fits
  | .regResult m => m.fits
  | .decision _ pid _ _ => fitsBits 6 pid
  | .stockAccess _ a => a.fits
  | .provisionalLoadWait _ addr => fitsBits 64 addr
  | .dramBusyWindow pct => decide (pct ≤ 100)
  | .flashBusyWindow pct => decide (pct ≤ 100)
  | .guardBwWindow _ pct => decide (pct ≤ 100)
  | .heartbeat _ role lastN epoch => fitsBits 2 role && fitsBits 32 lastN && fitsBits 32 epoch
  | .dbgResponse d => decide (d.length = 128)
  | .thaw n => fitsBits 48 n
  | .arcNoticeStatusWrite _ => true
  | .arcNoticeMaskWrite _ => true
  | .aonPowerOn => true
  | .boardReset => true
  | .resetNRise _ _ _ => true
  | .watchdogExpire => true
  | .warmReset _ _ => true
  | .smbusWarmReset _ => true
  | .pcieReset _ => true
  | .perstNRise => true
  | .pcieLinkUp => true
  | .romPhase _ => true
  | .otpPhase _ _ => true
  | .fwLoad _ _ => true
  | .fwVerify _ => true
  | .configPhase _ => true
  | .trainDram _ _ => true
  | .trainFlash _ _ => true
  | .journalReplay _ => true
  | .serdesPhase _ _ => true
  | .enumPhase => true
  | .enumWaitExpire _ => true
  | .makereadyReady _ => true
  | .chainRecordRewrite => true
  | .recRead => true
  | .recProgram => true
  | .recErase => true
  | .recOpDone _ => true
  | .vddCoreBelowWarn _ _ => true
  | .supplyWarnAssert _ _ => true
  | .vddCoreAboveClear _ _ => true
  | .supplyWarnClear _ => true
  | .supplyReset _ => true
  | .dvfsStepUp _ => true
  | .dvfsSettleExpire => true
  | .dvfsStepDown _ => true
  | .pfailAssert _ => true
  | .pfailFlushDone _ => true
  | .thermalStepDown => true
  | .thermalStepUp => true
  | .hstSqDbWrite _ _ => true
  | .hstCqDbWrite _ _ => true
  | .descriptorFetch _ _ => true
  | .swapOutDone _ => true
  | .swapInDone _ => true
  | .completionWrite _ _ _ => true
  | .coalTimerExpire _ => true
  | .ringEnable _ => true
  | .ringDrain _ => true
  | .ringDrainFlush _ => true
  | .ringDrainDone _ => true
  | .galleyPush _ _ _ => true
  | .galleyPop _ _ => true
  | .galleyAbandon _ => true
  | .galleyFlush _ => true
  | .galleyFaultReset _ _ => true
  | .galHostTxData _ => true
  | .galHostTxLast _ => true
  | .galHostRxData _ => true
  | .hostRxEmptyTimeout => true
  | .gutterTransfer _ _ _ => true
  | .togglePulse _ _ => true
  | .dtlCapture _ _ => true
  | .dtlRateWrite _ _ => true
  | .dtlSlewWrite _ _ => true
  | .dtlSet _ => true
  | .dtlSetAtPps => true
  | .dtlUnset _ => true
  | .ppsInEdge _ _ => true
  | .refSample _ _ _ => true
  | .refLossTimeout _ _ => true
  | .refHoldoffExpire _ _ => true
  | .switchCommit _ => true
  | .ppsOutRise _ => true
  | .ppsOutFall _ => true
  | .evtEdge _ _ _ _ => true
  | .dtlEvtRead _ => true
  | .trgEdge _ _ => true
  | .epochClockEnable _ _ => true
  | .epochOpen _ => true
  | .aonTimeRecord _ _ => true
  | .dtlConv _ _ => true
  | .ptpRxMessage _ _ _ _ => true
  | .ptpTxMessage _ _ _ _ => true
  | .tcForward _ _ _ => true
  | .tcEntryExpire _ _ => true
  | .masterSyncTx _ _ => true
  | .masterAnnounceTx _ _ => true
  | .ptpPortEnable _ => true
  | .csi2SotErr _ => true
  | .ethFrameRx _ _ _ _ => true
  | .encEdge _ _ _ _ => true
  | .encZEdge _ _ => true
  | .encPeriodItem _ => true
  | .imuDrdyEdge _ _ _ => true
  | .imuPeriod _ _ => true
  | .ingPortEnable _ => true
  | .ingPortDisable _ => true
  | .mdioAddress _ => true
  | .mdioWrite _ => true
  | .mdioRead _ => true
  | .mdioFrameDone _ => true
  | .regItem _ _ => true
  | .calLoad => true
  | .calLoadDone => true
  | .gridEnable => true
  | .reseed => true
  | .slugIssue _ _ => true
  | .slotNop _ _ => true
  | .add _ _ _ _ => true
  | .addi _ _ _ _ => true
  | .sub _ _ _ _ => true
  | .and _ _ _ _ => true
  | .or _ _ _ _ => true
  | .xor _ _ _ _ => true
  | .shl _ _ _ _ => true
  | .shr _ _ _ _ => true
  | .sar _ _ _ _ => true
  | .mul _ _ _ _ => true
  | .movi _ _ _ => true
  | .movhi _ _ _ _ => true
  | .cmp _ _ _ _ _ => true
  | .cmpi _ _ _ _ _ => true
  | .plog _ _ _ _ _ => true
  | .br _ _ => true
  | .jr _ _ => true
  | .call _ _ => true
  | .loop _ _ _ => true
  | .gcount _ _ => true
  | .gpop _ _ _ => true
  | .ctlFence _ _ => true
  | .bwait _ _ => true
  | .rdsr _ _ _ => true
  | .trap _ => true
  | .resume _ _ => true
  | .endSlot _ => true
  | .vld _ _ _ _ => true
  | .vst _ _ _ _ => true
  | .vstp _ _ _ _ => true
  | .apop _ _ _ _ => true
  | .sst _ _ _ _ _ => true
  | .vmovg _ _ _ => true
  | .gmovv _ _ _ => true
  | .iadd _ _ _ _ => true
  | .isub _ _ _ _ => true
  | .imul _ _ _ _ => true
  | .imax _ _ _ _ => true
  | .imin _ _ _ _ => true
  | .fadd _ _ _ _ _ _ => true
  | .fsub _ _ _ _ _ _ => true
  | .fmul _ _ _ _ _ _ => true
  | .fma _ _ _ _ _ _ _ => true
  | .fmax _ _ _ _ _ _ => true
  | .fmin _ _ _ _ _ _ => true
  | .f2b _ _ _ _ _ => true
  | .b2f _ _ _ _ => true
  | .i2f _ _ _ => true
  | .exp _ _ _ => true
  | .log _ _ _ => true
  | .frsum _ _ _ => true
  | .frmax _ _ _ => true
  | .irsum _ _ _ => true
  | .irmax _ _ _ => true
  | .streamEnd _ _ => true
  | .storeBufferDrain _ _ => true
  | .proofEndSkewTimeout _ _ => true
  | .prsClear _ => true
  | .prsDropImage _ => true
  | .chainLinkUp _ _ => true
  | .chainMessageTx _ => true
  | .enumProbe _ _ => true
  | .enumEnd _ _ => true
  | .hopWaitExpire => true
  | .announce _ _ _ => true
  | .detach _ => true
  | .detachMsExpire _ => true
  | .chainPortDown _ => true
  | .fold _ _ => true
  | .healHoldExpire _ => true
  | .heal _ _ => true
  | .irqFwd _ _ => true
  | .proxyRead => true
  | .proxyWrite => true
  | .proxyTimeout => true
  | .chnProxyIrqWrite _ _ => true
  | .replayWindowEnd _ _ => true
  | .upshiftTimerExpire _ => true
  | .retrainDone _ _ => true
  | .wcLineTimeout _ _ => true
  | .leafFillDone _ _ => true
  | .leafWritebackDone _ _ => true
  | .idleWriteback => true
  | .pinRangeEnable _ => true
  | .pinRangeDisable _ => true
  | .grdPairEnable _ _ => true
  | .inlineEccInitDone => true
  | .guardSlotEnd => true
  | .grdRearm _ => true
  | .bistRequest _ => true
  | .periodicBistTimer _ => true
  | .bistSegmentStart _ => true
  | .fenceNow _ _ => true
  | .clearSoft _ => true
  | .softTableWrite => true
  | .heartbeatSend => true
  | .peerLoss _ _ => true
  | .ckptGo _ => true
  | .ckptPeriod _ => true
  | .adopt => true
  | .adoptDone => true
  | .freezeNAssert _ => true
  | .dbgFreezeGo _ _ => true
  | .memFreeze _ => true
  | .selfRefreshTimeout => true
  | .extest => true
  | .idcode => true
  | .samplePreload _ => true
  | .dbgStatus => true
  | .dbgChallenge => true
  | .scanSel _ => true
  | .scanRead _ => true
  | .sramAddr _ => true
  | .sramData => true
  | .stopReset => true
  | .bypass => true
  | .vddCoreAboveWarn _ _ => true
  | .vddCoreBelowClear _ _ => true
  | .highSpeedTransmissionEnd _ => true
  | .laneSpareSwapDone _ => true
  | .tapReset => true
end Sys2Proof
end

