-- ==== Sys2Proof/Machine/SlugEncode.lean ====
section
/-!
DEFINITION. The words of slot operations, written from the same encoding tables as the decoder (Tables SLG-5 to SLG-14): none for an
operation that no encoding has.
-/

namespace Sys2Proof.Machine

/-! ### Codes -/

/-- The SUB value of a condition. -/
def condCode : Cond → Nat
  | .eq => 0 | .ne => 1 | .lt => 2 | .ge => 3 | .ltu => 4 | .geu => 5

/-- The SUB value of a logic function. -/
def logicCode : LogicOp → Nat
  | .conj => 0 | .disj => 1 | .exor => 2 | .conjNot => 3

/-- The code of a fence kind. -/
def fenceCode : FenceKind → Nat
  | .order => 0 | .visible => 1 | .durable => 2

/-- The code of an ARY mode. -/
def modeCode : AryMode → Nat
  | .direct => 0 | .case => 1 | .planePair => 2

/-- The opcode of a MOV operation. -/
def movCode : MovKind → Nat
  | .sload => 1 | .sstore => 2 | .satom => 3 | .gsend => 4 | .grecv => 5 | .bcopy => 6 | .icopy => 7 | .brick => 8 | .fwalk => 9

/-- The opcode of an FP32 lane operation. -/
def fpCode : FpOp → Nat
  | .add => 0x18 | .sub => 0x19 | .mul => 0x1A | .fma => 0x1B | .max => 0x1C | .min => 0x1D

/-- The opcode of an INT32 lane operation. -/
def intCode : IntOp → Nat
  | .add => 0x10 | .sub => 0x11 | .mul => 0x12 | .max => 0x13 | .min => 0x14

/-- The opcode of a reduction. -/
def redCode : RedOp → Nat
  | .fsum => 0x30 | .fmax => 0x31 | .isum => 0x32 | .imax => 0x33

/-! ### CTL (Tables SLG-5, SLG-6) -/

/-- A CTL word from its fields. -/
def ctlWord (opc : Nat) (rd ra rb pd sub imm : Nat := 0) : Nat :=
  opc + rd * 2 ^ 8 + ra * 2 ^ 13 + rb * 2 ^ 18 + pd * 2 ^ 23 + sub * 2 ^ 26 + imm * 2 ^ 32

/-- The immediate of which a value is the sign extension. -/
def immOf (v : U64) : Option Nat := if sext32 (v.setWidth 32) = v then some (v.setWidth 32).toNat else none

/-- The word of a scalar operation. -/
def encodeAlu (op : AluOp) (rd ra : Reg) : Opnd → Option Nat
  | .reg rb =>
    let opc := match op with
      | .add => 0x01 | .sub => 0x03 | .and => 0x04 | .or => 0x05 | .xor => 0x06 | .shl => 0x07 | .shr => 0x08 | .sar => 0x09 | .mul => 0x0A
    some (ctlWord opc rd.val ra.val rb.val)
  | .imm v =>
    match op with
    | .add => (immOf v).map (fun i => ctlWord 0x02 rd.val ra.val (imm := i))
    | .shl => if v.toNat < 64 then some (ctlWord 0x07 rd.val ra.val (sub := 1) (imm := v.toNat)) else none
    | .shr => if v.toNat < 64 then some (ctlWord 0x08 rd.val ra.val (sub := 1) (imm := v.toNat)) else none
    | .sar => if v.toNat < 64 then some (ctlWord 0x09 rd.val ra.val (sub := 1) (imm := v.toNat)) else none
    | _ => none

/-- The word of a CTL operation. -/
def encodeCtl : CtlOp → Option Nat
  | .nop => some (ctlWord 0x00)
  | .alu op rd ra b => encodeAlu op rd ra b
  | .movi rd imm => some (ctlWord 0x0B rd.val (imm := imm.toNat))
  | .movhi rd ra imm => some (ctlWord 0x0C rd.val ra.val (imm := imm.toNat))
  | .cmp pd c ra (.reg rb) => some (ctlWord 0x10 0 ra.val rb.val pd.val (condCode c))
  | .cmp pd c ra (.imm v) => (immOf v).map (fun i => ctlWord 0x11 0 ra.val 0 pd.val (condCode c) i)
  | .plog pd o pa pb => some (ctlWord 0x12 0 pa.val pb.val pd.val (logicCode o))
  | .br imm => some (ctlWord 0x20 (imm := imm.toNat))
  | .jr ra => some (ctlWord 0x21 0 ra.val)
  | .call imm => some (ctlWord 0x22 (imm := imm.toNat))
  | .loop rd imm => some (ctlWord 0x23 rd.val (imm := imm.toNat))
  | .gwait true n => if n = 0 then some (ctlWord 0x30 (sub := 1)) else none
  | .gwait false n => if n < 2048 then some (ctlWord 0x30 (imm := n)) else none
  | .gcount rd => some (ctlWord 0x31 rd.val)
  | .gpop rd pd => some (ctlWord 0x32 rd.val 0 0 pd.val)
  | .fence k => some (ctlWord 0x38 (sub := fenceCode k))
  | .bwait mask => if mask < 16 then some (ctlWord 0x39 (imm := mask)) else none
  | .rdsr rd idx => if idx < 8 then some (ctlWord 0x3A rd.val (imm := idx)) else none
  | .trap => some (ctlWord 0x3C)
  | .resume ra => some (ctlWord 0x3D 0 ra.val)
  | .stop => some (ctlWord 0x3F)

/-! ### ARY and CAS (Tables SLG-8, SLG-9) -/

/-- An ARY word. -/
def aryWord (opc : Nat) (f : AryFields) : Nat :=
  opc + modeCode f.mode * 2 ^ 8 + f.wslot * 2 ^ 10 + f.aset.toNat * 2 ^ 14 + f.sgnA.toNat * 2 ^ 15 + f.sgnB.toNat * 2 ^ 16 +
    f.maskB.toNat * 2 ^ 17 + f.start.toNat * 2 ^ 18 + f.drain.toNat * 2 ^ 20 + f.satEn.toNat * 2 ^ 21 + f.addrA * 2 ^ 32 +
    f.addrP * 2 ^ 56 + f.addrD * 2 ^ 80 + f.addrS * 2 ^ 104 + f.m * 2 ^ 128

/-- The word of an ARY operation whose fields fit their places. -/
def encodeAry (opc : Nat) (f : AryFields) : Option Nat := if f.fits then some (aryWord opc f) else none

/-- The word of a BUILD. -/
def encodeBuild (b : BuildFields) : Option Nat :=
  if b.fits then some (1 + b.addr * 2 ^ 24 + b.groups * 2 ^ 48 + b.m * 2 ^ 56) else none

/-- The word of a PEEK. -/
def encodePeek (group plane addr : Nat) : Option Nat :=
  if group < 128 ∧ plane < 16 ∧ addr < 2 ^ 24 then some (2 + group * 2 ^ 8 + plane * 2 ^ 15 + addr * 2 ^ 24) else none

/-! ### FTN (Tables SLG-10, SLG-11) -/

/-- An FTN word from its fields. -/
def ftnWord (opc : Nat) (vd va vb vc bf rnd sout satv sh z addr gb : Nat := 0) : Nat :=
  opc + vd * 2 ^ 8 + va * 2 ^ 13 + vb * 2 ^ 18 + vc * 2 ^ 23 + bf * 2 ^ 28 + rnd * 2 ^ 29 + sout * 2 ^ 30 + satv * 2 ^ 31 + sh * 2 ^ 32 +
    z * 2 ^ 48 + addr * 2 ^ 64 + gb * 2 ^ 88

/-- An address of 24 bits. -/
def addr24 (a w : Nat) : Option Nat := if a < 2 ^ 24 then some w else none

/-- The word of an FTN operation. -/
def encodeFtn : FtnOp → Option Nat
  | .nop => some (ftnWord 0x00)
  | .vld vd gb addr => addr24 addr (ftnWord 0x01 (vd := vd.val) (gb := gb.val) (addr := addr))
  | .vst va gb addr => addr24 addr (ftnWord 0x02 (va := va.val) (gb := gb.val) (addr := addr))
  | .vstp va gb addr => addr24 addr (ftnWord 0x03 (va := va.val) (gb := gb.val) (addr := addr))
  | .apop vd vc satv => some (ftnWord 0x04 (vd := vd.val) (vc := vc.val) (satv := satv.toNat))
  | .sst va vb gb addr => addr24 addr (ftnWord 0x05 (va := va.val) (vb := vb.val) (gb := gb.val) (addr := addr))
  | .vmovg vd ga => some (ftnWord 0x08 (vd := vd.val) (va := ga.val))
  | .gmovv gd va => some (ftnWord 0x09 (vd := gd.val) (va := va.val))
  | .int op vd va vb => some (ftnWord (intCode op) vd.val va.val vb.val)
  | .fp op vd va vb vc bf rnd => if rnd && !bf then none else some (ftnWord (fpCode op) vd.val va.val vb.val vc.val bf.toNat rnd.toNat)
  | .req vd va vb sh z sout rnd =>
    if sh < 64 then some (ftnWord 0x20 vd.val va.val vb.val (rnd := rnd.toNat) (sout := sout.toNat) (sh := sh) (z := z.toNat)) else none
  | .f2b vd va vb rnd => some (ftnWord 0x21 vd.val va.val vb.val (rnd := rnd.toNat))
  | .b2f vd va high => some (ftnWord 0x22 vd.val va.val (bf := high.toNat))
  | .i2f vd va => some (ftnWord 0x23 vd.val va.val)
  | .exp vd va => some (ftnWord 0x28 vd.val va.val)
  | .log vd va => some (ftnWord 0x29 vd.val va.val)
  | .red op vd va => some (ftnWord (redCode op) vd.val va.val)

/-! ### HND and MOV (Tables SLG-12 to SLG-14) -/

/-- The word of an HND operation. -/
def encodeHnd (opc : Nat) (f : HndFields) : Option Nat :=
  if f.fits then
    some (opc + f.int8.toNat * 2 ^ 8 + f.sgnA.toNat * 2 ^ 9 + f.sgnB.toNat * 2 ^ 10 + f.acc.toNat * 2 ^ 11 + f.out.toNat * 2 ^ 12 +
      f.outBf.toNat * 2 ^ 13 + f.addrA * 2 ^ 32 + f.addrB * 2 ^ 56 + f.addrC * 2 ^ 80 + f.m * 2 ^ 128)
  else none

/-- The word of a MOV operation. -/
def encodeMov (k : MovKind) (f : MovFields) : Option Nat :=
  if f.fits then
    some (movCode k + f.rd.val * 2 ^ 8 + f.gs.val * 2 ^ 13 + f.gb.val * 2 ^ 18 + f.dest.val * 2 ^ 23 + f.aop * 2 ^ 27 + f.bank * 2 ^ 32 +
      f.stock * 2 ^ 56 + f.len * 2 ^ 120 + f.ra.val * 2 ^ 152 + f.rb.val * 2 ^ 157)
  else none

/-! ### Any slot -/

/-- The word of a slot operation. The CTL and FTN slots have NOPs of their own. -/
def SlotOp.encode : SlotOp → Option Nat
  | .ctl c => encodeCtl c
  | .wload f => encodeAry 1 f
  | .run f => encodeAry 2 f
  | .build b => encodeBuild b
  | .peek g p a => encodePeek g p a
  | .ftn o => encodeFtn o
  | .hload f => encodeHnd 1 f
  | .hrun f => encodeHnd 2 f
  | .mov k f => encodeMov k f
  | .nop n => if n = 1 ∨ n = 2 ∨ n = 4 ∨ n = 5 then some 0 else none

/-- The operation that a word spells in a slot (Table SLG-1). -/
def decodeSlot (slot w : Nat) : Option SlotOp :=
  match slot with
  | 0 => (decodeCtl w).map .ctl
  | 1 => decodeAry w
  | 2 => decodeCas w
  | 3 => (decodeFtn w).map .ftn
  | 4 => decodeHnd w
  | 5 => decodeMov w
  | _ => none

/-- The bits of a slot (Table SLG-1). -/
def slotBits : Nat → Nat
  | 0 => 64 | 1 => 160 | 2 => 96 | 3 => 128 | 4 => 160 | _ => 192

end Sys2Proof.Machine
end

