-- ==== Sys2Proof/Safety.lean ====
section
/-!
DEFINITION. What the statements are made of: a command that has its effect, an engine that takes commands, and a run that
nothing stops.
-/

namespace Sys2Proof.Machine

/-- Command c, carried out on s, answers a next state, and P holds of it. -/
def Does (c : Instr) (s : State) (P : State → Prop) : Prop := ∃ t, exec c s = .next t ∧ P t

/-- The engine runs: it is not frozen, no thermal trip has stopped it and RESET_n is high. -/
def State.awake (s : State) : Prop := s.halted = false

/-- The engine runs and has reached READY, so that it takes what the host writes (R114). -/
def State.serves (s : State) : Prop := s.halted = false ∧ s.ready = true

/-- Between s and u, descriptor f of ring r was given its final result: one more result waits for the completion queue (R153, R154). -/
def State.posted (s u : State) (r : Ring) (f : Flight) (status detail result : Nat) : Prop :=
  ∃ c : Compl, (u.ring r).results = (s.ring r).results ++ [c] ∧ c.tag = f.tag ∧ c.slot = f.slot ∧ c.status = status ∧ c.final = true ∧
    c.detail = detail ∧ c.result = result

/-- Between s and u, a saturating counter went up by one. -/
def State.counted (s u : State) (f : Fld) : Prop := u.getF f = min f.top (s.getF f + 1)

/-- Press n can perform an operation at once: the engine runs, the press issues slugs, and the operation neither holds nor raises an
exception (R430, R467, R489). -/
def State.canIssue (s : State) (n : Press) (op : SlotOp) : Prop :=
  s.halted = false ∧ (s.press n).issues = true ∧ s.opHeld n op = false ∧ s.opFault n (s.press n) op = none ∧ s.opStochastic n op = false

/-- Between s and u nothing changed but press n. -/
def State.onlyPress (s u : State) (n : Press) : Prop := u = { s with presses := u.presses } ∧ ∀ m, m ≠ n → u.press m = s.press m

/-- Between s and u, press n raised an exception of a cause in a slot, which its registers record (R469, R473). -/
def State.excepted (s u : State) (n : Press) (cause slot addr : Nat) : Prop :=
  u.getF (PRS_EXC.CAUSE n.val) = cause ∧ u.getF (PRS_EXC.SLUG n.val) = (s.press n).pc % 2048 ∧ u.getF (PRS_EXC.SLOT n.val) = slot ∧
  u.getF (PRS_EXC_ADDR.ADDR n.val) = addr % 2 ^ 64 ∧ u.getF (PRS_EXC.COUNT n.val) = min (2 ^ 16 - 1) (s.getF (PRS_EXC.COUNT n.val) + 1)

/-- A notice is up (R33). -/
def State.noticed (s : State) (n : Notice) : Prop := (s.getF ARC_NOTICE_STATUS.NOTICE).testBit n.bit = true

/-- No page and no launch here depends on an undecided identity (R590, R591). -/
def State.settled (s : State) : Prop := s.stk.ppt = [] ∧ ∀ l ∈ s.launches, l.deps = []

/-- A galley is sound: it holds no more than its depth, what is not committed is part of it, and its counters fit their 32 bits (R174, R181,
R218). -/
def Galley.sound (depth : Nat) (x : Galley) : Prop :=
  x.words.length ≤ depth ∧ x.uncommitted ≤ x.words.length ∧ x.pktIn < 2 ^ 32 ∧ x.pktOut < 2 ^ 32 ∧ x.pktDrop < 2 ^ 32

/-- Every galley is sound. -/
def State.galleysSound (s : State) : Prop := ∀ g : GalleyId, (s.gal g).sound (galDepth g)

/-- A step that stops the block: a fault or a refusal. -/
def State.stuck (s : State) : Prop := ∀ t, step s ≠ .next t

/-- A safe run of n steps: none of them stops the block. -/
def State.safeFor (s : State) : Nat → Prop
  | 0 => True
  | n + 1 => ∃ t, step s = .next t ∧ t.safeFor n

/-- The commands that the always-on island, the supply monitor, the board's pins, MEM or the TAP carries out by itself: they have an
effect on an engine that stands still as well (R86, R793, R797, R803, R804). -/
def actsAtRest : Instr → Bool
  | .aonPowerOn => true
  | .boardReset => true
  | .resetNRise _ _ _ => true
  | .pcieReset _ => true
  | .perstNRise => true
  | .supplyReset _ => true
  | .vddCoreBelowWarn _ _ => true
  | .vddCoreAboveWarn _ _ => true
  | .vddCoreBelowClear _ _ => true
  | .vddCoreAboveClear _ _ => true
  | .supplyWarnAssert _ _ => true
  | .supplyWarnClear _ => true
  | .pfailAssert _ => true
  | .thermalSample _ => true
  | .memFreeze _ => true
  | .selfRefreshTimeout => true
  | .extest => true
  | .idcode => true
  | .samplePreload _ => true
  | .dbgStatus => true
  | .dbgChallenge => true
  | .dbgResponse _ => true
  | .scanSel _ => true
  | .scanRead _ => true
  | .sramAddr _ => true
  | .sramData => true
  | .thaw _ => true
  | .stopReset => true
  | .bypass => true
  | .tapReset => true
  | _ => false

end Sys2Proof.Machine
end

