-- ==== Sys2Proof/Certificates/Slice0/Obligations.lean ====
section
/-!
DEFINITION. The statements for the provers. Each says what the commands it names do: the next state that they answer, what it holds and
what it leaves; docstrings cite the rules of spec/ they follow.
-/

open Sys2Proof Sys2Proof.Machine

/-! ### The block as a whole -/

/-- A step carries out the front command on the state with the queue's rest; what an empty queue brings is the model's choice (log entry 21). -/
def Obligations.StepTakesTheFrontCommand : Prop :=
  (∀ (c : Instr) (rest : List Instr) (s : State), s.pending = c :: rest → step s = exec c { s with pending := rest }) ∧
  (∀ s : State, s.pending = [] → step s = .next s.idle)

/-- Every step answers a next state, so no run stops; the queue loses exactly its front command, first in, first out, and what it still holds
stays well formed. Where it goes past the text it rests on the model's choices of log entry 21. -/
def Obligations.EveryRunGoesOnInQueueOrder : Prop :=
  ∀ (n : Nat) (s : State), (∀ c ∈ s.pending, c.wellFormed = true) →
    ∃ t : State, Host.Core.run Sys2Proof.core n s = Host.Outcome.next t ∧ t.pending = s.pending.drop n ∧ ∀ c ∈ t.pending, c.wellFormed = true

/-- R86, R90, R793: an engine whose clocks stand still does nothing; only what the always-on island, the supply monitor, the pins, MEM and the
TAP do by themselves still has an effect. Where it goes past the text it rests on the model's choices of log entry 37. -/
def Obligations.RestingEngineDoesNothing : Prop :=
  ∀ (c : Instr) (s : State), actsAtRest c = false → s.halted = true → exec c s = .next s

/-- The values that the spec gives for reset, the canonical form of every memory, and the invariants of EveryRunGoesOnInQueueOrder and of
GalleysStaySound. Where it goes past the text it rests on the model's choices of log entries 2 and 36. -/
def Obligations.ResetHoldsWhatTheSpecGives : Prop :=
  State.reset.pending = [] ∧ State.reset.phase = phRom ∧ State.reset.ready = false ∧
  State.reset.getF DTL_STATE.STATE = stUnset ∧ State.reset.getF ARC_NOTICE_MASK.MASK = 0x3FFFF ∧
  State.reset.getF GRD_STATUS.VALID = 0 ∧ State.reset.getF PKG_SMON_STATUS.OPEN = 0 ∧
  (∀ r : Ring, (State.reset.ring r).state = .disabled) ∧ (∀ n : Press, (State.reset.press n).mode = .idle) ∧
  FMap.wf regReset State.reset.regs = true ∧ Memory.wf State.reset.stk.dram = true ∧ Memory.wf State.reset.stk.flash = true ∧
  Memory.wf State.reset.qspi = true ∧ Memory.wf State.reset.bus.hostMem = true ∧
  (∀ n : Press, Memory.wf (State.reset.press n).bank = true) ∧ State.reset.galleysSound ∧
  ∀ c ∈ State.reset.pending, c.wellFormed = true

/-- R114: before READY a host write outside the MKR block is ignored, whatever it would do, a BAR2 write among them, and a BAR2 read returns
all ones. -/
def Obligations.HostWritesWaitForReady : Prop :=
  ∀ (s : State) (t : Tick) (v : BitVec 64) (r : Ring) (n : Press) (k : Fin 4) (u : UnitId) (p : EthPort) (i : IngPort) (g : GalleyId)
    (q : Fin 16) (x : Nat) (data : List Byte) (mask : BitVec 16),
    s.ready = false →
    (s.awake → (∀ off h, inMkr off = false → inPcie off = false → Does (.registerWrite t off h v) s (fun u => u = s.at t)) ∧
      ∀ k, Does (.bar2Read x k) s (fun u => u = { s with bus := { s.bus with lastRead := List.replicate k 0xFF } })) ∧
    ∀ c ∈ [Instr.arcNoticeStatusWrite v, .arcNoticeMaskWrite v, .bar2Write t x data, .hstSqDbWrite r v, .hstCqDbWrite r v, .ringEnable r,
        .ringDrain r, .ringDrainFlush r, .galleyFlush g, .galHostTxData v, .galHostTxLast v, .dtlCapture t v, .dtlRateWrite t v,
        .dtlSlewWrite t v, .dtlSet t, .dtlSetAtPps, .dtlUnset t, .epochClockEnable t v, .dtlConv t v, .ptpPortEnable p,
        .ingPortEnable i, .ingPortDisable i, .mdioAddress v, .mdioWrite v, .mdioRead v, .calLoad, .gridEnable, .reseed,
        .prsClear n, .prsDropImage n, .proxyRead, .proxyWrite, .chnProxyIrqWrite u v, .pinRangeEnable q, .pinRangeDisable q,
        .grdPairEnable k v, .grdRearm v, .bistRequest mask, .fenceNow t v, .clearSoft v, .ckptGo t, .adopt, .dbgFreezeGo t v],
      exec c s = .next s

/-! ### Makeready and the kinds of reset -/

/-- The boot phases in their order (Table MKR-4): each runs only in its phase, leads on to the next one or into HALT with its error, and an
image that is not accepted gives way to slot 1. Phase ENUM and READY (R104, R632, R637): the root starts the walk and another unit
announces itself; a root without links becomes standalone; READY follows ENUM_DONE, and the sticky record takes the unit's ID. Where it
goes past the text it rests on the model's choices of log entry 28. -/
def Obligations.MakereadyLeadsToReady : Prop :=
  (∀ (us : Nat) (s : State), s.awake →
     (s.phase = phRom → Does (.romPhase us) s (fun t => t.phase = phOtp ∧
       t.getF (MKR_PHASE_TIME.TIME_US 1) = min (2 ^ 32 - 1) (s.getF (MKR_PHASE_TIME.TIME_US 1) + us))) ∧
     (s.phase = phOtp → Does (.otpPhase us true) s (fun t => t.phase = phFwLoad) ∧
       Does (.otpPhase us false) s (fun t => t.phase = phHalt ∧ t.getF MKR_STATUS.ERROR = 0x11)) ∧
     (s.phase = phFwLoad → Does (.fwLoad us true) s (fun t => t.phase = phFwVerify) ∧
       (s.slotTried = 0 → Does (.fwLoad us false) s (fun t => t.phase = phFwLoad ∧ t.slotTried = 1)) ∧
       (s.slotTried ≠ 0 → Does (.fwLoad us false) s (fun t => t.phase = phHalt ∧ t.getF MKR_STATUS.ERROR = 0x10))) ∧
     (s.phase = phFwVerify →
       (fwCheck s.otp (s.image s.slotTried).1 (s.image s.slotTried).2 = 0 → Does (.fwVerify us) s (fun t => t.phase = phConfig ∧
         t.getF MKR_STATUS.FW_SLOT = s.slotTried)) ∧
       (fwCheck s.otp (s.image s.slotTried).1 (s.image s.slotTried).2 ≠ 0 → s.slotTried ≠ 0 → Does (.fwVerify us) s (fun t =>
         t.phase = phHalt ∧ t.getF MKR_STATUS.ERROR = 0x10))) ∧
     (s.phase = phConfig → Does (.configPhase us) s (fun t => t.phase = phBist)) ∧
     (s.phase = phBist → ∀ faults, Does (.bistRepairPhase us faults) s (fun t =>
       (t.getF SCP_ID.PRESS_MAP ≠ 0 ∧ t.phase = phDram) ∨ (t.getF SCP_ID.PRESS_MAP = 0 ∧ t.phase = phHalt ∧ t.getF MKR_STATUS.ERROR = 0x15))) ∧
     (s.phase = phDram → Does (.trainDram us true) s (fun t => t.phase = phFlash ∧ t.mkr.dramOk = true) ∧
       Does (.trainDram us false) s (fun t => t.phase = phHalt ∧ t.getF MKR_STATUS.ERROR = 0x12)) ∧
     (s.phase = phFlash → Does (.trainFlash us true) s (fun t => t.phase = phJournal) ∧
       Does (.trainFlash us false) s (fun t => t.phase = phHalt ∧ t.getF MKR_STATUS.ERROR = 0x13)) ∧
     (s.phase = phJournal → ∀ copy0 copy1, Does (.journalReplay ⟨us, copy0, copy1⟩) s (fun t =>
       if (s.stk.ckptOk.1 && copy0) || (s.stk.ckptOk.2 && copy1) then t.phase = phSerdes ∧ t.mkr.journalOk = true
       else t.phase = phHalt ∧ t.getF MKR_STATUS.ERROR = 0x14)) ∧
     (s.phase = phSerdes → Does (.serdesPhase us true) s (fun t => t.phase = phEnum) ∧
       Does (.serdesPhase us false) s (fun t => t.phase = phHalt ∧ t.getF MKR_STATUS.ERROR = 0x16))) ∧
  (∀ (us : Nat) (s : State), s.awake →
     (s.phase = phEnum → s.bitF MKR_STATUS.ENUM_DONE = false → s.chn.walk.walking = false →
       (s.bitF CHN_ID.ROOT = true → Does .enumPhase s (fun t => t.chn.walk.walking = true ∧ t.getF CHN_ID.MODE = 3)) ∧
       (s.bitF CHN_ID.ROOT = false → Does .enumPhase s (fun t =>
         ∀ d : Port, s.portUp d = true →
           ⟨s.announceMsg (if s.bitF CHN_ID.ID_VALID then some s.unit else s.sticky), false⟩ ∈ (t.port d).passing))) ∧
     (s.phase = phEnum → s.bitF CHN_ID.ROOT = true → s.bitF MKR_STATUS.ENUM_DONE = false → s.portUp 0 = false → s.portUp 1 = false →
       1000 * s.getF MKR_BOOT_CFG.ENUM_WAIT_MS ≤ us → Does (.enumWaitExpire us) s (fun t =>
         t.getF MKR_STATUS.STANDALONE = 1 ∧ t.getF MKR_STATUS.ENUM_DONE = 1 ∧ t.getF CHN_ID.UNIT_ID = 0 ∧ t.getF CHN_ID.MODE = 0)) ∧
     (s.phase = phEnum → s.bitF MKR_STATUS.ENUM_DONE = true → Does (.makereadyReady us) s (fun t =>
       t.ready = true ∧ t.phase = phReady ∧ t.getF MKR_STATUS.READY_US = min (2 ^ 32 - 1) us)) ∧
     (s.ready = true → s.bitF CHN_ID.ID_VALID = true → s.sticky ≠ some s.unit → Does .chainRecordRewrite s (fun t =>
       t = { s with qspi := s.qspi.write chainRecordAt (chainRecord s.unit ((s.recordWrites + 1) % 2 ^ 16)) })))

/-- The recovery mailbox (R124): an operation starts in READY and HALT, sets BUSY, and at its end reads, programs (bits only fall) or erases
the boot flash; a misaligned address fails it. Where it goes past the text it rests on the model's choices of log entry 28. -/
def Obligations.RecoveryMailboxOperates : Prop :=
  ∀ s : State, s.awake →
    (s.recTakes = true → ∀ c ∈ [(Instr.recRead, 1), (.recProgram, 2), (.recErase, 3)],
      Does c.1 s (fun t => t.getF MKR_REC_CMD.BUSY = 1 ∧
        t.mkr.op = some { op := c.2, addr := s.getF MKR_REC_ADDR.ADDR, data := (s.reg MKR_REC_DATA).toNat } ∧ t.qspi = s.qspi)) ∧
    (∀ o : RecOp, s.mkr.op = some o → o.aligned = true → Does (.recOpDone true) s (fun t =>
      t.getF MKR_REC_CMD.BUSY = 0 ∧ t.getF MKR_REC_CMD.DONE_ERR = 0 ∧ t.mkr.op = none ∧
      (o.op = 1 → t.reg MKR_REC_DATA = BitVec.ofNat 64 (leNat (s.qspi.read o.addr 8)) ∧ t.qspi = s.qspi) ∧
      (o.op = 2 → t.qspi = s.qspi.write o.addr (leBytes 8 (leNat (s.qspi.read o.addr 8) &&& o.data))) ∧
      (o.op = 3 → t.qspi = s.qspi.erase o.addr 65536))) ∧
    (∀ o : RecOp, s.mkr.op = some o → o.aligned = false → ∀ ok, Does (.recOpDone ok) s (fun t =>
      t.getF MKR_REC_CMD.BUSY = 0 ∧ t.getF MKR_REC_CMD.DONE_ERR = 1 ∧ t.qspi = s.qspi))

/-- The kinds of reset (Table MKR-1): what each clears and what each keeps. An AON power-on, a board reset and a supply reset leave only the
flash tier, the boot flash, the fuses and what lies outside the engine. Warm resets and the PCIe side (R89 to R92, R110, R117, R123): the
TIME domain goes on, the press and the rings start afresh; a latched PFAIL turns the request away; the link comes up after ROM and goes
down with PERST_n; the watchdog does not expire in HALT. R44, R46: RESET_n rising samples the straps: CHAIN_ROOT into ROOT, and two bits of
the SMBus address 1011_0xx; a PFAIL latched before then halts makeready with 0x17 (R80). Where it goes past the text it rests on the model's
choices of log entry 28. -/
def Obligations.ResetsClearAndKeep : Prop :=
  (∀ (s : State) (t : SupplyDip), s.belowReset t = true →
     (∀ c ∈ [(Instr.aonPowerOn, 0), (.boardReset, 1), (.supplyReset t, 2)], Does c.1 s (fun u =>
       u.phase = phRom ∧ u.ready = false ∧ u.getF MKR_STATUS.RESET_CAUSE = c.2 ∧ u.presses = Vector.replicate 16 {} ∧
       u.rings = Vector.replicate 64 {} ∧ u.launches = [] ∧ u.bus.linkUp = false ∧ u.getF ARC_NOTICE_STATUS.NOTICE = 0 ∧
       u.getF PKG_PFAIL_STATUS.PFAIL = 0 ∧ u.stk.dram.cells = [] ∧ (∃ g, u.stk.dram.undef = [⟨0, s.board.dramBytes, g⟩]) ∧
       u.stk.flash = s.stk.flash ∧ u.qspi = s.qspi ∧ u.otp = s.otp ∧ u.bus.hostMem = s.bus.hostMem))) ∧
  (∀ (s : State) (srOk : Bool), s.awake →
     (s.bitF PKG_PFAIL_STATUS.PFAIL = false →
       Does (.smbusWarmReset srOk) s (fun u => u.getF MKR_STATUS.RESET_CAUSE = 5 ∧ u.phase = phRom ∧ u.ready = false ∧ u.dtl = s.dtl ∧
         u.presses = Vector.replicate 16 {} ∧ u.rings = Vector.replicate 64 {} ∧ u.bus = { s.bus with rxWait := none } ∧ u.unit = s.unit ∧
         u.getF MKR_RESET_CTRL.RETAIN = s.getF MKR_RESET_CTRL.RETAIN) ∧
       ∀ v : BitVec 64, MKR_RESET_CTRL.WARM.get v = 1 → MKR_RESET_CTRL.KEY.get v = 0xA5 →
         Does (.warmReset v srOk) s (fun u => u.getF MKR_STATUS.RESET_CAUSE = 4 ∧ u.phase = phRom ∧ u.dtl = s.dtl ∧
           u.getF MKR_RESET_CTRL.RETAIN = MKR_RESET_CTRL.RETAIN.get v)) ∧
     (s.bitF PKG_PFAIL_STATUS.PFAIL = true → Does (.smbusWarmReset srOk) s (fun u => u = s)) ∧
     (s.bitF MKR_BOOT_CFG.WDOG_EN = true → s.mkr.wdogOff = false → phFwVerify < s.phase → s.phase ≠ phHalt → Does .watchdogExpire s (fun u =>
       u.phase = phRom ∧ u.ready = false ∧ u.getF MKR_STATUS.RESET_CAUSE = 3)) ∧
     (s.phase = phHalt → Does .watchdogExpire s (fun u => u = s)) ∧
     Does (.pcieReset true) s (fun u => u.rings = Vector.replicate 64 {} ∧ u.bus.vecMask = BitVec.allOnes 64 ∧ u.bus.bar2Log2 = 36 ∧
       u.bus.linkUp = false ∧ u.bus.perst = true ∧
       u.dtl = s.dtl ∧ u.presses = s.presses ∧ u.epochs = s.epochs ∧ u.grd = s.grd ∧ u.phase = s.phase) ∧
     Does (.pcieReset false) s (fun u => u.rings = Vector.replicate 64 {} ∧ u.bus.linkUp = s.bus.linkUp ∧ u.bus.perst = s.bus.perst) ∧
     Does .perstNRise s (fun u => u = { s with bus := { s.bus with perst := false } }) ∧
     (s.bus.perst = false → s.phase ≠ phRom → Does .pcieLinkUp s (fun u => u = { s with bus := { s.bus with linkUp := true } })) ∧
     (s.bus.perst = true ∨ s.phase = phRom → Does .pcieLinkUp s (fun u => u = s))) ∧
  (∀ (s : State) (r : StrapRise) (a0 a1 : Bool), s.pkg.resetLow = true →
     (s.bitF PKG_PFAIL_STATUS.PFAIL = false → Does (.resetNRise r a0 a1) s (fun u =>
       u.pkg.resetLow = false ∧ u.pkg.strapRoot = r.root ∧ u.getF CHN_ID.ROOT = r.root.toNat ∧ u.pkg.smbAddr = 0x58 + 2 * a1.toNat + a0.toNat)) ∧
     (s.bitF PKG_PFAIL_STATUS.PFAIL = true → s.bitF PKG_PFAIL_STATUS.FLUSH_ACTIVE = false → s.bitF PKG_PFAIL_STATUS.FLUSH_DONE = false →
       s.ready = false → s.bitF MKR_STATUS.RETAINED = false → Does (.resetNRise r a0 a1) s (fun u =>
         u.phase = phHalt ∧ u.getF MKR_STATUS.ERROR = 0x17 ∧ u.getF PKG_PFAIL_STATUS.FLUSH_DONE = 1 ∧ u.noticed .pfail ∧ u.mkr.wdogOff = true)))

/-! ### Registers, notices, BAR2 and proxy control -/

/-- R13, R14, R16, R114: a 64-bit write of a package register gives each field what its type says; half a write is kept until its upper half
comes; an access that is misaligned, reserved or too early changes no register; a field of type RWL is set until makeready completes and keeps
its value afterwards. R12: an access to BAR0 of another size, or unaligned, changes no register: a write is ignored and a read returns all
ones. What stands for a lower half that was never written, and that a 64-bit write leaves the lower half kept as it is, are the model's choices
(log entries 51 and 52). -/
def Obligations.RegisterWritesByTypeAndHalf : Prop :=
  (∀ (s : State) (t : Tick) (off : Nat) (v : BitVec 64), s.awake →
     (s.ready = true → 0x2000 ≤ off → off < 0x4000 → off ≠ PKG_DVFS_CTRL → off % 8 = 0 → ∀ r, regAt off = some r →
       Does (.registerWrite t off .full v) s (fun u =>
         u.reg off = storedWord off (((s.reg off &&& ~~~ kindMask (fun k => decide (k = .rw)) r.fields) |||
           (v &&& kindMask (fun k => decide (k = .rw)) r.fields)) &&& ~~~ (v &&& kindMask (fun k => decide (k = .w1c)) r.fields)) ∧
         ∀ o, o ≠ off → u.reg o = s.reg o)) ∧
     (s.ready = true → off % 8 = 0 → inPcie off = false → (regAt off).isSome = true →
       Does (.registerWrite t off .lower v) s (fun u => u.regs = s.regs ∧
         FMap.get (fun _ => 0#32) u.halves off = v.setWidth 32 ∧ u.presses = s.presses ∧ u.rings = s.rings) ∧
       exec (.registerWrite t off .upper v) s = exec (.registerWrite t off .full
         (((v.setWidth 32 : BitVec 32).setWidth 64 <<< 32) ||| (FMap.get (fun _ => 0#32) s.halves off).setWidth 64)) s) ∧
     (off % 8 ≠ 0 ∨ (s.ready = false ∧ inMkr off = false) ∨ regAt off = none → inPcie off = false → ∀ h : Half,
       Does (.registerWrite t off h v) s (fun u => u = s.at t)) ∧
     Does (.registerWrite t MKR_BOOT_CFG .full v) s (fun u => if s.ready then u.reg MKR_BOOT_CFG = s.reg MKR_BOOT_CFG
       else u.getF MKR_BOOT_CFG.ENUM_WAIT_MS = MKR_BOOT_CFG.ENUM_WAIT_MS.get v ∧ u.getF MKR_BOOT_CFG.WDOG_EN = MKR_BOOT_CFG.WDOG_EN.get v)) ∧
  (∀ (s : State) (off size : Nat), s.awake →
     Does (.bar0BadAccess true off size) s (fun u => u = s) ∧
     Does (.bar0BadAccess false off size) s (fun u => u = { s with bus := { s.bus with lastRead := List.replicate size 0xFF } }))

/-- R33: raising a notice sets its bit whatever the mask says, and one MSI-X message, held or forwarded where the vector is masked or the root
is the master, goes out exactly when an unmasked bit changes from 0 to 1. R34: a write of the status clears the bits that are 1, a write
of the mask replaces it, and each sends one message when an unmasked bit is 1 after it. -/
def Obligations.NoticesAndTheirMessages : Prop :=
  ∀ (s : State) (v : BitVec 64),
    let vec := s.getF ARC_NOTICE_VECTOR.VECTOR
    let held := s.bus.fnMask || s.bus.vecMask.getLsbD vec
    let on := s.bus.msixOn
    (∀ n : Notice, ((s.raise n).getF ARC_NOTICE_STATUS.NOTICE).testBit n.bit = true ∧
      (∀ i, i ≠ n.bit → ((s.raise n).getF ARC_NOTICE_STATUS.NOTICE).testBit i = (s.getF ARC_NOTICE_STATUS.NOTICE).testBit i) ∧
      ((s.getF ARC_NOTICE_STATUS.NOTICE).testBit n.bit = false → (s.getF ARC_NOTICE_MASK.MASK).testBit n.bit = false →
        (s.bitF CHN_CFG.MASTER = false →
          (on = true → held = false → (s.raise n).bus = { s.bus with msix := vec :: s.bus.msix }) ∧
          (on = true → held = true → (s.raise n).bus = { s.bus with pba := s.bus.pba ||| (1#64 <<< vec) }) ∧
          (on = false → (s.raise n).bus = s.bus)) ∧
        (s.bitF CHN_CFG.MASTER = true → (s.raise n).bus = s.bus ∧ ∃ m, (s.raise n).chn.inject = s.chn.inject ++ [m] ∧ m.op = opIrqFwd ∧
          m.inline = leBytes 32 vec)) ∧
      ((s.getF ARC_NOTICE_STATUS.NOTICE).testBit n.bit = true ∨ (s.getF ARC_NOTICE_MASK.MASK).testBit n.bit = true →
        (s.raise n).bus = s.bus ∧ (s.raise n).chn = s.chn)) ∧
    (s.serves → s.bitF CHN_CFG.MASTER = false → on = true → held = false →
      Does (.arcNoticeStatusWrite v) s (fun u => u.reg ARC_NOTICE_STATUS = s.reg ARC_NOTICE_STATUS &&& ~~~ (v &&& 0x3FFFF#64) ∧
        (∀ o, o ≠ ARC_NOTICE_STATUS → u.reg o = s.reg o) ∧
        u.bus.msix = (if u.getF ARC_NOTICE_STATUS.NOTICE &&& (0x3FFFF - s.getF ARC_NOTICE_MASK.MASK) = 0 then s.bus.msix
          else s.getF ARC_NOTICE_VECTOR.VECTOR :: s.bus.msix)) ∧
      Does (.arcNoticeMaskWrite v) s (fun u => u.getF ARC_NOTICE_MASK.MASK = v.toNat % 2 ^ 18 ∧
        (∀ o, o ≠ ARC_NOTICE_MASK → u.reg o = s.reg o) ∧
        u.bus.msix = (if s.getF ARC_NOTICE_STATUS.NOTICE &&& (0x3FFFF - v.toNat % 2 ^ 18) = 0 then s.bus.msix
          else s.getF ARC_NOTICE_VECTOR.VECTOR :: s.bus.msix)))

/-- R114, R127 to R129, R605: before READY a BAR2 read returns all ones; one that a provisional page hides, or that a partition forbids,
returns all ones and is counted, and a write that meets another's provisional page or a forbidden partition is dropped and counted. R125: the
host resizes BAR2 from 1 GiB to 256 GiB. Where it goes past the text it rests on the model's choices of log entries 29 and 33. -/
def Obligations.Bar2ReachesTheStock : Prop :=
  ∀ (s : State) (t : Tick) (x n : Nat) (data : List Byte), s.awake →
    (s.ready = false → Does (.bar2Read x n) s (fun u => u = { s with bus := { s.bus with lastRead := List.replicate n 0xFF } })) ∧
    (s.ready = true →
      (s.pptHolders none (s.bar2Addr x) n ≠ [] → Does (.bar2Read x n) s (fun u => u.bus.lastRead = List.replicate n 0xFF ∧
        u.stk = s.stk ∧ u.getF HST_BAR2_ERR.FAILED_READS = min (2 ^ 32 - 1) (s.getF HST_BAR2_ERR.FAILED_READS + 1))) ∧
      (s.pptHolders none (s.bar2Addr x) n = [] → (s.stkDo (s.bar2Req x (.read n))).1.status = .ok → Does (.bar2Read x n) s (fun u =>
        u.bus.lastRead = (s.stkDo (s.bar2Req x (.read n))).1.data)) ∧
      ((s.at t).pptForeign none (s.bar2Addr x) data.length = true → Does (.bar2Write t x data) s (fun u => u.stk = s.stk ∧
        u.getF HST_BAR2_ERR.DROPPED_WRITES = min (2 ^ 32 - 1) (s.getF HST_BAR2_ERR.DROPPED_WRITES + 1))) ∧
      ((s.at t).pptForeign none (s.bar2Addr x) data.length = false → ((s.at t).stkDo (s.bar2Req x (.write data))).1.status = .ok →
        Does (.bar2Write t x data) s (fun u => u.stk = ((s.at t).stkDo (s.bar2Req x (.write data))).2.stk))) ∧
    (∀ v : BitVec 64, s.bus.linkUp = true → 10 ≤ bitsOf (v.setWidth 32 : BitVec 32).toNat 13 8 → bitsOf (v.setWidth 32 : BitVec 32).toNat 13 8 ≤ 18 →
      Does (.registerWrite t (cfgBase + 0x158) .lower v) s (fun u =>
        u = { s.at t with bus := { s.bus with bar2Log2 := bitsOf (v.setWidth 32 : BitVec 32).toNat 13 8 + 20 } }))

/-- R651, R654: the root's proxy control sends one request, which sets BUSY; a target that no route reaches ends it with ERR at once, a
time-out ends it with ERR; and a write of a unit's interrupt word clears bits and sends a message while any bit is left. Where it goes
past the text it rests on the model's choices of log entry 29. -/
def Obligations.ProxyControlSendsOneRequest : Prop :=
  ∀ s : State, s.serves →
    (s.bitF CHN_PROXY_CMD.BUSY = false → s.bitF CHN_ID.ROOT = true →
      (s.reachable (s.getF CHN_PROXY_TARGET.UNIT) = true → ∀ c ∈ [(Instr.proxyRead, opRegRead), (.proxyWrite, opRegWrite)],
        Does c.1 s (fun u => u.getF CHN_PROXY_CMD.BUSY = 1 ∧ u.getF CHN_PROXY_CMD.ERR = 0 ∧ ∃ m, u.chn.proxy = some m ∧
          m.op = c.2 ∧ m.dst = s.getF CHN_PROXY_TARGET.UNIT ∧ m.addr = s.getF CHN_PROXY_TARGET.OFFSET / 8 * 8 ∧ m.tag = s.chn.nextTag)) ∧
      (s.reachable (s.getF CHN_PROXY_TARGET.UNIT) = false → ∀ c ∈ [Instr.proxyRead, .proxyWrite],
        Does c s (fun u => u.getF CHN_PROXY_CMD.BUSY = 0 ∧ u.getF CHN_PROXY_CMD.ERR = 1 ∧ u.chn.proxy = none ∧ u.chn.inject = s.chn.inject))) ∧
    (s.chn.proxy ≠ none → Does .proxyTimeout s (fun u => u.getF CHN_PROXY_CMD.BUSY = 0 ∧ u.getF CHN_PROXY_CMD.ERR = 1 ∧ u.chn.proxy = none ∧
      u.reg CHN_PROXY_DATA = s.reg CHN_PROXY_DATA)) ∧
    (∀ (k : UnitId) (v : BitVec 64), s.bus.msixOn = true → s.bus.fnMask = false → s.bus.vecMask.getLsbD (s.getF CHN_PROXY_VEC.PROXY_VEC) = false →
      Does (.chnProxyIrqWrite k v) s (fun u => u.reg (CHN_PROXY_IRQ k.val) = s.reg (CHN_PROXY_IRQ k.val) &&& ~~~ v ∧
        u.bus.msix = (if s.reg (CHN_PROXY_IRQ k.val) &&& ~~~ v = 0 then s.bus.msix
          else s.getF CHN_PROXY_VEC.PROXY_VEC :: s.bus.msix)))

/-! ### Package and power -/

/-- R61, R63, R75: a step to a faster point writes the new voltage and only then, once the regulator has settled and no warning window is
open, raises the clock; a step to a slower one lowers the clock at once and then the voltage; without voltage control no VOUT_COMMAND is
written and P2 is the fastest point; in an open window no faster step starts; a step past a ceiling lowered meanwhile is given up. Where it goes past the text it rests on the model's choices
of log entry 27. -/
def Obligations.OperatingPointSteps : Prop :=
  ∀ (s : State) (p : Fin 5), s.awake →
    (p.val < s.getF PKG_DVFS_STATUS.POINT → s.bitF PKG_SMON_STATUS.OPEN = false → s.bitF PKG_DVFS_STATUS.STEPPING = false →
      (s.bitF PKG_DVFS_CFG.PMB_EN = true → s.getF PKG_DVFS_CTRL.CEIL ≤ p.val → Does (.dvfsStepUp p) s (fun u =>
        u.getF PKG_DVFS_STATUS.POINT = s.getF PKG_DVFS_STATUS.POINT ∧ u.getF PKG_DVFS_STATUS.STEPPING = 1 ∧ u.pkg.vout = 850 - 50 * p.val ∧
        u.pkg.stepTo = some p.val ∧ u.pkg.settled = false)) ∧
      (s.bitF PKG_DVFS_CFG.PMB_EN = false → max 2 (s.getF PKG_DVFS_CTRL.CEIL) ≤ p.val → Does (.dvfsStepUp p) s (fun u =>
        u.getF PKG_DVFS_STATUS.POINT = p.val ∧ u.pkg = s.pkg))) ∧
    (s.bitF PKG_SMON_STATUS.OPEN = true → Does (.dvfsStepUp p) s (fun u => u = s)) ∧
    (s.pkg.stepTo = some p.val → s.fastest ≤ p.val → Does .dvfsSettleExpire s (fun u =>
      (s.bitF PKG_SMON_STATUS.OPEN = false → u.getF PKG_DVFS_STATUS.POINT = p.val ∧ u.getF PKG_DVFS_STATUS.STEPPING = 0 ∧
        u.pkg.stepTo = none) ∧
      (s.bitF PKG_SMON_STATUS.OPEN = true → u.getF PKG_DVFS_STATUS.POINT = s.getF PKG_DVFS_STATUS.POINT ∧ u.pkg.settled = true ∧
        u.pkg.stepTo = some p.val))) ∧
    (s.pkg.stepTo = some p.val → p.val < s.fastest → Does .dvfsSettleExpire s (fun u =>
      u.getF PKG_DVFS_STATUS.POINT = s.getF PKG_DVFS_STATUS.POINT ∧ u.getF PKG_DVFS_STATUS.STEPPING = 0 ∧ u.pkg.stepTo = none)) ∧
    (s.getF PKG_DVFS_STATUS.POINT < p.val → Does (.dvfsStepDown p) s (fun u =>
      u.getF PKG_DVFS_STATUS.POINT = p.val ∧ u.getF PKG_DVFS_STATUS.STEPPING = 0 ∧ u.pkg.stepTo = none ∧
      u.pkg.vout = if s.bitF PKG_DVFS_CFG.PMB_EN then 850 - 50 * p.val else s.pkg.vout))

/-- R66, R67: the 200 ns filter and the 100 µs wait of the supply monitor; its warning level is WARN_LEVEL half-percents of the set point.
R66, R69, R73, R76, R736: a window opens at the start of the filter, with its count, its lowest reading and a safe state of the pins; it
closes when the warning clears after 100 µs, and flash programming goes on. Where it goes past the text it rests on the model's choices of
log entry 27. -/
def Obligations.SupplyWarningsFilterAndOpenWindows : Prop :=
  (∀ (s : State) (t : Tick) (mv : Nat), s.awake →
     (200 * mv < s.getF PKG_SMON_CFG.WARN_LEVEL * s.setMv → Does (.vddCoreBelowWarn t mv) s (fun u =>
       u.pkg.filter = some (max s.dtl.count t, mv) ∧ u.pkg.clearAt = none ∧ u.getF PKG_SMON_STATUS.CLEARING = 0 ∧
       u.getF PKG_SMON_STATUS.OPEN = s.getF PKG_SMON_STATUS.OPEN)) ∧
     (s.getF PKG_SMON_CFG.WARN_LEVEL * s.setMv ≤ 200 * mv → Does (.vddCoreAboveWarn t mv) s (fun u =>
       u.pkg.filter = none ∧ u.pkg.clearAt = s.pkg.clearAt ∧ u.pkg.warn = s.pkg.warn)) ∧
     ((s.getF PKG_SMON_CFG.WARN_LEVEL + 4) * s.setMv ≤ 200 * mv → s.pkg.warn = true → s.pkg.clearAt = none →
       Does (.vddCoreAboveClear t mv) s (fun u => u.pkg.clearAt = some (max s.dtl.count t) ∧ u.getF PKG_SMON_STATUS.CLEARING = 1 ∧
         u.pkg.filter = none)) ∧
     (200 * mv < (s.getF PKG_SMON_CFG.WARN_LEVEL + 4) * s.setMv → Does (.vddCoreBelowClear t mv) s (fun u =>
       u.pkg.clearAt = none ∧ u.getF PKG_SMON_STATUS.CLEARING = 0 ∧ u.pkg.warn = s.pkg.warn))) ∧
  (∀ (s : State) (t c : Tick) (mv low : Nat), s.awake →
     (s.pkg.filter = some (c, low) → c + 100 ≤ max s.dtl.count t → s.bitF PKG_SMON_STATUS.OPEN = false → low < 2 ^ 16 →
       Does (.supplyWarnAssert t mv) s (fun u =>
         u.pkg.warn = true ∧ u.pkg.filter = none ∧ u.pkg.windows = (c, none) :: s.pkg.windows ∧ u.getF PKG_SMON_STATUS.OPEN = 1 ∧
         u.getF PKG_SMON_STATUS.WARN = 1 ∧ u.getF PKG_SMON_START.COUNT = c % 2 ^ 64 ∧ u.getF PKG_SMON_MIN.MIN_MV = min low mv ∧
         u.pkg.suspended = !s.bitF PKG_PFAIL_STATUS.FLUSH_ACTIVE ∧ u.getF GRD_STATUS.VALID = 0 ∧
         (u.getF ARC_NOTICE_STATUS.NOTICE).testBit 0 = true)) ∧
     (s.pkg.filter = some (c, low) → max s.dtl.count t < c + 100 → Does (.supplyWarnAssert t mv) s (fun u => u = s.at t)) ∧
     (s.pkg.clearAt = some c → c + 50000 ≤ max s.dtl.count t → s.pkg.stepTo = none → Does (.supplyWarnClear t) s (fun u =>
       u.pkg.warn = false ∧ u.pkg.suspended = false ∧ u.getF PKG_SMON_STATUS.OPEN = 0 ∧ u.getF PKG_SMON_STATUS.WARN = 0 ∧
       u.getF PKG_SMON_END.COUNT = max s.dtl.count t % 2 ^ 64 ∧ ∀ w ∈ u.pkg.windows, w.2 ≠ none)))

/-- R78, R80, R700, R797: PFAIL_n latches PFAIL; during a freeze nothing else happens; before READY the engine stops the watchdog and halts,
with nothing to write back unless a retained journal was replayed; in READY the flush begins. The flush ends with FLUSH_DONE and both
checkpoint copies programmed. Where it goes past the text it rests on the model's choices of log entry 27. -/
def Obligations.PfailFlushes : Prop :=
  ∀ (s : State) (t : Tick) (us : Nat),
    (s.halted = true → s.bitF PKG_PFAIL_STATUS.PFAIL = false → Does (.pfailAssert t) s (fun u =>
      u = s.setF PKG_PFAIL_STATUS.PFAIL 1)) ∧
    (s.awake → s.bitF PKG_PFAIL_STATUS.PFAIL = true → Does (.pfailAssert t) s (fun u => u = s.at t)) ∧
    (s.awake → s.bitF PKG_PFAIL_STATUS.PFAIL = false → s.ready = false → (s.bitF MKR_STATUS.RETAINED && s.mkr.journalOk) = false →
      Does (.pfailAssert t) s (fun u => u.getF PKG_PFAIL_STATUS.PFAIL = 1 ∧ u.getF PKG_PFAIL_STATUS.FLUSH_DONE = 1 ∧
        u.phase = phHalt ∧ u.getF MKR_STATUS.ERROR = 0x17 ∧ u.mkr.wdogOff = true ∧ u.stk = s.stk ∧
        (u.getF ARC_NOTICE_STATUS.NOTICE).testBit 1 = true)) ∧
    (s.awake → s.bitF PKG_PFAIL_STATUS.PFAIL = false → s.ready = true →
      Does (.pfailAssert t) s (fun u => u = ((((s.at t).setF PKG_PFAIL_STATUS.PFAIL 1).raise .pfail).flushStart).setPending s.pending)) ∧
    (s.awake → s.bitF PKG_PFAIL_STATUS.FLUSH_ACTIVE = true → s.pressesQuiet = true → Does (.pfailFlushDone us) s (fun u =>
      u.getF PKG_PFAIL_STATUS.FLUSH_ACTIVE = 0 ∧ u.getF PKG_PFAIL_STATUS.FLUSH_DONE = 1 ∧ u.stk.ckptOk = (true, true) ∧ u.stk.jrecs = 0)) ∧
    (s.awake → s.bitF PKG_PFAIL_STATUS.FLUSH_ACTIVE = false ∨ s.pressesQuiet = false → Does (.pfailFlushDone us) s (fun u => u = s))

/-- R83 to R86, R785, R797: a round of readings shows the hottest, with a notice when it rises above WARN_C; at 115 °C every clock but AON
stops, also in a freeze; the loop steps one point slower while the hottest lies above TARGET_C, and faster while it lies more than 3 °C
below. Where it goes past the text it rests on the model's choices of log entry 27. -/
def Obligations.ThermalLoop : Prop :=
  ∀ (s : State) (temps : List Int),
    (s.halted = true → Does (.thermalSample temps) s (fun u =>
      u = if (temps.take 20).any (fun t => decide (115 ≤ t)) then { s with pkg := { s.pkg with tripped := true } } else s)) ∧
    (s.awake → (temps.take 20).any (fun t => decide (115 ≤ t)) = true → Does (.thermalSample temps) s (fun u =>
      u.pkg.tripped = true ∧ u.getF GRD_STATUS.VALID = 0)) ∧
    (s.awake → (temps.take 20).any (fun t => decide (115 ≤ t)) = false → ∀ top id, hottest (temps.take 20) = some (top, id) →
      -128 ≤ top → id < 32 → Does (.thermalSample temps) s (fun u =>
        u.hot = top ∧ u.getF PKG_THERM_STATUS.HOTTEST_ID = id ∧ u.pkg = s.pkg ∧
        (u.bitF PKG_THERM_STATUS.ABOVE_WARN = true ↔ (s.getF PKG_THERM_CFG.WARN_C : Int) < top) ∧
        (s.bitF PKG_THERM_STATUS.ABOVE_WARN = false → (s.getF PKG_THERM_CFG.WARN_C : Int) < top →
          (u.getF ARC_NOTICE_STATUS.NOTICE).testBit 2 = true))) ∧
    (s.awake → (s.getF PKG_THERM_CFG.TARGET_C : Int) < s.hot → s.getF PKG_DVFS_STATUS.POINT < 4 →
      s.getF PKG_DVFS_STATUS.POINT < max (s.getF PKG_DVFS_CTRL.FLOOR) (s.getF PKG_DVFS_CTRL.CEIL) →
      Does .thermalStepDown s (fun u => u.getF PKG_DVFS_STATUS.POINT = s.getF PKG_DVFS_STATUS.POINT + 1 ∧
        s.counted u PKG_DVFS_STATUS.THROTTLE_STEPS)) ∧
    (s.awake → s.hot < (s.getF PKG_THERM_CFG.TARGET_C : Int) - 3 → s.bitF PKG_DVFS_CFG.PMB_EN = false →
      s.bitF PKG_SMON_STATUS.OPEN = false → s.bitF PKG_DVFS_STATUS.STEPPING = false →
      max 2 (s.getF PKG_DVFS_CTRL.CEIL) < s.getF PKG_DVFS_STATUS.POINT →
      Does .thermalStepUp s (fun u => u.getF PKG_DVFS_STATUS.POINT + 1 = s.getF PKG_DVFS_STATUS.POINT))

/-! ### Rings and descriptors -/

/-- R130 to R132, R144, R162, R167: ENABLE takes a DISABLED ring with a legal configuration to ACTIVE with empty queues, and records an error
otherwise; DRAIN takes it to DRAINING; when nothing is in flight it is DISABLED. R159, R170: DRAIN with FLUSH completes a descriptor that
has not started with FLUSHED, in its ring's order, and takes no other one. Where it goes past the text it rests on the model's choices of
log entry 22. -/
def Obligations.RingsEnableAndDrain : Prop :=
  (∀ (s : State) (r : Ring), s.serves →
     ((s.ring r).state = .disabled → s.ringCfgOk r = true → Does (.ringEnable r) s (fun u =>
       (u.ring r).state = .active ∧ (u.ring r).sqTail = 0 ∧ (u.ring r).cqHead = 0 ∧ (u.ring r).phase = true ∧ (u.ring r).window = [] ∧
       u.reg (HST_RING_STATUS r.val) = 0 ∧ u.getF (HST_RING_COUNT.COMPLETED r.val) = 0 ∧ u.getF (HST_RING_COUNT.DUPLICATES r.val) = 0 ∧
       u.getF (HST_RING_COUNT.REJECTED r.val) = s.getF (HST_RING_COUNT.REJECTED r.val) ∧ ∀ q, q ≠ r → u.ring q = s.ring q)) ∧
     ((s.ring r).state = .disabled → s.ringCfgOk r = false → Does (.ringEnable r) s (fun u =>
       u.getF (HST_RING_STATUS.ERR_CAUSE r.val) = 5 ∧ u.rings = s.rings)) ∧
     ((s.ring r).state ≠ .disabled → Does (.ringEnable r) s (fun u => u = s)) ∧
     ((s.ring r).state = .active ∨ (s.ring r).state = .error →
       Does (.ringDrain r) s (fun u => (u.ring r).state = .draining ∧ (u.ring r).flights = (s.ring r).flights ∧
         (u.ring r).results = (s.ring r).results ∧ u.launches = s.launches ∧ u.regs = s.regs) ∧
       ((s.ring r).flights = [] → s.launches = [] → Does (.ringDrainFlush r) s (fun u => (u.ring r).state = .draining ∧
         (u.ring r).flush = true ∧ (u.ring r).results = (s.ring r).results))) ∧
     ((s.ring r).state = .draining → (s.ring r).flights = [] → (s.ring r).results = [] → Does (.ringDrainDone r) s (fun u =>
       (u.ring r).state = .disabled ∧ u.regs = s.regs)) ∧
     ((s.ring r).flights ≠ [] ∨ (s.ring r).results ≠ [] → Does (.ringDrainDone r) s (fun u => u = s))) ∧
  (∀ (s : State) (r : Ring) (f : Flight), s.serves → (s.ring r).state = .active ∨ (s.ring r).state = .error → s.launches = [] →
     (s.ring r).flights = [f] → f.done = false →
     Does (.ringDrainFlush r) s (fun u =>
       (f.started = false → s.posted u r f stFlushed 0 0) ∧ (f.started = true → (u.ring r).results = (s.ring r).results) ∧
       ∀ q, q ≠ r → u.ring q = s.ring q))

/-- R146 to R150: a doorbell write on a ring moves its tail or head; one out of range is an error, which stops the fetching of an ACTIVE ring.
Where it goes past the text it rests on the model's choices of log entry 22. -/
def Obligations.DoorbellsMoveTheQueues : Prop :=
  ∀ (s : State) (r : Ring) (v : BitVec 64), s.serves →
    ((s.ring r).state = .active → (HST_SQ_DB.TAIL r.val).get v < s.sqSize r → Does (.hstSqDbWrite r v) s (fun u =>
      (u.ring r).sqTail = (HST_SQ_DB.TAIL r.val).get v ∧ (u.ring r).state = .active ∧ u.regs = s.regs ∧ ∀ q, q ≠ r → u.ring q = s.ring q)) ∧
    ((s.ring r).state = .active → s.sqSize r ≤ (HST_SQ_DB.TAIL r.val).get v → Does (.hstSqDbWrite r v) s (fun u =>
      (u.ring r).state = .error ∧ (u.ring r).sqTail = (s.ring r).sqTail ∧ u.getF (HST_RING_STATUS.ERR_CAUSE r.val) = 1)) ∧
    ((s.ring r).state ≠ .active → Does (.hstSqDbWrite r v) s (fun u => u = s)) ∧
    ((s.ring r).state = .active ∨ (s.ring r).state = .draining → (HST_CQ_DB.HEAD r.val).get v < s.cqSize r →
      ((HST_CQ_DB.HEAD r.val).get v + s.cqSize r - (s.ring r).cqHead % s.cqSize r) % s.cqSize r ≤ s.cqUsed r →
      Does (.hstCqDbWrite r v) s (fun u => (u.ring r).cqHead = (HST_CQ_DB.HEAD r.val).get v ∧ u.regs = s.regs ∧
        ∀ q, q ≠ r → u.ring q = s.ring q)) ∧
    ((s.ring r).state = .active → s.cqSize r ≤ (HST_CQ_DB.HEAD r.val).get v ∨
        s.cqUsed r < ((HST_CQ_DB.HEAD r.val).get v + s.cqSize r - (s.ring r).cqHead % s.cqSize r) % s.cqSize r →
      Does (.hstCqDbWrite r v) s (fun u => (u.ring r).state = .error ∧ (u.ring r).cqHead = (s.ring r).cqHead ∧
        u.getF (HST_RING_STATUS.ERR_CAUSE r.val) = 2)) ∧
    ((s.ring r).state = .disabled ∨ (s.ring r).state = .error → Does (.hstCqDbWrite r v) s (fun u => u = s))

/-- R138, R154, R164: a result is written as a 32-byte entry at the queue's tail, which then moves on, and the phase changes when it wraps; no
entry is written to a full queue; an entry that host memory does not take puts the ring into ERROR and stays to be written; the coalescing
timer sends the ring's message, and none with IRQ_EN = 0 (R166). Where it goes past the text it rests on the model's choices of log entry 22. -/
def Obligations.CompletionsReachTheQueue : Prop :=
  ∀ (s : State) (t : Tick) (r : Ring) (c : Compl) (rest : List Compl), s.awake → s.bitF CHN_CFG.MASTER = false →
    (s.ring r).results = c :: rest → (s.ring r).state ≠ .disabled →
    (s.cqRoom r = true →
      Does (.completionWrite t r true) s (fun u => (u.ring r).results = rest ∧
        u.cqTail r = (if s.cqTail r + 1 = s.cqSize r then 0 else (s.cqTail r + 1) % 2 ^ 16) ∧
        (u.ring r).phase = ((s.ring r).phase != decide (s.cqTail r + 1 = s.cqSize r)) ∧
        ∃ st, (c.status ≠ stOk → st = c.status) ∧ u.bus.hostMem =
          s.bus.hostMem.write (s.getF (HST_CQ_BASE.BASE r.val) * 4096 + 32 * s.cqTail r) ((s.at t).entryBytes r st c)) ∧
      Does (.completionWrite t r false) s (fun u => (u.ring r).results = c :: rest ∧
        (u.ring r).state = .error ∧ u.getF (HST_RING_STATUS.ERR_CAUSE r.val) = 4 ∧ u.bus = s.bus)) ∧
    (s.cqRoom r = false → ∀ ok, Does (.completionWrite t r ok) s (fun u => u = s.at t)) ∧
    ((s.ring r).timerOn = true → s.getF (HST_COAL.TIMER_US r.val) ≠ 0 → s.bitF (HST_RING_CFG.IRQ_EN r.val) = true → s.bus.msixOn = true →
      s.bus.fnMask = false →
      s.bus.vecMask.getLsbD (s.getF (HST_RING_CFG.VECTOR r.val)) = false → Does (.coalTimerExpire r) s (fun u =>
        u.bus.msix = s.getF (HST_RING_CFG.VECTOR r.val) :: s.bus.msix ∧ (u.ring r).unsig = 0 ∧ (u.ring r).timerOn = false)) ∧
    (s.bitF (HST_RING_CFG.IRQ_EN r.val) = false → Does (.coalTimerExpire r) s (fun u => u = s))

/-- R134, R143, R157, R160: the engine fetches from the ring whose turn it is; a tag that is known completes with DUPLICATE, a descriptor that
fails a check with its status, and another one comes into flight; an unanswered read puts the ring into ERROR. Where it goes past the text
it rests on the model's choices of log entry 22. -/
def Obligations.DescriptorsAreFetched : Prop :=
  ∀ (s : State) (r : Ring) (d : List Byte), s.awake → s.bitF CHN_CFG.MASTER = false → (s.ring r).fetched = none →
    d = s.bus.hostMem.read (s.getF (HST_SQ_BASE.BASE r.val) * 4096 + 64 * s.sqHead r) 64 →
    (s.arbNext ≠ some r → ∀ ok, Does (.descriptorFetch r ok) s (fun u => u = s)) ∧
    (s.arbNext = some r →
      ((s.ring r).state = .active → Does (.descriptorFetch r false) s (fun u => (u.ring r).state = .error ∧
        u.getF (HST_RING_STATUS.ERR_CAUSE r.val) = 3 ∧ u.getF (HST_RING_STATUS.SQ_HEAD r.val) = s.sqHead r)) ∧
      ((s.ring r).knows (dTag d) = true → Does (.descriptorFetch r true) s (fun u =>
        ∃ c, (u.ring r).results = (s.ring r).results ++ [c] ∧ c.tag = dTag d ∧ c.status = stDuplicate ∧
          u.getF (HST_RING_STATUS.SQ_HEAD r.val) = (s.sqHead r + 1) % s.sqSize r % 2 ^ 16)) ∧
      ((s.ring r).knows (dTag d) = false → dOp d = 0 → Does (.descriptorFetch r true) s (fun u =>
        (u.ring r).flights = (s.ring r).flights ++ [{ slot := s.sqHead r, tag := dTag d, desc := d }] ∧
        (u.ring r).results = (s.ring r).results)) ∧
      ((s.ring r).knows (dTag d) = false → 0x0C < dOp d → Does (.descriptorFetch r true) s (fun u =>
        ∃ c, (u.ring r).results = (s.ring r).results ++ [c] ∧ c.status = stBadOpcode ∧ c.detail = 0 ∧ c.rejected = true)))

/-- R153, R171: the pool descriptors and NOP: what each answers, and the bytes that a POOL_READ gives the host. R260 to R264, R153: a schedule
is placed, waits while its output holds four, or ends with TIMEOUT; an EPOCH_MARK of stage 0 gives the count at which the epoch it names
opened; a FENCE completes once its condition holds. Where it goes past the text it rests on the model's choices of log entries 9 and 22. -/
def Obligations.PoolTriggerAndMarkDescriptors : Prop :=
  (∀ (s : State) (t : Tick) (r : Ring) (slot : Nat) (f : Flight), s.awake → s.bitF CHN_CFG.MASTER = false →
     (s.flightAt r slot 0x00 = some f → Does (.nop r slot) s (fun u => s.posted u r f stOk 0 0 ∧ u.regs = s.regs ∧ u.stk = s.stk)) ∧
     (s.flightAt r slot 0x00 = none → Does (.nop r slot) s (fun u => u = s)) ∧
     (s.flightAt r slot 0x07 = some f → ∀ a s', (s.at t |>.begin r f).stkDo (s.ringReq r (.read (leAt f.desc 0x18 4)) (leAt f.desc 8 8)) = (a, s') →
       a.status = .ok → s'.rings = (s.begin r f).rings → s'.bitF CHN_CFG.MASTER = false → Does (.poolRead t r slot) s (fun u =>
         s.posted u r f stOk 0 (leAt f.desc 0x18 4) ∧ u.bus.hostMem = s'.bus.hostMem.write (leAt f.desc 0x10 8) a.data)) ∧
     (s.flightAt r slot 0x08 = some f → ∀ n s', f.wrote = some n → (s.at t |>.begin r f).fence .visible (s.ringCls r) [agentRing r.val] = ({}, s') →
       s'.rings = (s.begin r f).rings → Does (.poolWrite t r slot) s (fun u => s.posted u r f stOk 0 n)) ∧
     (s.flightAt r slot 0x08 = some f → f.wrote = none → ∀ a s' s'',
       (s.at t |>.begin r f).stkDo (s.ringReq r (.write (s.bus.hostMem.read (leAt f.desc 0x10 8) (leAt f.desc 0x18 4))) (leAt f.desc 8 8)) =
         (a, s') → a.status = .ok → s'.rings = (s.begin r f).rings →
       (s'.modFlight r f.tag (fun f => { f with wrote := some (leAt f.desc 0x18 4) })).fence .visible
         ((s'.modFlight r f.tag (fun f => { f with wrote := some (leAt f.desc 0x18 4) })).ringCls r) [agentRing r.val] = ({}, s'') →
       s''.rings = (s'.modFlight r f.tag (fun f => { f with wrote := some (leAt f.desc 0x18 4) })).rings →
       Does (.poolWrite t r slot) s (fun u => s.posted u r f stOk 0 (leAt f.desc 0x18 4))) ∧
     (s.flightAt r slot 0x09 = some f → ∀ a s', (s.at t |>.begin r f).stkDo (s.ringReq r (Machine.poolAtomic f.desc) (leAt f.desc 8 8)) = (a, s') →
       a.status = .ok → s'.rings = (s.begin r f).rings → Does (.poolAtomic t r slot) s (fun u => s.posted u r f stOk 0 (leNat a.data))) ∧
     (s.flightAt r slot 0x02 = some f → ∀ n s', f.wrote = some n → (s.at t |>.begin r f).fence .visible (s.ringCls r) [agentRing r.val] = ({}, s') →
       s'.rings = (s.begin r f).rings → Does (.copy t r slot) s (fun u => s.posted u r f stOk 0 n)) ∧
     (s.flightAt r slot 0x02 = some f → f.wrote = none → ∀ b bs s' s'', f.extra.getD 3 [] = b :: bs →
       let p := copyParts f
       let o := copyDo p.1 p.2.1 (fun i => (b :: bs).getD i 0)
       (s.at t |>.begin r f).copyWrite r (copyOut p.2.2.2 o.1) = (.ok, [], s') → s'.rings = (s.begin r f).rings →
       (s'.modFlight r f.tag (fun f => { f with wrote := some o.2 })).fence .visible
         ((s'.modFlight r f.tag (fun f => { f with wrote := some o.2 })).ringCls r) [agentRing r.val] = ({}, s'') →
       s''.rings = (s'.modFlight r f.tag (fun f => { f with wrote := some o.2 })).rings →
       Does (.copy t r slot) s (fun u => s.posted u r f stOk 0 o.2)) ∧
     (s.flightAt r slot 0x02 = some f → f.wrote = none → f.extra.getD 3 [] = [] → ∀ a s1 s2 s3,
       let p := copyParts f
       let o := copyDo p.1 p.2.1 (fun i => a.data.getD i 0)
       let keep (u : State) := u.modFlight r f.tag (fun f => { f with extra := f.extra.take 3 ++ [a.data] })
       let done (u : State) := u.modFlight r f.tag (fun f => { f with wrote := some o.2 })
       (s.at t |>.begin r f).copyRead r (if copyNoop p.1 p.2.1 then [] else p.2.2.1.spans (p.2.1.extent p.1.srcImp)) = (a, s1) →
       a.status = .ok → s1.rings = (s.begin r f).rings → (keep s1).copyWrite r (copyOut p.2.2.2 o.1) = (.ok, [], s2) →
       s2.rings = (keep s1).rings → (done s2).fence .visible ((done s2).ringCls r) [agentRing r.val] = ({}, s3) →
       s3.rings = (done s2).rings → Does (.copy t r slot) s (fun u => s.posted u r f stOk 0 o.2))) ∧
  (∀ (s : State) (t : Tick) (r : Ring) (slot : Nat) (f : Flight), s.awake →
     (s.flightAt r slot 0x0A = some f → f.placing = false → (schedOf f.desc).count ≠ 0 →
       ((s.at t).trgCheck (trgOf f.desc) (schedOf f.desc) = .placed → Does (.trgSched t r slot) s (fun u => s.posted u r f stOk 0 0 ∧
         u.dtl.trgs[trgOf f.desc].scheds = s.dtl.trgs[trgOf f.desc].scheds ++ [schedOf f.desc])) ∧
       ((s.at t).trgCheck (trgOf f.desc) (schedOf f.desc) = .late → Does (.trgSched t r slot) s (fun u => s.posted u r f stTimeout 0 0 ∧
         u.dtl.trgs = s.dtl.trgs)) ∧
       ((s.at t).trgCheck (trgOf f.desc) (schedOf f.desc) = .full → Does (.trgSched t r slot) s (fun u =>
         u.dtl.trgs = s.dtl.trgs ∧ (u.ring r).results = (s.ring r).results))) ∧
     (s.flightAt r slot 0x0A = some f → f.placing = true → (schedOf f.desc).count ≠ 0 →
       (s.at t).trgCheck (trgOf f.desc) (schedOf f.desc) = .placed → Does (.trgSchedPlace t r slot) s (fun u => s.posted u r f stOk 0 0 ∧
         u.dtl.trgs[trgOf f.desc].scheds = s.dtl.trgs[trgOf f.desc].scheds ++ [schedOf f.desc])) ∧
     (∀ e x, s.flightAt r slot 0x0B = some f → f.mark = none → leAt f.desc 8 4 = e → e ≠ 0xFFFFFFFF → s.epochRec e = some x →
       byteAt f.desc 0x0C = 0 → Does (.epochMark t r slot) s (fun u => s.posted u r f stOk 0 (x.openAt % 2 ^ 64))) ∧
     (s.flightAt r slot 0x0C = some f → s.launches = [] → byteAt f.desc 8 = 0 → ∀ s',
       (s.begin r f).fence .order (s.ringCls r) ((fenceRings r (byteAt f.desc 9)).map agentRing) = ({}, s') → s'.rings = (s.begin r f).rings →
       Does (.fence r slot) s (fun u => s.posted u r f stOk 0 0)))

/-- R542 to R545, R577 to R583: folio descriptors run alone in the unit; an allocation gives a free sequence its new folios, a free of the
whole list takes them away; a swap-out of a sequence that is not resident, or a swap-in of one that is, completes at once; a swap-out of a
resident one begins, as does a swap-in of a swapped one, for which there are folios. R545, R580,
R583: the end of a swap-out leaves the sequence SWAPPED with a part for each folio; the end of a swap-in leaves it RESIDENT, or SWAPPED
again when a CRC does not match; the descriptor that asked for it completes, with POISON in the last case. Where it goes past the text it rests on the model's choices of log entries 9 and 18. -/
def Obligations.FolioDescriptorsAndSwaps : Prop :=
  (∀ (s : State) (r : Ring) (slot : Nat) (f : Flight), s.awake → s.scn.busy = none →
     let q := leAt f.desc 8 2
     let x := s.seq q
     let b := (s.setScn { s.scn with busy := some (r.val, f.tag) }).begin r f
     (s.flightAt r slot 0x03 = some f → x.state = .free → x.folios = [] → leAt f.desc 0x0C 4 ≤ 4096 → s.preempting = false →
       ∀ a fs s', takeFolios (folioGrains (byteAt f.desc 0x0A)) (s.getF SCN_POOL_CFG.GRAINS) (leAt f.desc 0x0C 4) s.grainsUsed = some (a :: fs) →
         b.writeList q 0 (b.ringCls r) (a :: fs) = (true, s') → s'.rings = b.rings → s'.scn = b.scn → Does (.folioAlloc r slot) s (fun u => s.posted u r f stOk 0 a ∧ (u.seq q).state = .resident ∧ (u.seq q).folios = a :: fs ∧
           (u.seq q).kLog2 = byteAt f.desc 0x0A ∧ (u.seq q).priority = byteAt f.desc 0x0B ∧ u.scn.busy = none)) ∧
     (s.flightAt r slot 0x03 = some f → x.state = .swapped → Does (.folioAlloc r slot) s (fun u => s.posted u r f stPreempted q 0 ∧
       u.scn = s.scn)) ∧
     (s.flightAt r slot 0x04 = some f → x.state = .resident → x.parts = [] → leAt f.desc 0x0C 4 = 0 → leAt f.desc 0x10 4 = 0 → x.folios ≠ [] →
       s.holders q = [] → Does (.folioFree r slot) s (fun u => s.posted u r f stOk 0 x.folios.length ∧ (u.seq q).state = .free ∧
         (u.seq q).folios = [] ∧ u.scn.busy = none)) ∧
     (s.flightAt r slot 0x05 = some f → x.state = .resident → x.folios.length * s.folioBytes x.kLog2 ≤ leAt f.desc 0x18 8 →
       Does (.folioSwapOut r slot) s (fun u => (u.seq q).state = .preempting ∧ (u.seq q).hostAddr = leAt f.desc 0x10 8 ∧
         (u.seq q).cause = some (r.val, f.tag) ∧ (u.seq q).folios = x.folios ∧ u.scn.busy = some (r.val, f.tag))) ∧
     (s.flightAt r slot 0x06 = some f → x.state = .swapped → s.preempting = false → ∀ a fs s',
       takeFolios (folioGrains x.kLog2) (s.getF SCN_POOL_CFG.GRAINS) x.parts.length s.grainsUsed = some (a :: fs) →
       b.writeList q 0 (b.ringCls r) (a :: fs) = (true, s') → s'.scn = b.scn → Does (.folioSwapIn r slot) s (fun u =>
         (u.seq q).state = .swappingIn ∧ (u.seq q).folios = a :: fs ∧ (u.seq q).parts = x.parts ∧ (u.seq q).cause = some (r.val, f.tag) ∧
         (u.seq q).readAt = if leAt f.desc 0x10 8 = 0 then x.hostAddr else leAt f.desc 0x10 8)) ∧
     (s.flightAt r slot 0x05 = some f → x.state = .free ∨ x.state = .swapped → Does (.folioSwapOut r slot) s (fun u =>
       s.posted u r f stOk 0 0 ∧ u.scn = s.scn)) ∧
     (s.flightAt r slot 0x06 = some f → x.state = .free ∨ x.state = .resident → Does (.folioSwapIn r slot) s (fun u =>
       s.posted u r f stOk 0 0 ∧ u.scn = s.scn))) ∧
  (∀ (s s' : State) (q : SeqId), s.awake → s.scn.busy = none → (s.seq q.val).cause = none → s'.scn = s.scn →
     (∀ ps, (s.seq q.val).state = .preempting → s.swapOutData q.val 0 (s.ringCls (ringOf 0)) = (some ps, s') → Does (.swapOutDone q) s (fun u =>
       (u.seq q.val).state = .swapped ∧ (u.seq q.val).folios = [] ∧ (u.seq q.val).parts = ps ∧ (u.seq q.val).hostAddr = (s.seq q.val).hostAddr ∧
       u.scn.outBytes = s.scn.outBytes + (s.seq q.val).folios.length * s'.folioBytes (s.seq q.val).kLog2)) ∧
     ((s.seq q.val).state = .swappingIn → s.swapInData q.val 0 (s.ringCls (ringOf 0)) = (some true, s') → Does (.swapInDone q) s (fun u =>
       (u.seq q.val).state = .resident ∧ (u.seq q.val).parts = [] ∧ (u.seq q.val).folios = (s.seq q.val).folios)) ∧
     ((s.seq q.val).state = .swappingIn → s.swapInData q.val 0 (s.ringCls (ringOf 0)) = (some false, s') → Does (.swapInDone q) s (fun u =>
       (u.seq q.val).state = .swapped ∧ (u.seq q.val).folios = [] ∧ (u.seq q.val).parts = (s.seq q.val).parts ∧
       u.getF SCN_STAT.SWAP_CRC = min SCN_STAT.SWAP_CRC.top (s'.getF SCN_STAT.SWAP_CRC + 1)))) ∧
  (∀ (s s' : State) (q : SeqId) (r : Ring) (f : Flight), s.awake → (s.seq q.val).cause = some (r.val, f.tag) →
     s.flight r f.tag = some f → s'.scn = s.scn → s'.rings = s.rings →
     (∀ ps, (s.seq q.val).state = .preempting → s.swapOutData q.val r.val (s.ringCls r) = (some ps, s') → Does (.swapOutDone q) s (fun u =>
       (u.seq q.val).state = .swapped ∧ (u.seq q.val).parts = ps ∧ u.scn.busy = none ∧
       s.posted u r f stOk 0 ((s.seq q.val).folios.length * s'.folioBytes (s.seq q.val).kLog2))) ∧
     ((s.seq q.val).state = .swappingIn → s.swapInData q.val r.val (s.ringCls r) = (some true, s') → Does (.swapInDone q) s (fun u =>
       (u.seq q.val).state = .resident ∧ u.scn.busy = none ∧
       s.posted u r f stOk 0 ((s.seq q.val).folios.length * s'.folioBytes (s.seq q.val).kLog2))) ∧
     ((s.seq q.val).state = .swappingIn → s.swapInData q.val r.val (s.ringCls r) = (some false, s') → Does (.swapInDone q) s (fun u =>
       (u.seq q.val).state = .swapped ∧ u.scn.busy = none ∧ s.posted u r f stPoison 0 0)))

/-! ### Launches and run-ahead -/

/-- R145, R588, R731, R733: a NET_LAUNCH outside the GUARD class is held until its moment; one of the GUARD class completes with INVALID while
the guard is disabled, and with DEADLINE once its epoch is over. R423, R426, R588: a launch whose epoch is finalised starts on its
presses, once they are free and the press time slots allow it: each is RUNNING at the image's entry slug, with the launch's operands in g3
to g6 and nothing of an earlier launch in flight. Where it goes past the text it rests on the model's choices of log entry 23. -/
def Obligations.LaunchesAreDispatchedAndStart : Prop :=
  (∀ (s : State) (r : Ring) (slot : Nat) (f : Flight), s.awake → s.flightAt r slot 0x01 = some f → f.started = false →
     s.launch (r.val, f.tag) = none →
     (s.ringCls r ≠ 0 → Does (.netLaunch r slot) s (fun u =>
       u.launches = s.launches ++ [s.newLaunch r f (s.launchEpoch (NetDesc.of f.desc).epoch)] ∧ u.rings = s.rings ∧ u.regs = s.regs)) ∧
     (s.ringCls r = 0 → s.bitF GRD_CFG.EN = false → Does (.netLaunch r slot) s (fun u => s.posted u r f stInvalid 0 0 ∧
       u.launches = s.launches)) ∧
     (s.ringCls r = 0 → s.bitF GRD_CFG.EN = true → s.guardOver (s.launchEpoch (NetDesc.of f.desc).epoch) = true →
       Does (.netLaunch r slot) s (fun u => s.posted u r f stDeadline 0 0 ∧ u.launches = s.launches ∧ u.getF GRD_STATUS.ARMED = 1))) ∧
  (∀ (s s' : State) (t : Tick) (r : Ring) (slot : Nat) (f : Flight) (l : Launch) (e : EpochRec) (a : StkAns), s.awake →
     s.flightAt r slot 0x01 = some f → s.launch (r.val, f.tag) = some l → l.started = false → l.single = false → l.cls ≠ 0 →
     s.epochRec l.epoch = some e → e.closed = true → s.launchBroken l = false → l.presses.all (fun p => s.pressFree p.1) = true →
     (s.at t).slotAllows l = true → l.presses.all (fun p => s.hasImage l p.1) = true →
     (s.at t).stkDo (s.ringReq r (.read 0) (l.net + l.hdr.slugOfs)) = (a, s') → a.status = .ok → s'.presses = s.presses →
     s'.launches = s.launches →
     Does (.netLaunchStart t r slot) s (fun u => ∀ p ∈ l.presses,
       (u.press (pressOf p.1)).mode = .running ∧ (u.press (pressOf p.1)).pc = l.hdr.entry ∧
       (u.press (pressOf p.1)).launch = some l.key ∧ (u.press (pressOf p.1)).ended = false ∧ (u.press (pressOf p.1)).p = 1 ∧
       (u.press (pressOf p.1)).g[3] = BitVec.ofNat 64 l.arg ∧ (u.press (pressOf p.1)).g[4] = BitVec.ofNat 64 l.out ∧
       (u.press (pressOf p.1)).g[5] = BitVec.ofNat 64 l.argLen ∧ (u.press (pressOf p.1)).g[6] = BitVec.ofNat 64 l.epoch ∧
       (u.press (pressOf p.1)).streams = [] ∧ (u.press (pressOf p.1)).sb = []))

/-- R158, R471: a cause from outside stops every press of a running launch that is not idle yet, and the launch keeps its status; a TIMEOUT_US
of 0 never expires; no other press changes. R153, R492: a stopped launch whose presses have drained leaves them idle; one with a press
that still has something to do stays. Where it goes past the text it rests on the model's choices of log entry 23. -/
def Obligations.LaunchesStopAndEnd : Prop :=
  (∀ (s : State) (t : Tick) (r : Ring) (slot : Nat) (l : Launch), s.awake →
     s.launches.find? (fun l => decide (l.ring = r.val ∧ l.slot = slot) && l.started && !l.done) = some l → l.stop = none →
     s.launch l.key = some l →
     (∀ cause ∈ [StopCause.timeout, .flush, .retract, .pfail, .mismatch, .deadline, .freeze], Does (.launchStop t r slot cause) s (fun u =>
       (∀ p ∈ l.presses, (s.press (pressOf p.1)).mode ≠ .idle → (u.press (pressOf p.1)).mode = .stopping ∧
         (u.press (pressOf p.1)).streams = []) ∧
       (∀ n : Press, (∀ p ∈ l.presses, pressOf p.1 ≠ n) → u.press n = s.press n) ∧
       ∃ l', u.launch l.key = some l' ∧ l'.stop = some (stopOf cause))) ∧
     (l.timeout = 0 → Does (.launchTimeout r slot) s (fun u => u = s)) ∧
     (l.timeout ≠ 0 → Does (.launchTimeout r slot) s (fun u =>
       (∀ p ∈ l.presses, (s.press (pressOf p.1)).mode ≠ .idle → (u.press (pressOf p.1)).mode = .stopping) ∧
       ∃ l', u.launch l.key = some l' ∧ l'.stop = some { status := stTimeout }))) ∧
  (∀ (s : State) (t : Tick) (r : Ring) (slot : Nat) (l : Launch), s.awake →
     s.launches.find? (fun l => decide (l.ring = r.val ∧ l.slot = slot) && l.started && !l.done) = some l →
     (l.presses.all (fun p => s.pressOver p.1) = true → l.stop ≠ none → Does (.launchEnd t r slot) s (fun u =>
       (∀ p ∈ l.presses, (u.press (pressOf p.1)).mode = .idle ∧ (u.press (pressOf p.1)).launch = none) ∧
       ∀ n : Press, (∀ p ∈ l.presses, pressOf p.1 ≠ n) → u.press n = s.press n)) ∧
     (l.presses.all (fun p => s.pressOver p.1) = false → Does (.launchEnd t r slot) s (fun u => u = s.at t)))

/-- R599, R601, R602: another unit's confirmation frees the pages of its identity, which leaves every dependency set; its retraction leaves
no page of the identity, and no undecided launch that depends on it: a running one stops with RETRACTED. This unit's own ID says nothing.
Where it goes past the text it rests on the model's choices of log entry 20. -/
def Obligations.DecisionsFreeProvisionalPages : Prop :=
  ∀ (s : State) (k : UnitId) (pid late : Nat), s.awake →
    (k.val ≠ s.unit →
      Does (.decision k pid true late) s (fun u => (∀ e ∈ u.stk.ppt, ¬ (e.2.unit = k.val ∧ e.2.pid = pid)) ∧
        ∀ l ∈ u.launches, (k.val, pid) ∉ l.deps) ∧
      Does (.decision k pid false late) s (fun u => (∀ e ∈ u.stk.ppt, ¬ (e.2.unit = k.val ∧ e.2.pid = pid)) ∧
        ∀ l ∈ u.launches, (k.val, pid) ∈ l.deps → l.verdict ≠ none) ∧
      (∀ l : Launch, s.launches = [l] → (k.val, pid) ∈ l.deps → l.verdict = none → l.started = true → l.done = false → l.stop = none →
        Does (.decision k pid false late) s (fun u => (∃ l', u.launch l.key = some l' ∧ l'.verdict = some false ∧ l'.deps = [] ∧
            l'.stop = some { status := stRetracted, detail := late }) ∧
          ∀ p ∈ l.presses, (s.press (pressOf p.1)).mode ≠ .idle → (u.press (pressOf p.1)).mode = .stopping))) ∧
    (k.val = s.unit → ∀ confirm, Does (.decision k pid confirm late) s (fun u => u = s))

/-! ### Galleys and gutters -/

/-- R174: a word is stored with its check bits and three copies of its end mark; R176: a wrong bit is corrected and two wrong bits give
POISON. R175, R180, R181, R183, R184, R218: what a producer's word does. A stream-mode galley stores it while it has room; a commit-mode one
shows an item only from its end mark on, and takes a first word only with MAX_ITEM words free; a word past MAX_ITEM drops its item; a full
stream-mode galley takes nothing. R176, R179: the consumer takes words in order, each error of a check is counted, and an empty galley
gives none. R182, R191 to R194: an abandoned item vanishes and counts in PKT_DROP; a flush empties the galley, counts its complete items
and gives the consumer inside an item a synthetic end; a fault reset does so too, records its galley and side, and raises GALLEY_FAULT.
R200, R201, R206 to R209: a host push to galley 48 stores its word while there is room, and is dropped and counted when there is none; an
entry crosses a gutter with its flags and its check, and a full gutter stalls its source. Where it goes past the text it rests on the
model's choices of log entries 5 and 31. -/
def Obligations.GalleysTakeGiveAndLoseWords : Prop :=
  (∀ (d : U64) (e : Bool) (i j : Fin 64) (m : Fin 3), (CWord.make d e).read = { data := d, isEnd := e } ∧
     (((CWord.make d e).flip { data := 1#64 <<< i.val }).read = { data := d, isEnd := e }) ∧
     (i ≠ j → ((CWord.make d e).flip { data := (1#64 <<< i.val) ^^^ (1#64 <<< j.val) }).read.isPoison = true) ∧
     ((CWord.make d e).flip { marks := 1#3 <<< m.val }).read = { data := d, isEnd := e }) ∧
  (∀ (s : State) (g : GalleyId) (w : PushWord) (endMark : Bool), s.awake → g ≠ 48 → (g = 49 → s.bus.rxWait = none) →
     (s.gal g).state = .normal → (s.gal g).dropping = false →
     let x := s.gal g
     let cap := s.getF (GAL_CFG.MAX_ITEM g)
     let stored := (CWord.make w.data endMark).flip w.upset
     (galCommit g = false → x.words.length < galDepth g → Does (.galleyPush g w endMark) s (fun u =>
       (u.gal g).words = x.words ++ [stored] ∧ (u.gal g).uncommitted = 0 ∧
       (u.gal g).pktIn = (x.pktIn + endMark.toNat) % 2 ^ 32 ∧ u.regs = s.regs ∧ ∀ h, h ≠ g → u.gal h = s.gal h)) ∧
     (galCommit g = false → galDepth g ≤ x.words.length → x.pktIn < 2 ^ 32 → x.pktOut < 2 ^ 32 → x.pktDrop < 2 ^ 32 →
       Does (.galleyPush g w endMark) s (fun u => u.gals = s.gals)) ∧
     (galCommit g = true → x.partialIn = false → x.itemWords = 0 → 0 < cap → cap ≤ galDepth g - x.words.length →
       x.words.length < galDepth g → Does (.galleyPush g w endMark) s (fun u =>
         (u.gal g).words = x.words ++ [stored] ∧
         (endMark = true → (u.gal g).visible = x.words.length + 1) ∧
         (endMark = false → x.uncommitted = 0 → (u.gal g).visible = x.words.length))) ∧
     (galCommit g = true → x.partialIn = false → galDepth g - x.words.length < cap → Does (.galleyPush g w endMark) s (fun u =>
       (u.gal g).words = x.words ∧ (u.gal g).dropping = !endMark)) ∧
     (galCommit g = true → x.partialIn = true → x.itemMax < x.itemWords + 1 → Does (.galleyPush g w endMark) s (fun u =>
       (u.gal g).words = x.words.take x.visible ∧ (u.gal g).pktDrop = (x.pktDrop + 1) % 2 ^ 32 ∧ (u.gal g).dropping = !endMark))) ∧
  (∀ (s : State) (g : GalleyId) (ecc : Ecc), s.awake → galDepth g ≠ 0 → (∀ p : CamPort, s.ing.cams[p].inj = none) →
     (s.gal g).synth = false →
     (∀ w ws, (s.gal g).words = w :: ws → 0 < (s.gal g).visible → g ≠ 49 → (∀ x, galCrossing g = some x → (s.gutter x).full = false) →
       let v := w.flip (eccUpset ecc)
       Does (.galleyPop g ecc) s (fun u =>
         (u.gal g).words = ws ∧ (u.gal g).pktOut = ((s.gal g).pktOut + v.isEnd.toNat) % 2 ^ 32 ∧ (u.gal g).midOut = !v.isEnd ∧
         (v.found = .clean → u.regs = s.regs) ∧
         (v.found = .single → s.counted u GAL_CHECK.CORRECTED) ∧
         (v.found = .double → s.counted u GAL_CHECK.UNCORRECTED) ∧
         (∀ x, galCrossing g = some x → (u.gutter x).words = (s.gutter x).words ++ [{ word := v.read, galley := some g }]) ∧
         (g = 48 → u.mkr.inbox = s.mkr.inbox ++ [{ word := v.read, galley := some g }]) ∧
         ∀ n : Press, g.val = 32 + n.val → (u.press n).popEnd = v.isEnd)) ∧
     ((s.gal g).words = [] → Does (.galleyPop g ecc) s (fun u => u.gals = s.gals ∧ u.regs = s.regs))) ∧
  (∀ (s : State) (g : GalleyId), galDepth g ≠ 0 →
     (s.awake → galCommit g = true → (s.gal g).state = .normal → (s.gal g).partialIn = true → Does (.galleyAbandon g) s (fun u =>
       (u.gal g).words = (s.gal g).words.take (s.gal g).visible ∧ (u.gal g).partialIn = false ∧
       (u.gal g).pktDrop = ((s.gal g).pktDrop + 1) % 2 ^ 32)) ∧
     (s.serves → Does (.galleyFlush g) s (fun u =>
       (u.gal g).words = [] ∧ (u.gal g).uncommitted = 0 ∧ (u.gal g).synth = ((s.gal g).synth || (s.gal g).midOut) ∧
       (u.gal g).rptr = (u.gal g).wptr ∧ ((s.gal g).midOut = false → (u.gal g).pktDrop = ((s.gal g).pktDrop + (s.gal g).complete) % 2 ^ 32) ∧
       u.regs = s.regs ∧ ∀ h, h ≠ g → u.gal h = s.gal h)) ∧
     (s.awake → ∀ side, Does (.galleyFaultReset g side) s (fun u =>
       (u.gal g).words = [] ∧ (u.gal g).wptr = (0, 0) ∧ (u.gal g).rptr = (0, 0) ∧ u.getF GAL_FAULT.LAST_ID = g.val ∧
       u.getF GAL_FAULT.LAST_SIDE = side.toNat ∧ s.counted u GAL_FAULT.FAULTS ∧
       (u.getF ARC_NOTICE_STATUS.NOTICE).testBit 3 = true))) ∧
  (∀ (s : State) (v : BitVec 64), s.serves →
    let x := s.gal 48
    let cap := s.getF (GAL_CFG.MAX_ITEM 48)
    (x.state = .normal → x.dropping = false →
      (x.words.length < 512 → (x.partialIn = false → x.itemWords = 0 ∧ 0 < cap ∧ cap ≤ 512 - x.words.length) →
        (x.partialIn = true → x.itemWords < x.itemMax) →
        Does (.galHostTxData v) s (fun u => (u.gal 48).words = x.words ++ [CWord.make v false] ∧ u.regs = s.regs) ∧
        Does (.galHostTxLast v) s (fun u => (u.gal 48).words = x.words ++ [CWord.make v true] ∧ u.regs = s.regs)) ∧
      (512 ≤ x.words.length → ∀ c ∈ [Instr.galHostTxData v, .galHostTxLast v], Does c s (fun u => (u.gal 48).state = .discard ∧
        s.counted u GAL_HOST_RX_FLAGS.TX_OVERRUN)))) ∧
  (∀ (s : State) (x : XLane) (w : GWord), s.awake →
    (laneGutter x = true → (s.gutter x).full = false →
      Does (.gutterTransfer x (.word w) .clean) s (fun u => (u.gutter x).words = (s.gutter x).words ++ [{ word := w }] ∧ u.regs = s.regs ∧
        (u.gutter x).wptr = ((s.gutter x).wptr + 1) % 32 ∧ (u.gutter x).wsync.2 = grayCode (u.gutter x).wptr) ∧
      Does (.gutterTransfer x (.word w) .single) s (fun u => (u.gutter x).words = (s.gutter x).words ++ [{ word := w }] ∧
        s.counted u (GAL_XING.CORRECTED x.x)) ∧
      Does (.gutterTransfer x (.word w) .double) s (fun u =>
        (u.gutter x).words = (s.gutter x).words ++ [{ word := { w with isPoison := true } }] ∧ s.counted u (GAL_XING.UNCORRECTED x.x))) ∧
    (16 ≤ (s.gutter x).words.length → ∀ src ecc, Does (.gutterTransfer x src ecc) s (fun u => u = s)))

/-- No command of the galleys breaks one: each galley stays within its depth, with what it has not committed among its words and its counters
within 32 bits. -/
def Obligations.GalleysStaySound : Prop :=
  ∀ (s u : State) (g : GalleyId) (w : PushWord) (v : BitVec 64) (e side : Bool) (ecc : Ecc) (form : RxForm) (x : XLane) (src : XSource),
    s.galleysSound →
    ∀ c ∈ [Instr.galleyPush g w e, .galleyPop g ecc, .galleyAbandon g, .galleyFlush g, .galleyFaultReset g side, .galHostTxData v,
        .galHostTxLast v, .galHostRxData form, .hostRxEmptyTimeout, .gutterTransfer x src ecc],
      (exec c s = .next u → u.galleysSound) ∧ (s.galPop g).2.galleysSound

/-- R202 to R204: a host read of galley 49 gives the word and latches its flags; a read of its lower half leaves the word where it is, and one
of its upper half takes it; a read that finds the galley empty waits, gives a word that comes, and ends with 0 and VALID 0 when its time
is over. Where it goes past the text it rests on the model's choices of log entry 31. -/
def Obligations.HostReadsTakeGalley49 : Prop :=
  ∀ s : State, s.serves →
    (∀ w ws, (s.gal 49).synth = false → (s.gal 49).words = w :: ws → 0 < (s.gal 49).visible →
      Does (.galHostRxData .full) s (fun u => u.bus.lastRead = leBytes 8 w.value.toNat ∧ (u.gal 49).words = ws ∧
        u.getF GAL_HOST_RX_FLAGS.VALID = 1 ∧ u.getF GAL_HOST_RX_FLAGS.END = w.isEnd.toNat ∧
        u.getF GAL_HOST_RX_FLAGS.ABORT = 0 ∧ u.getF GAL_HOST_RX_FLAGS.POISON = (decide (w.found = .double)).toNat) ∧
      Does (.galHostRxData .upper) s (fun u => u.bus.lastRead = leBytes 4 (w.value.toNat / 2 ^ 32) ∧ (u.gal 49).words = ws) ∧
      Does (.galHostRxData .lower) s (fun u => u.bus.lastRead = leBytes 4 w.value.toNat ∧ u.gals = s.gals ∧ u.regs = s.regs)) ∧
    ((s.gal 49).available = false → ∀ form, Does (.galHostRxData form) s (fun u => u.bus.rxWait = some form ∧ u.gals = s.gals ∧
      u.regs = s.regs)) ∧
    (∀ d e, s.bus.rxWait = some .full → (s.gal 49).state = .normal → (s.gal 49).dropping = false → (s.gal 49).synth = false →
      (s.gal 49).words = [] → Does (.galleyPush 49 { data := d } e) s (fun u => u.bus.lastRead = leBytes 8 d.toNat ∧ u.bus.rxWait = none ∧
        u.getF GAL_HOST_RX_FLAGS.VALID = 1 ∧ (u.gal 49).words = [])) ∧
    (∀ form, s.bus.rxWait = some form → Does .hostRxEmptyTimeout s (fun u => u.bus.lastRead = leBytes (rxBytes form) 0 ∧
      u.bus.rxWait = none ∧ u.getF GAL_HOST_RX_FLAGS.VALID = 0 ∧ u.gals = s.gals)) ∧
    (s.bus.rxWait = none → Does .hostRxEmptyTimeout s (fun u => u = s))

/-- R215, R216: of the pulses on a toggle crossing that come before the acknowledgement one is held, which goes out when it returns, and the
others merge. -/
def Obligations.PulsesAreHeldAndMerged : Prop :=
  ∀ (s : State) (x : XLane), s.awake → laneToggle x = true →
    ((s.gutter x).held = false → Does (.togglePulse x true) s (fun u => (u.gutter x).pulses = (s.gutter x).pulses + 1 ∧
      (u.gutter x).busy = true ∧ (u.gutter x).held = false)) ∧
    ((s.gutter x).held = true → Does (.togglePulse x true) s (fun u => (u.gutter x).pulses = (s.gutter x).pulses + 1 ∧
      (u.gutter x).busy = true ∧ (u.gutter x).held = true)) ∧
    ((s.gutter x).busy = false → Does (.togglePulse x false) s (fun u => (u.gutter x).pulses = (s.gutter x).pulses + 1 ∧
      (u.gutter x).busy = true)) ∧
    ((s.gutter x).busy = true → (s.gutter x).held = false → Does (.togglePulse x false) s (fun u =>
      (u.gutter x).pulses = (s.gutter x).pulses ∧ (u.gutter x).held = true)) ∧
    ((s.gutter x).busy = true → (s.gutter x).held = true → Does (.togglePulse x false) s (fun u => u.gutters = s.gutters ∧
      s.counted u (GAL_XING.MERGED x.x))) ∧
    (s.gutterDrain.gutter x).pulses = (s.gutter x).pulses + (s.gutter x).held.toNat

/-! ### Dateline and the epoch clock -/

/-- R225, R228: a rate write takes the nearest rate of the accepted band, counting one outside it, anchors it at its own tick, and changes no
time at that tick when no slew is left over; while the servo runs it is ignored and counted. Where it goes past the text it rests on the
model's choices of log entry 3. -/
def Obligations.RateWritesKeepTime : Prop :=
  ∀ (s : State) (t : Tick) (v : BitVec 64), s.serves →
    let n := max s.dtl.count t
    (s.bitF DTL_SLEW_CFG.SERVO_EN = false → s.dtl.seg.start ≤ n → s.dtl.segs ≠ [] → s.dtl.seg.remain (n - 1) = 0 →
      (∀ p ∈ s.dtl.seg.pieces.head?, p.s0 + 1 < n) →
      Does (.dtlRateWrite t v) s (fun u => u.dtl.seg.rate = clampNat rateMin rateMax v.toNat ∧ u.dtl.seg.anchor = n ∧
        u.dtl.seg.start = n ∧ u.time = (s.at t).time ∧ (rateMin ≤ v.toNat → v.toNat ≤ rateMax → u.regs = s.regs) ∧
        (v.toNat < rateMin ∨ rateMax < v.toNat → s.counted u DTL_RATE_STAT.CLAMPED))) ∧
    (s.bitF DTL_SLEW_CFG.SERVO_EN = true → Does (.dtlRateWrite t v) s (fun u => u.dtl = (s.at t).dtl ∧
      s.counted u DTL_RATE_STAT.HOST_IGNORED))

/-- R231, R232: a slew write adds to what is left to apply, held to one second either way; from its tick on every tick applies one step more
of it until it is used up, and time never jumps. Where it goes past the text it rests on the model's choices of log entry 32. -/
def Obligations.SlewsApplyStepByStep : Prop :=
  ∀ (s : State) (t : Tick) (v : BitVec 64), s.serves → s.bitF DTL_SLEW_CFG.SERVO_EN = false → 0 < max s.dtl.count t →
    let n := max s.dtl.count t
    let g := s.dtl.seg
    let q := clampInt (- unitSec) unitSec (g.remain (n - 1) + toSigned 64 v.toNat * 65536)
    let step := g.rate * s.getF DTL_SLEW_CFG.SLEW_MAX / 1000000
    Does (.dtlSlewWrite t v) s (fun u => u.dtl.seg.remain (n - 1) = q ∧ u.dtl.seg.rate = g.rate ∧ u.dtl.seg.off = g.off ∧ u.regs = s.regs ∧
      ∀ k : Nat, 0 < k → u.dtl.seg.slew (n - 1 + k) = g.slew (n - 1) + (if 0 ≤ q then min ((step * k : Nat) : Int) q
        else - min ((step * k : Nat) : Int) (- q)))

/-- R224, R227, R277: a capture latches the count and its time as seconds, nanoseconds and 2^-16 ns, rounded down; a conversion tells the same
of an older count that the history still covers, and clears VALID for one that it does not. R235 to R239: SET steps time out of UNSET, at
once or at the next PPS_IN edge, into HOLDOVER or, with a switch pending, SWITCHING; in another state it is ignored and counted; UNSET
goes back unless the epoch clock runs. Where it goes past the text it rests on the model's choices of log entries 3 and 32. -/
def Obligations.TimeIsSetAndTold : Prop :=
  (∀ (s : State) (t : Tick) (v : BitVec 64), s.serves →
     let now := (s.at t).time
     (v.getLsbD 0 = true → 0 ≤ now → now < 2 ^ 48 * unitSec → Does (.dtlCapture t v) s (fun u =>
       u.getF DTL_CAP_COUNT.COUNT = max s.dtl.count t % 2 ^ 64 ∧ u.dtl = (s.at t).dtl ∧
       (u.getF DTL_CAP_S.SEC : Int) * unitSec + u.getF DTL_CAP_NS.NS * unitNs + u.getF DTL_CAP_NS.FRAC * 65536 ≤ now ∧
       now < (u.getF DTL_CAP_S.SEC : Int) * unitSec + u.getF DTL_CAP_NS.NS * unitNs + u.getF DTL_CAP_NS.FRAC * 65536 + 65536)) ∧
     (v.getLsbD 0 = false → Does (.dtlCapture t v) s (fun u => u = s.at t)) ∧
     (∀ g, (s.at t).dtl.segAt v.toNat = some g → v.toNat ≤ max s.dtl.count t → 0 ≤ g.time v.toNat → g.time v.toNat < 2 ^ 48 * unitSec →
       Does (.dtlConv t v) s (fun u => u.getF DTL_CONV_S.VALID = 1 ∧
         (u.getF DTL_CONV_S.SEC : Int) * unitSec + u.getF DTL_CONV_NS.NS * unitNs + u.getF DTL_CONV_NS.FRAC * 65536 ≤ g.time v.toNat ∧
         g.time v.toNat < (u.getF DTL_CONV_S.SEC : Int) * unitSec + u.getF DTL_CONV_NS.NS * unitNs + u.getF DTL_CONV_NS.FRAC * 65536 + 65536)) ∧
     ((s.at t).dtl.segAt v.toNat = none ∨ max s.dtl.count t < v.toNat → Does (.dtlConv t v) s (fun u => u.getF DTL_CONV_S.VALID = 0 ∧
       u.dtl = (s.at t).dtl))) ∧
  (∀ (s : State) (t : Tick), s.serves →
     (s.getF DTL_STATE.STATE = stUnset → s.getF DTL_STATE.TARGET = refNone →
       Does (.dtlSet t) s (fun u =>
         u.dtl.seg.off = (s.getF DTL_SET_S.SEC : Int) * unitSec + (s.getF DTL_SET_NS.NS : Int) * unitNs ∧
         u.dtl.seg.anchor = max s.dtl.count t ∧ u.dtl.seg.rate = s.rate ∧
         (s.dtl.seg.remain (max s.dtl.count t - 1) = 0 → u.time = u.dtl.seg.off) ∧ u.getF DTL_STATE.STATE = stHoldover ∧
         u.getF DTL_STATE.SELECTED = refNone ∧ (u.getF ARC_NOTICE_STATUS.NOTICE).testBit 5 = true) ∧
       Does .dtlSetAtPps s (fun u => u.getF DTL_STATE.ARMED = 1 ∧ u.getF DTL_STATE.STATE = stUnset ∧ u.dtl = s.dtl) ∧
       (s.bitF DTL_STATE.ARMED = true → Does (.ppsInEdge t 0) s (fun u =>
         u.dtl.seg.off = (s.getF DTL_SET_S.SEC : Int) * unitSec ∧ u.dtl.seg.anchor = max s.dtl.count t ∧ u.getF DTL_STATE.STATE = stHoldover ∧ u.getF DTL_STATE.ARMED = 0))) ∧
     (s.getF DTL_STATE.STATE ≠ stUnset → ∀ c ∈ [Instr.dtlSet t, .dtlSetAtPps], Does c s (fun u =>
       s.counted u DTL_RATE_STAT.HOST_IGNORED ∧
       u.getF DTL_STATE.STATE = s.getF DTL_STATE.STATE ∧ u.dtl.segs = s.dtl.segs)) ∧
     (s.getF DTL_STATE.STATE = stUnset → s.bitF DTL_STATE.ARMED = false → ∀ sub, Does (.ppsInEdge t sub) s (fun u =>
       u.reg DTL_PPS_IN = stampWord (max s.dtl.count t) sub true false ∧ u.dtl = (s.at t).dtl)) ∧
     (s.bitF DTL_EPOCH_CFG.EN = false → Does (.dtlUnset t) s (fun u => u.getF DTL_STATE.STATE = stUnset ∧ u.getF DTL_STATE.ARMED = 0 ∧
       u.getF DTL_STATE.SELECTED = refNone ∧ u.getF DTL_STATE.TARGET = refNone)) ∧
     (s.bitF DTL_EPOCH_CFG.EN = true → Does (.dtlUnset t) s (fun u => u = s.at t)))

/-- R242, R243, R245 to R249, R304: the first sample takes an enabled ABSENT reference to QUALIFYING, and a reference that is not enabled or has
no SLAVE port takes none; LOSS_MS without a sample loses a reference that is not selected; REF_HOLDOFF makes a selected reference in
HOLDOFF QUALIFIED; SWITCH_MEAS after its request a pending switch commits to its target and counts; nothing of this happens earlier. Where it goes past the text it rests on the model's choices of log entries 3 and 32. -/
def Obligations.ReferencesQualifyAndSwitch : Prop :=
  ∀ (s : State) (t : Tick) (r : Fin 2) (theta : Int), s.awake →
    (s.refEn r = false → Does (.refSample t r theta) s (fun u => u = s.at t)) ∧
    (s.refFed r = false → Does (.refSample t r theta) s (fun u => u = s.at t)) ∧
    (s.refFed r = true → s.refEn r = true → s.refState r = rsAbsent → (s.refX r).prev = none → 1 < s.getF (DTL_REF_CFG.QUAL_N r) → Does (.refSample t r theta) s (fun u =>
      u.refState r = rsQualifying ∧ u.getF (DTL_REF_STAT.GOOD r) = 1 ∧ (u.refX r).prev = some (theta, max s.dtl.count t) ∧
      u.getF DTL_STATE.STATE = s.getF DTL_STATE.STATE)) ∧
    ((s.at t).refSilent r = false → Does (.refLossTimeout t ⟨r, by omega⟩) s (fun u => u = s.at t)) ∧
    ((s.at t).refHeld r = false → Does (.refHoldoffExpire t ⟨r, by omega⟩) s (fun u => u = s.at t)) ∧
    (s.refState r ≠ rsAbsent → (s.at t).refSilent r = true → s.getF DTL_STATE.STATE = stLocked → s.getF DTL_STATE.SELECTED ≠ r → Does (.refLossTimeout t ⟨r, by omega⟩) s (fun u =>
      u.refState r = rsAbsent ∧ u.getF (DTL_REF_STAT.GOOD r) = 0 ∧ u.getF DTL_STATE.STATE = stLocked ∧
      u.getF DTL_STATE.SELECTED = s.getF DTL_STATE.SELECTED)) ∧
    (s.refState r = rsHoldoff → (s.at t).refHeld r = true → s.getF DTL_STATE.STATE = stLocked → s.getF DTL_STATE.SELECTED = r →
      Does (.refHoldoffExpire t ⟨r, by omega⟩) s (fun u => u.refState r = rsQualified ∧ (u.refX r).lostSel = false ∧
        u.getF DTL_STATE.STATE = stLocked)) ∧
    (s.getF DTL_STATE.TARGET < 3 → s.dtl.reqAt + 500000 * s.getF DTL_SEL_CFG.SWITCH_MEAS ≤ max s.dtl.count t → Does (.switchCommit t) s (fun u => u.getF DTL_STATE.SELECTED = s.getF DTL_STATE.TARGET ∧
      u.getF DTL_STATE.TARGET = refNone ∧ u.getF DTL_STATE.STATE = stLocked ∧ u.getF DTL_STATE.REBASED = 0 ∧
      s.counted u DTL_STATE.COMMITS ∧
      (u.getF ARC_NOTICE_STATUS.NOTICE).testBit 4 = true)) ∧
    (s.getF DTL_STATE.TARGET = refNone ∨ max s.dtl.count t < s.dtl.reqAt + 500000 * s.getF DTL_SEL_CFG.SWITCH_MEAS →
      Does (.switchCommit t) s (fun u => u = s.at t))

/-- R255, R256, R258, R259, R263, R265: PPS_OUT rises at a whole second where it is allowed, and falls WIDTH_MS later; a stamp of an event enters its input's FIFO of 32, one that
finds it full is lost and counted, and a read takes the oldest; a trigger's pin takes the pulse level at a leading edge and leaves it at a
trailing one. Where it goes past the text it rests on the model's choices of log entry 3. -/
def Obligations.EventsAndTriggers : Prop :=
  ∀ (s : State) (t : Tick) (n : Fin 16) (k : Fin 8) (rise : Bool) (sub : Fin 8), s.awake →
    (s.bitF DTL_PPS_OUT.EN = true → s.getF DTL_STATE.STATE = stLocked → (s.at t).onSecond = true → Does (.ppsOutRise t) s (fun u =>
      u.dtl.ppsOut = some (max s.dtl.count t + 500000 * s.getF DTL_PPS_OUT.WIDTH_MS) ∧ u.ppsLevel = true ∧ u.regs = s.regs)) ∧
    (s.bitF DTL_PPS_OUT.EN = false ∨ (s.at t).onSecond = false → Does (.ppsOutRise t) s (fun u => u = s.at t)) ∧
    (∀ c, s.dtl.ppsOut = some c →
      (c ≤ max s.dtl.count t → Does (.ppsOutFall t) s (fun u => u.dtl.ppsOut = none ∧ u.ppsLevel = false ∧ u.regs = s.regs)) ∧
      (max s.dtl.count t < c → Does (.ppsOutFall t) s (fun u => u = s.at t))) ∧
    (s.dtl.ppsOut = none → Does (.ppsOutFall t) s (fun u => u = s.at t)) ∧
    (s.getF (DTL_EVT_CFG.EDGE n) = 3 ∨ s.getF (DTL_EVT_CFG.EDGE n) = (if rise then 1 else 2) →
      (s.dtl.evts[n].fifo.length < 32 → Does (.evtEdge t n rise sub) s (fun u => u.dtl.evts[n].fifo = s.dtl.evts[n].fifo ++
          [{ count := max s.dtl.count t, sub := sub, rise := rise, ovf := s.dtl.evts[n].ovf }] ∧ u.dtl.evts[n].ovf = false ∧ u.regs = s.regs)) ∧
      (32 ≤ s.dtl.evts[n].fifo.length → Does (.evtEdge t n rise sub) s (fun u => u.dtl.evts[n].fifo = s.dtl.evts[n].fifo ∧
        u.dtl.evts[n].ovf = true ∧ s.counted u (DTL_EVT_CFG.LOST n)))) ∧
    (s.getF (DTL_EVT_CFG.EDGE n) = 0 → Does (.evtEdge t n rise sub) s (fun u => u = s.at t)) ∧
    (s.ready = true →
      (∀ e es, s.dtl.evts[n].fifo = e :: es → Does (.dtlEvtRead n) s (fun u => u.dtl.evts[n].fifo = es ∧
        u.bus.lastRead = leBytes 8 (stampWord e.count e.sub e.rise e.ovf).toNat)) ∧
      (s.dtl.evts[n].fifo = [] → Does (.dtlEvtRead n) s (fun u => u.bus.lastRead = leBytes 8 0 ∧ u.dtl = s.dtl))) ∧
    (∀ c cs, s.dtl.trgs[k].scheds = c :: cs →
      ((c.edgeNs c.edge : Int) * unitNs ≤ (s.at t).time + s.tickSlack → Does (.trgEdge t k) s (fun u =>
        u.dtl.trgs[k].level = (if c.edge % 2 = 0 then !c.low else c.low) ∧
        u.dtl.trgs[k].scheds = (if c.edge + 1 < 2 * c.count then { c with edge := c.edge + 1 } :: cs else cs))) ∧
      ((s.at t).time + s.tickSlack < (c.edgeNs c.edge : Int) * unitNs → Does (.trgEdge t k) s (fun u => u = s.at t)))

/-- R266 to R269, R271: enabling the epoch clock takes the next opening at least 20 µs ahead; an opening closes the epoch before it and opens
the next number; a clock that is not due opens nothing; the always-on record takes time, coarse count and rate. R396, R418, R419, R720: an
epoch is sealed once its grace has passed and finalised after that: it reaches CLOSED with the count it was final at; neither happens
before its time. Where it goes past the text it rests on the model's choices of log entries 3, 6 and 10. -/
def Obligations.EpochsOpenSealAndFinalise : Prop :=
  (∀ (s : State) (t : Tick) (v : BitVec 64) (coarse : Nat), s.serves →
     (s.bitF DTL_EPOCH_CFG.EN = false → s.getF DTL_STATE.STATE ≠ stUnset → v.getLsbD 63 = true → Does (.epochClockEnable t v) s (fun u =>
       u.getF DTL_EPOCH_CFG.EN = 1 ∧ u.getF DTL_EPOCH_CFG.PERIOD_US = max 2000 (min 100000 (DTL_EPOCH_CFG.PERIOD_US.get v)) ∧
       (s.at t).time + 20000 * unitNs ≤ u.epochTime u.dtl.epochK ∧
       (u.dtl.epochK ≠ 0 → u.epochTime (u.dtl.epochK - 1) < (s.at t).time + 20000 * unitNs))) ∧
     (s.bitF DTL_EPOCH_CFG.EN = false → s.getF DTL_STATE.STATE = stUnset → Does (.epochClockEnable t v) s (fun u => u.getF DTL_EPOCH_CFG.EN = 0 ∧
       u.epochs = s.epochs)) ∧
     (s.bitF DTL_EPOCH_CFG.EN = true → v.getLsbD 63 = false → Does (.epochClockEnable t v) s (fun u => u.getF DTL_EPOCH_CFG.EN = 0 ∧
       (s.epochOpen ≠ none → u.getF DTL_EPOCH_NOW.RUNNING = 0) ∧ u.epochOpen = none)) ∧
     (s.bitF DTL_EPOCH_CFG.EN = true → s.epochTime s.dtl.epochK ≤ (s.at t).time → s.bitF GRD_CFG.EN = false → Does (.epochOpen t) s (fun u =>
       ∃ e es, u.epochs = e :: es ∧ e.num = (s.getF DTL_EPOCH_FIRST.FIRST + s.dtl.epochK) % 2 ^ 32 ∧ e.openAt = max s.dtl.count t ∧
         e.closeAt = none ∧ u.dtl.epochK = s.dtl.epochK + 1 ∧ u.getF DTL_EPOCH_NOW.NUMBER = e.num ∧ u.getF DTL_EPOCH_NOW.RUNNING = 1 ∧
         (∀ p ps, s.epochs = p :: ps → p.closeAt = none → ∃ q qs, es = q :: qs ∧ q.num = p.num ∧ q.closeAt = some (max s.dtl.count t)))) ∧
     ((s.at t).time < s.epochTime s.dtl.epochK → Does (.epochOpen t) s (fun u => u = s.at t)) ∧
     (s.getF DTL_STATE.STATE ≠ stUnset → (s.at t).onSecond = true → Does (.aonTimeRecord t coarse) s (fun u =>
       u.dtl.aonRec = some { time := (s.at t).time, coarse := coarse, rate := s.dtl.seg.rate } ∧ u.dtl.coarseNow = coarse)) ∧
     (s.getF DTL_STATE.STATE = stUnset ∨ (s.at t).onSecond = false → Does (.aonTimeRecord t coarse) s (fun u =>
       u.dtl.aonRec = s.dtl.aonRec ∧ u.dtl.coarseNow = coarse))) ∧
  (∀ (s : State) (t : Tick) (e : Nat) (f : EpochRec), s.awake → (∀ p : CamPort, s.ing.cams[p].inj = none) → s.epochRec e = some f →
     ((s.at t).sealDue f = true → Does (.epochSeal t e) s (fun u => (∃ x, u.epochRec e = some x ∧ x.isSealed = true) ∧
       (s.bitF GRD_CFG.EN = true → u.grd.slot = true))) ∧
     ((s.at t).sealDue f = false → Does (.epochSeal t e) s (fun u => u = s.at t)) ∧
     ((s.at t).finalDue f = true → s.bitF ING_COV_CFG.EN = false → s.bitF RGS_GRID_CFG.GRID_EN = false → f.waited = false →
       Does (.epochFinalise t e) s (fun u => (∃ x, u.epochRec e = some x ∧ x.closed = true ∧ x.finalAt = some (max s.dtl.count t) ∧
         x.final ≠ none) ∧ u.getF RGS_EPOCH_STAT.LAST_FINAL = f.num % 2 ^ 32 ∧ u.stk = s.stk)) ∧
     ((s.at t).finalDue f = false → Does (.epochFinalise t e) s (fun u => u = s.at t)))

/-! ### Precision time -/

/-- R280, R287 to R289: a received message of an enabled port that is addressed to the engine enters the port's galley behind its record; an
event message counts as stamped; one that is too long or finds no room is dropped whole and counted; any other frame leaves everything.
R287, R290 to R294, R310: the engine's frames leave with their FCS; a one-step Sync takes its time and its correction as it departs; any
other event message leaves a transmit stamp, or counts as lost with sixteen waiting; a MASTER port is silent while time is unset, and
otherwise sends its Sync and Announce with their own sequence numbers, each when its interval has passed. R295, R296, R298, R300 to R302:
the transparent clock: a frame crosses to the pair's other port with its FCS, an event message with its residence added to its correction
and one over IPv6 as it is, a bad FCS stays bad, a frame without room or for this port stays; an entry kept for a Follow_Up is forgotten
when its time is over. Where it goes past the text it rests on the model's choices of log entry 4. -/
def Obligations.PtpMessagesArriveDepartAndPassOn : Prop :=
  ((∀ (s : State) (t : Tick) (p : EthPort) (sub : Nat) (f : List Byte), s.awake →
      let q := PTP_PORT_CFG.PORT_EN p
      (s.bitF q = false ∨ s.ptpFindOn p f = none → Does (.ptpRxMessage t p sub f) s (fun u => u = s.at t)) ∧
      (∀ l, s.bitF q = true → s.ptpFindOn p f = some l →
        let item := wordsOf ((s.at t).ptpRecord p l (decide (ptpType f l ≤ 1)) (max s.dtl.count t) (sub % 65536) ++
          slice f l.hdr (beAt f (l.hdr + 2) 2))
        (ptpType f l ≤ 1 → Does (.ptpRxMessage t p sub f) s (fun u =>
          u.getF (PTP_STAT.RX_STAMPED p) = (s.getF (PTP_STAT.RX_STAMPED p) + 1) % 2 ^ (PTP_STAT.RX_STAMPED p).w)) ∧
        (s.ptpMine p f l = false → Does (.ptpRxMessage t p sub f) s (fun u => u.gals = s.gals ∧ u.ptp = s.ptp)) ∧
        (s.ptpMine p f l = true → Does (.ptpRxMessage t p sub f) s (fun u => u.gals = (s.galPushItem (ptpGalley p) item).gals ∧
          ((s.gal (ptpGalley p)).state = .normal → s.galRoom (ptpGalley p) = false → s.counted u (PTP_ERR.DROPPED p) ∧
            ((s.gal (ptpGalley p)).partialIn = false → (s.gal (ptpGalley p)).dropping = false →
              (u.gal (ptpGalley p)).words = (s.gal (ptpGalley p)).words)) ∧
          (s.galRoom (ptpGalley p) = true → s.getF (GAL_CFG.MAX_ITEM (ptpGalley p)) < item.length →
            s.counted u (PTP_ERR.TOO_LONG p)))))) ∧
   (∀ (s : State) (t : Tick) (p : EthPort) (sub : Nat) (f : List Byte), s.awake →
      (s.bitF (PTP_PORT_CFG.PORT_EN p) = false ∨ s.ptpFindOn p f = none → Does (.ptpTxMessage t p sub f) s (fun u => (u.ptpPort p).out = f ++ leBytes 4 (crc32 f) ∧ u.regs = s.regs ∧
        (u.ptpPort p).txFifo = (s.ptpPort p).txFifo)) ∧
      (∀ l, s.bitF (PTP_PORT_CFG.PORT_EN p) = true → s.ptpFindOn p f = some l → s.ptpMuted p (ptpType f l) = false →
        (ptpType f l = 0 → ptpTwoStep f l = false → l.tr ≠ .ipv6 → Does (.ptpTxMessage t p sub f) s (fun u =>
          (u.ptpPort p).out = withFcs (insertOneStep f l ((s.at t).departTime p (max s.dtl.count t) (sub % 65536))) ∧
          (u.ptpPort p).txFifo = (s.ptpPort p).txFifo)) ∧
        (ptpType f l = 1 → (s.ptpPort p).txFifo.length < 16 → Does (.ptpTxMessage t p sub f) s (fun u =>
          (u.ptpPort p).out = withFcs f ∧ ∃ x, (u.ptpPort p).txFifo = (s.ptpPort p).txFifo ++ [x] ∧ x.mtype = 1 ∧ x.seq = ptpSeq f l ∧
          x.stamp = (max s.dtl.count t : Int) * 65536 + (sub % 65536 : Nat) + latTicks (s.getF (PTP_LAT.TX_LAT_PS p)))) ∧
        (ptpType f l = 1 → 16 ≤ (s.ptpPort p).txFifo.length → Does (.ptpTxMessage t p sub f) s (fun u =>
          (u.ptpPort p).out = withFcs f ∧ (u.ptpPort p).txFifo = (s.ptpPort p).txFifo ∧
          s.counted u (PTP_ERR.TX_STAMP_LOST p)))) ∧
      (s.ptpMaster p = true →
        ((s.at t).masterDue (s.ptpPort p).syncAt (s.getF (PTP_PORT_CFG.SYNC_LOG p)) = true → Does (.masterSyncTx t p) s (fun u =>
          (u.ptpPort p).syncSeq = ((s.ptpPort p).syncSeq + 1) % 65536 ∧ (u.ptpPort p).annSeq = (s.ptpPort p).annSeq ∧
          (u.ptpPort p).syncAt = some (max s.dtl.count t))) ∧
        ((s.at t).masterDue (s.ptpPort p).syncAt (s.getF (PTP_PORT_CFG.SYNC_LOG p)) = false → Does (.masterSyncTx t p) s (fun u =>
          u = s.at t)) ∧
        ((s.at t).masterDue (s.ptpPort p).annAt (s.getF (PTP_PORT_CFG.ANN_LOG p)) = true → Does (.masterAnnounceTx t p) s (fun u =>
          (u.ptpPort p).annSeq = ((s.ptpPort p).annSeq + 1) % 65536 ∧ (u.ptpPort p).syncSeq = (s.ptpPort p).syncSeq ∧
          (u.ptpPort p).annAt = some (max s.dtl.count t)))) ∧
      (s.ptpMaster p = false → ∀ c ∈ [Instr.masterSyncTx t p, .masterAnnounceTx t p], Does c s (fun u => u = s.at t)) ∧
      (s.ready = true → s.bitF (PTP_PORT_CFG.PORT_EN p) = false →
        (s.ptpCfgOk p = true → Does (.ptpPortEnable p) s (fun u => u.getF (PTP_PORT_CFG.PORT_EN p) = 1 ∧ u.getF (PTP_ERR.CFG_ERR p) = 0 ∧
          (u.gal (ptpGalley p)).state ≠ .disabled ∧ (u.ptpPort p).txFifo = (s.ptpPort p).txFifo)) ∧
        (s.ptpCfgOk p = false → Does (.ptpPortEnable p) s (fun u => u.getF (PTP_PORT_CFG.PORT_EN p) = 0 ∧ u.getF (PTP_ERR.CFG_ERR p) = 1))))) ∧
  (∀ (s : State) (t : Tick) (p : EthPort) (f : Forward), s.awake →
     (s.bitF (PTP_PAIR_CFG.TC_EN (p.val / 2)) = true → beAt f.frame 0 6 ≠ s.getF (ING_ETH_MAC.MAC p) →
       (s.tcRoom p f = true → f.linkUp = true → f.fcsOk = true → s.ptpFindOn p f.frame = none → Does (.tcForward t p f) s (fun u =>
         (u.ptpPort (ethPartner p)).out = f.frame ++ leBytes 4 (crc32 f.frame) ∧ u.regs = s.regs)) ∧
       (∀ l, s.tcRoom p f = true → f.linkUp = true → f.fcsOk = true → s.ptpFindOn p f.frame = some l →
         (l.tr ≠ .ipv6 → ptpType f.frame l ≤ 1 → (ptpType f.frame l = 0 → ptpTwoStep f.frame l = false) → Does (.tcForward t p f) s (fun u =>
           (u.ptpPort (ethPartner p)).out = withFcs (ptpNoSum (ptpCorrect f.frame l ((s.at t).residence p f)) l) ∧
           u.getF (PTP_PAIR_STAT.CORRECTED (p.val / 2)) =
             (s.getF (PTP_PAIR_STAT.CORRECTED (p.val / 2)) + 1) % 2 ^ (PTP_PAIR_STAT.CORRECTED (p.val / 2)).w)) ∧
         (l.tr = .ipv6 → ptpType f.frame l < 8 → Does (.tcForward t p f) s (fun u =>
           (u.ptpPort (ethPartner p)).out = withFcs f.frame ∧ s.counted u (PTP_PAIR_STAT.UNCORRECTED (p.val / 2))))) ∧
       (s.tcRoom p f = true → f.linkUp = true → f.fcsOk = false → Does (.tcForward t p f) s (fun u =>
         (u.ptpPort (ethPartner p)).out = f.frame ++ leBytes 4 (0xFFFFFFFF - crc32 f.frame) ∧
         s.counted u (PTP_PAIR_STAT.FWD_DROP (p.val / 2)))) ∧
       (s.tcRoom p f = false ∨ f.linkUp = false → Does (.tcForward t p f) s (fun u => u.ptp = s.ptp ∧
         s.counted u (PTP_PAIR_STAT.FWD_DROP (p.val / 2))))) ∧
     (s.bitF (PTP_PAIR_CFG.TC_EN (p.val / 2)) = false ∨ beAt f.frame 0 6 = s.getF (ING_ETH_MAC.MAC p) →
       Does (.tcForward t p f) s (fun u => u = s.at t)) ∧
     (∀ key r, (s.ptpPort p).resid = [(key, r)] → Does (.tcEntryExpire p key) s (fun u => (u.ptpPort p).resid = [] ∧
       s.counted u (PTP_PAIR_STAT.UNCORRECTED (p.val / 2)))))

/-! ### Sensor ingress -/

/-- R183, R320, R322, R323: a long packet that its header's checks let in begins its item with its stamp; it is stored whole when its CRC holds
over as many bytes as its header named, and counts as dropped when not; a header that ECC cannot mend, or a start error, discards the rest
of the burst. R323 to R325: a frame start opens its channel's
frame at line 0 with the frame's number, a nonzero number being kept for the next start; a frame end closes it; a channel that is off
counts. Where it goes past the text it rests on the model's choices of log entry 7. -/
def Obligations.CameraPacketsAndFrames : Prop :=
  (∀ (s : State) (t : Tick) (p : CamPort) (vc : Fin 4) (ecc : Ecc) (dt wc : Nat) (pay : List Byte), s.awake → (s.cam p).inj = none →
     (s.bitF (ING_CAM_CFG.EN p) = true → (s.cam p).skip = false → (s.cam p).cur = none →
       (s.bitF (ING_CAM_VC.EN p vc) = true → dt = s.getF (ING_CAM_VC.DT p vc) → wc ≤ s.camLimit p → s.galAdmits (camGalley p) = true →
         ecc ≠ .double → Does (.csi2LongHeader t p ecc vc dt wc) s (fun u => ∃ c, (u.cam p).cur = some c ∧ c.stamp = max s.dtl.count t ∧
           c.vc = vc.val ∧ c.wc = wc ∧ c.idx = (s.cam p).vcs[vc].index ∧ (u.cam p).vcs[vc].index = (s.cam p).vcs[vc].index + 1 ∧
           u.gals = (s.galPushPart (camGalley p) [BitVec.ofNat 64 (max s.dtl.count t)]).gals ∧ u.regs = s.regs)) ∧
       (s.bitF (ING_CAM_VC.EN p vc) = true → dt ≠ s.getF (ING_CAM_VC.DT p vc) → Does (.csi2LongHeader t p .clean vc dt wc) s (fun u =>
         s.counted u (ING_CAM_ERR2.DT_SKIP p) ∧ u.ing = s.ing ∧ u.gals = s.gals)) ∧
       Does (.csi2LongHeader t p .double vc dt wc) s (fun u => (u.cam p).skip = true ∧ s.counted u (ING_CAM_ERR.ECC_DROP p) ∧
         u.gals = s.gals) ∧
       Does (.csi2SotErr p) s (fun u => (u.cam p).skip = true ∧ s.counted u (ING_CAM_ERR.SOT_ERR p))) ∧
     (s.bitF (ING_CAM_CFG.EN p) = false → Does (.csi2LongHeader t p ecc vc dt wc) s (fun u => u = s.at t)) ∧
     Does (.highSpeedTransmissionEnd p) s (fun u => (u.cam p).skip = false ∧ (u.cam p).cur = none ∧
       ((s.cam p).cur = none → u.regs = s.regs ∧ u.gals = s.gals) ∧ ((s.cam p).cur ≠ none → s.counted u (ING_CAM_ERR.CRC_DROP p))) ∧
     (∀ c ok, (s.cam p).cur = some c → ok = false ∨ pay.length ≠ c.wc → Does (.csi2PacketEnd t p pay ok) s (fun u => (u.cam p).cur = none ∧
       s.counted u (ING_CAM_ERR.CRC_DROP p) ∧ u.gals = (s.galAbandon (camGalley p)).gals)) ∧
     (∀ c, (s.cam p).cur = some c → pay.length = c.wc → Does (.csi2PacketEnd t p pay true) s (fun u => (u.cam p).cur = none ∧
       (c.fixed = false → u.regs = s.regs) ∧ (c.fixed = true → s.counted u (ING_CAM_ERR.ECC_FIXED p)) ∧
       u.gals = (s.galPushItem (camGalley p)
         ((s.item c.stamp (camSlot p c.vc) 0 c.first pay.length c.seq c.idx (wordsOf pay)).drop 1)).gals)) ∧
     ((s.cam p).cur = none → ∀ ok, Does (.csi2PacketEnd t p pay ok) s (fun u => u = s.at t))) ∧
  (∀ (s : State) (t : Tick) (p : CamPort) (vc : Fin 4) (num : BitVec 16), s.awake → (s.cam p).inj = none → (s.cam p).cur = none →
     s.camHears p = true →
     (s.bitF (ING_CAM_VC.EN p vc) = true → (s.cam p).vcs[vc].isOpen = false →
       Does (.csi2FrameStart t p vc num) s (fun u => (u.cam p).vcs[vc].isOpen = true ∧ (u.cam p).vcs[vc].number = num.toNat ∧
         (u.cam p).vcs[vc].index = 0 ∧ (u.cam p).vcs[vc].prev = (if num = 0 then (s.cam p).vcs[vc].prev else num.toNat)) ∧
       Does (.csi2FrameEnd t p vc num) s (fun u => s.counted u (ING_CAM_ERR2.SYNC_ERR p) ∧ u.ing = s.ing)) ∧
     (s.bitF (ING_CAM_VC.EN p vc) = true → (s.cam p).vcs[vc].isOpen = true → s.bitF (ING_CAM_VC.PAT_EN p vc) = false →
       Does (.csi2FrameEnd t p vc num) s (fun u => (u.cam p).vcs[vc].isOpen = false ∧ (u.cam p).vcs[vc].delivered = 0)) ∧
     (s.bitF (ING_CAM_VC.EN p vc) = false → ∀ c ∈ [Instr.csi2FrameStart t p vc num, .csi2FrameEnd t p vc num], Does c s (fun u =>
       s.counted u (ING_CAM_ERR2.VC_OFF p) ∧ u.ing = s.ing ∧ u.gals = s.gals)))

/-- R326 to R329: a frame of a wrong length, with a bad FCS or without a matching template is counted and leaves no item; a port that is off
receives nothing; a matching frame becomes one item of its records in the port's galley. Where it goes past the text it rests on the
model's choices of log entry 7. -/
def Obligations.ScannerFramesAreChecked : Prop :=
  ∀ (s : State) (t : Tick) (p : EthPort) (f : List Byte) (ok : Bool), s.awake →
    (s.bitF (ING_ETH_CFG.EN p) = false → Does (.ethFrameRx t p f ok) s (fun u => u = s.at t)) ∧
    (s.bitF (ING_ETH_CFG.EN p) = true →
      (f.length + 4 < 64 ∨ 9216 < f.length + 4 → Does (.ethFrameRx t p f ok) s (fun u => s.counted u (ING_ETH_ERR.BAD_LEN p) ∧
        u.gals = s.gals ∧ u.ing = s.ing)) ∧
      (64 ≤ f.length + 4 → f.length + 4 ≤ 9216 → s.tplMatch p f = none →
        Does (.ethFrameRx t p f false) s (fun u => s.counted u (ING_ETH_ERR.FCS_DROP p) ∧ u.gals = s.gals ∧ u.ing = s.ing) ∧
        (s.ethIsPtp p f = false → s.ethLocal p f = true → Does (.ethFrameRx t p f true) s (fun u =>
          s.counted u (ING_ETH_ERR.NO_MATCH p) ∧ u.gals = s.gals ∧ u.ing = s.ing))) ∧
      (64 ≤ f.length + 4 → f.length + 4 ≤ 9216 → s.ethIsPtp p f = false → s.ethLocal p f = true → ∀ q pay stamp, s.tplMatch p f = some (q, pay) →
        (s.at t).tplStamp q pay = some stamp → (s.tplWord q 0).testBit 4 = false →
        let pts := (List.range (s.tplCount q pay)).filterMap (s.tplPoint q pay)
        2 + 2 * pts.length ≤ s.getF (GAL_CFG.MAX_ITEM (ethGalley p)) → s.galRoom (ethGalley p) = true →
        Does (.ethFrameRx t p f true) s (fun u => u.gals = (s.galPushItem (ethGalley p) (s.item stamp (32 + q.val) 1
          (decide ((u.tpl q).rev = (s.tpl q).rev + 1)) pts.length (s.tplSeq q pay).1 (u.tpl q).rev (pts.flatMap (fun a => [a.wordA, a.wordB])))).gals)) ∧
      (64 ≤ f.length + 4 → f.length + 4 ≤ 9216 → s.tplMatch p f ≠ none → Does (.ethFrameRx t p f false) s (fun u => u.gals = s.gals ∧
        u.regs = s.regs)))

/-- R337 to R340: a quarter step of A and B moves the position by one, a half step is illegal and counted; Z latches the position and, as a
periodic item does, starts the counts afresh. R341, R343, R344: a data-ready edge of the right direction, or the period, starts the script
with the present stamp; an edge during a script is an overrun; the script's end makes its item or counts FULL. R361: switching a port on
flushes its galley and takes it out of DISABLED; switching it off empties and disables it; an MDIO operation stores its fields and, unless one
is under way, starts a frame and sets BUSY, and its end clears it, a read bringing its data in. Where it goes past the text it rests on the model's choices of log entry 7. -/
def Obligations.EncodersImuPortsAndMdio : Prop :=
  ((∀ (s : State) (t : Tick) (n : Fin 4) (a b : Bool), s.awake →
      let x := s.enc n
      let d := (quadPhase a b + 4 - quadPhase x.a x.b) % 4
      (s.bitF (ING_ENC_CFG.EN n) = true →
        (d = 1 ∨ d = 3 → Does (.encEdge t n a b) s (fun u => ((u.enc n).pos = x.pos + 1 ∨ (u.enc n).pos = x.pos - 1) ∧
          (u.enc n).edges = x.edges + 1 ∧ (u.enc n).stamp = max s.dtl.count t ∧ (u.enc n).a = a ∧ (u.enc n).b = b ∧
          u.getF (ING_ENC_POS.POS n) = (u.enc n).pos.toNat)) ∧
        (d = 2 → Does (.encEdge t n a b) s (fun u => (u.enc n).pos = x.pos ∧ (u.enc n).illegal = true ∧ (u.enc n).edges = x.edges ∧
          s.counted u (ING_ENC_ERR.ILLEGAL n))) ∧
        (s.bitF (ING_ENC_CFG.Z_GATE n) = false → Does (.encZEdge t n) s (fun u => (u.enc n).zpos = x.pos ∧ (u.enc n).zSeen = false ∧
          (u.enc n).pos = (if s.bitF (ING_ENC_CFG.Z_RESET n) then 0 else x.pos) ∧ (u.enc n).edges = 0)) ∧
        Does (.encPeriodItem n) s (fun u => (u.enc n).pos = x.pos ∧ (u.enc n).edges = 0 ∧ (u.enc n).illegal = false ∧
          ((s.gal (encGalley n)).state = .normal → s.galRoom (encGalley n) = false → s.counted u (ING_ENC_ERR.FULL n) ∧ u.gals = s.gals))) ∧
      (s.bitF (ING_ENC_CFG.EN n) = false → Does (.encEdge t n a b) s (fun u => (u.enc n).pos = x.pos ∧ (u.enc n).a = a ∧ (u.enc n).b = b) ∧
        Does (.encZEdge t n) s (fun u => u = s.at t) ∧ Does (.encPeriodItem n) s (fun u => u = s))) ∧
   (∀ (s : State) (t : Tick) (i : Fin 2) (rise : Bool) (miso : List Byte), s.awake →
      (s.bitF (ING_IMU_CFG.EN i) = true → s.bitF (ING_IMU_CFG.TRIG i) = false → s.bitF (ING_IMU_CFG.DRDY_FALL i) = !rise →
        (s.bitF (ING_IMU_STAT.BUSY i) = false → Does (.imuDrdyEdge t i rise) s (fun u => u.getF (ING_IMU_STAT.BUSY i) = 1 ∧
          u.imu i = { stamp := max s.dtl.count t, acts := s.imuScript i 16 0, csLow := spiAsserts (s.imuScript i 16 0) })) ∧
        (s.bitF (ING_IMU_STAT.BUSY i) = true → Does (.imuDrdyEdge t i rise) s (fun u => s.counted u (ING_IMU_STAT.OVERRUN i) ∧ u.ing = s.ing))) ∧
      (s.bitF (ING_IMU_CFG.EN i) = false ∨ s.bitF (ING_IMU_CFG.DRDY_FALL i) = rise → Does (.imuDrdyEdge t i rise) s (fun u => u = s.at t)) ∧
      (s.bitF (ING_IMU_CFG.EN i) = true → s.bitF (ING_IMU_CFG.TRIG i) = true → s.bitF (ING_IMU_STAT.BUSY i) = false →
        Does (.imuPeriod t i) s (fun u => u.getF (ING_IMU_STAT.BUSY i) = 1 ∧ (u.imu i).stamp = max s.dtl.count t ∧
          (u.imu i).acts = s.imuScript i 16 0)) ∧
      (s.bitF (ING_IMU_STAT.BUSY i) = true → (s.gal (imuGalley i)).state = .normal → s.galRoom (imuGalley i) = false → Does (.imuScriptEnd i miso) s (fun u =>
        u.getF (ING_IMU_STAT.BUSY i) = 0 ∧ s.counted u (ING_IMU_STAT.FULL i) ∧ u.gals = s.gals)) ∧
      (let n := ((s.imu i).acts.map spiGot).sum;
        s.bitF (ING_IMU_STAT.BUSY i) = true → s.galRoom (imuGalley i) = true → n ≤ 240 →
        2 + (n + 7) / 8 ≤ s.getF (GAL_CFG.MAX_ITEM (imuGalley i)) → Does (.imuScriptEnd i miso) s (fun u =>
          u.getF (ING_IMU_STAT.BUSY i) = 0 ∧ (u.imu i).csLow = false ∧
          u.gals = (s.galPushItem (imuGalley i) (s.item (s.imu i).stamp (52 + i.val) 3 false n 0 0 (wordsOf (payBytes miso 0 n)))).gals)) ∧
      (s.bitF (ING_IMU_STAT.BUSY i) = false → Does (.imuScriptEnd i miso) s (fun u => u = s)))) ∧
  (∀ (s : State) (p : IngPort) (v : BitVec 64) (data : BitVec 16), s.serves →
     (s.bitF (ingEn p) = false → (s.gal (ingGalley p)).partialIn = false → Does (.ingPortEnable p) s (fun u => u.getF (ingEn p) = 1 ∧
       (u.gal (ingGalley p)).words = [] ∧ (u.gal (ingGalley p)).state ≠ .disabled)) ∧
     (s.bitF (ingEn p) = true → Does (.ingPortEnable p) s (fun u => u = s) ∧
       Does (.ingPortDisable p) s (fun u => u.getF (ingEn p) = 0 ∧ (u.gal (ingGalley p)).state = .disabled ∧
         ((s.gal (ingGalley p)).state ≠ .disabled → (u.gal (ingGalley p)).words = []))) ∧
     (s.bitF (ingEn p) = false → Does (.ingPortDisable p) s (fun u => u = s)) ∧
     (s.bitF ING_MDIO.BUSY = false → ∀ c ∈ [(Instr.mdioAddress v, 0), (.mdioWrite v, 1), (.mdioRead v, 3)], Does c.1 s (fun u =>
       u.getF ING_MDIO.BUSY = 1 ∧ ∃ m, u.ing.mdio = some m ∧ m.op = c.2 ∧ m.prtad = ING_MDIO.PRTAD.get v ∧ m.devad = ING_MDIO.DEVAD.get v ∧
         m.data = ING_MDIO.DATA.get v)) ∧
     (s.bitF ING_MDIO.BUSY = true → (∀ c ∈ [Instr.mdioAddress v, .mdioWrite v, .mdioRead v], Does c s (fun u => u.ing = s.ing ∧
         u.getF ING_MDIO.BUSY = 1 ∧ u.getF ING_MDIO.PRTAD = ING_MDIO.PRTAD.get v)) ∧
       ∀ m, s.ing.mdio = some m → Does (.mdioFrameDone data) s (fun u => u.getF ING_MDIO.BUSY = 0 ∧
         u.getF ING_MDIO.DATA = if m.op = 3 then data.toNat else s.getF ING_MDIO.DATA)))

/-! ### Registration and the stipple unit -/

/-- R351, R362 to R366, R417, R721: registration takes whole items of its own galleys; an aborted or poisoned item leaves the forme as it was
and is a dropped unit for its sensor; with the grid off an item counts in NO_EPOCH; an IMU item of the open epoch counts as delivered and
is kept; a pattern item is checked instead of registered, and a failure is counted, recorded with its slot and kind, and raised. Where it
goes past the text it rests on the model's choices of log entry 10. -/
def Obligations.ItemsAreTakenAndChecked : Prop :=
  ∀ (s s' : State) (t : Tick) (g : GalleyId) (ws : List GWord), s.awake → (∀ p : CamPort, s.ing.cams[p].inj = none) →
    s.rgs.work = none → s.rgs.clear = none → s.rgs.planes = [] →
    let hd := ((ws.getD 1 { data := 0 }).data).toNat
    let stamp := ((ws.getD 0 { data := 0 }).data).toNat
    let whole := ws.getLast?.map (·.isAbort) = some false ∧ 2 ≤ ws.length
    (feedsRegistration g = false → Does (.regItem t g) s (fun u => u = s.at t)) ∧
    ((s.gal g).synth = false → (s.gal g).complete = 0 → s.rgs.inbox = [] → (∀ x, galCrossing g = some x → (s.gutter x).words = []) →
      Does (.regItem t g) s (fun u => u = s.at t)) ∧
    (feedsRegistration g = true → (s.at t).galTake g = (some ws, s') →
      ((ws.getLast?.map (·.isAbort)).getD true = true → Does (.regItem t g) s (fun u => u = (s'.unitSpoilt ws).setPending s.pending ∧
        u.regs = s'.regs ∧ u.stk = s'.stk ∧ u.rgs = s'.rgs)) ∧
      (whole → hd.testBit 9 = false → s'.bitF RGS_GRID_CFG.GRID_EN = false → Does (.regItem t g) s (fun u =>
        s'.counted u RGS_DROP_0.NO_EPOCH ∧ u.epochs = s'.epochs ∧ u.stk = s'.stk ∧ u.rgs.used = s'.rgs.used)) ∧
      (whole → hd.testBit 9 = false → s'.bitF RGS_GRID_CFG.GRID_EN = true → ∀ e, s'.epochs = [e] → e.holds stamp = true →
        e.isSealed = false → e.final = none →
        (ws.any (·.isPoison) = true → (ws.take 2).any (fun w => w.isPoison || w.isAbort) = false → Does (.regItem t g) s (fun u =>
          u.regs = s'.regs ∧ u.stk = s'.stk ∧ u.rgs.imus = s'.rgs.imus ∧ u.rgs.encs = s'.rgs.encs ∧
          ∃ x, u.epochs = [x] ∧ (tabGet {} x.cov (hd % 64)).x = (tabGet {} e.cov (hd % 64)).x + 1 ∧
            (tabGet {} x.cov (hd % 64)).d = (tabGet {} e.cov (hd % 64)).d)) ∧
        (ws.any (·.isPoison) = false → ∀ i : Fin 2, hd % 64 = 52 + i.val → Does (.regItem t g) s (fun u => u.regs = s'.regs ∧
          u.stk = s'.stk ∧ (∃ x, u.epochs = [x] ∧ (tabGet {} x.cov (52 + i.val)).d = (tabGet {} e.cov (52 + i.val)).d + 1) ∧
          u.rgs.imus[i].head? = some (s'.dtl.timeAt stamp, (bytesOf ((ws.drop 2).map (·.data))).take (bitsOf hd 31 16))))) ∧
      (whole → hd.testBit 9 = true →
        (s'.patternKind (if g.val < 8 then g.val else g.val - 8) (hd % 64) ws = none → Does (.regItem t g) s (fun u =>
          u.getF GRD_PATTERN.PASSED = (s'.getF GRD_PATTERN.PASSED + 1) % 2 ^ 32 ∧ u.epochs = s'.epochs ∧ u.stk = s'.stk)) ∧
        (∀ k < 8, s'.patternKind (if g.val < 8 then g.val else g.val - 8) (hd % 64) ws = some k →
          (s'.getF GRD_SENSORS.MASK).testBit (hd % 64) = false → Does (.regItem t g) s (fun u => s'.counted u GRD_PATTERN.FAILS ∧
            u.getF GRD_PATTERN.FAIL_SLOT = hd % 64 ∧ u.getF GRD_PATTERN.FAIL_KIND = k ∧
            (u.getF ARC_NOTICE_STATUS.NOTICE).testBit 8 = true ∧ u.epochs = s'.epochs ∧ u.stk = s'.stk))))

/-- R380, R381, R410, R422: a calibration table is read whole, checked, and waits for the next opening when every check passes; a table that
is rejected shows its slot and cause and leaves the one that waits; enabling the grid empties the directory and the pool; a reseed waits
for the next opening and for every press. Where it goes past the text it rests on the model's choices of log entry 10. -/
def Obligations.CalibrationGridAndSeeds : Prop :=
  ∀ (s : State), s.awake →
    (s.ready = true → s.bitF RGS_CAL_CTRL.BUSY = false → ∀ b s',
      (s.setF RGS_CAL_CTRL.BUSY 1).agentGet (s.reg RGS_CAL_BASE).toNat 15360 = (.ok b, s') →
      s'.regs = (s.setF RGS_CAL_CTRL.BUSY 1).regs → Does .calLoad s (fun u => u.getF RGS_CAL_CTRL.BUSY = 1 ∧ u.rgs.calLoad = some b ∧
        u.rgs.cal = s'.rgs.cal ∧ u.stk = s'.stk)) ∧
    (s.ready = true → s.bitF RGS_CAL_CTRL.BUSY = true → Does .calLoad s (fun u => u = s)) ∧
    (∀ b, s.rgs.calLoad = some b → s.calBad b = none → Does .calLoadDone s (fun u => u.rgs.calNext = some b ∧ u.rgs.calLoad = none ∧
      u.getF RGS_CAL_CTRL.BUSY = 0 ∧ u.getF RGS_CAL_CTRL.CAL_ERR = 0 ∧ u.rgs.cal = s.rgs.cal)) ∧
    (∀ b i c, s.rgs.calLoad = some b → s.calBad b = some (i, c) → i < 60 → c < 6 → Does .calLoadDone s (fun u =>
      u.getF RGS_CAL_CTRL.BUSY = 0 ∧ u.getF RGS_CAL_CTRL.CAL_ERR = 1 ∧ u.getF RGS_CAL_CTRL.ERR_SLOT = i ∧
      u.getF RGS_CAL_CTRL.ERR_CAUSE = c ∧ u.rgs.calNext = s.rgs.calNext ∧ u.rgs.cal = s.rgs.cal)) ∧
    (s.rgs.calLoad = none → s.bitF RGS_CAL_CTRL.BUSY = false → Does .calLoadDone s (fun u => u = s)) ∧
    (s.ready = true → Does .gridEnable s (fun u => u.rgs.used = [] ∧ u.rgs.quar = [] ∧ u.rgs.guards = [])) ∧
    (s.ready = true → Does .reseed s (fun u => u.rgs = { s.rgs with reseed := true, reseedPress := 0xFFFF } ∧ u.regs = s.regs))

/-- R407: the stream of an operand holds as many ones as the operand says. R408: with the same screen byte on both sides the stipple product
is the lesser of the two operands exactly, and over all pairs of screen bytes it averages x × y / 256. R409, R411: a draw moves a screen
on in its own segment; after 2^52 draws it returns to the segment's start and counts, so that no screen enters another's segment. -/
def Obligations.StippleProductsAndScreens : Prop :=
  (∀ x y : Nat, x < 256 → y < 256 →
     (∀ r, (List.range 256).countP (streamBit x r) = x ∧ stipple x r y r = min x y) ∧
     ((List.range 256).map (fun rx => ((List.range 256).map (fun ry => stipple x rx y ry)).sum)).sum = 256 * (x * y)) ∧
  (∀ (s : State) (i : Fin 64), s.rgs.screens[i].draws ≤ 2 ^ 52 →
     let x := (s.screenDraw i).2.rgs.screens[i]
     x.seg = s.rgs.screens[i].seg ∧ x.seed = s.rgs.screens[i].seed ∧ 1 ≤ x.draws ∧ x.draws ≤ 2 ^ 52 ∧
     (s.rgs.screens[i].draws < 2 ^ 52 → x.draws = s.rgs.screens[i].draws + 1 ∧ (s.screenDraw i).2.regs = s.regs) ∧
     (s.rgs.screens[i].draws = 2 ^ 52 → x.draws = 1 ∧ s.counted (s.screenDraw i).2 RGS_SCREEN_CTRL.WRAPS) ∧
     x.seg * 2 ^ 58 + 64 * (x.draws - 1) < (x.seg + 1) * 2 ^ 58 ∧
     (s.screenDraw i).1 = x.word ∧ ∀ j, j ≠ i → (s.screenDraw i).2.rgs.screens[j] = s.rgs.screens[j])

/-! ### The press -/

/-- Table SLG-6, R477, R478: the scalar operations put their result into RD, or into PD, and change nothing else; a write of g0 or p0 is
discarded; GCOUNT and RDSR show the inbound galley and the status registers; a NOP does nothing. Where it goes past the text it rests on
the model's choices of log entry 17. -/
def Obligations.ScalarOperations : Prop :=
  ∀ (s : State) (n : Press) (rd ra rb : Reg) (pd pa pb : Pred) (imm : BitVec 32) (k : Fin 64), s.awake → (s.press n).issues = true →
    let a := (s.press n).getG ra
    let b := (s.press n).getG rb
    let i := imm.signExtend 64
    (∀ c ∈ [(Instr.add n rd ra rb, a + b), (.sub n rd ra rb, a - b), (.and n rd ra rb, a &&& b), (.or n rd ra rb, a ||| b),
        (.xor n rd ra rb, a ^^^ b), (.mul n rd ra rb, a * b), (.addi n rd ra imm, a + i), (.shl n rd ra (.reg rb), a <<< (b.toNat % 64)),
        (.shl n rd ra (.imm k), a <<< k.val), (.shr n rd ra (.reg rb), a >>> (b.toNat % 64)), (.shr n rd ra (.imm k), a >>> k.val),
        (.sar n rd ra (.reg rb), a.sshiftRight (b.toNat % 64)), (.sar n rd ra (.imm k), a.sshiftRight k.val), (.movi n rd imm, i),
        (.movhi n rd ra imm, (imm.setWidth 64 <<< 32) ||| (a &&& 0xFFFFFFFF#64)), (.gcount n rd, BitVec.ofNat 64 (s.gal (inboundOf n)).visible),
        (.rdsr n rd 0, BitVec.ofNat 64 (s.getF (PRS_EXC.CAUSE n.val))), (.rdsr n rd 1, BitVec.ofNat 64 (s.getF (PRS_EXC.SLUG n.val))),
        (.rdsr n rd 2, BitVec.ofNat 64 (s.getF (PRS_EXC.SLOT n.val))), (.rdsr n rd 3, s.reg (PRS_EXC_ADDR n.val)),
        (.rdsr n rd 4, BitVec.ofNat 64 ((s.press n).popEnd.toNat + 2 * (s.press n).popAbort.toNat)),
        (.rdsr n rd 5, BitVec.ofNat 64 (s.press n).cycle), (.rdsr n rd 6, BitVec.ofNat 64 n.val)],
      Does c.1 s (fun u => s.onlyPress u n ∧ u.press n = (s.press n).setG rd c.2)) ∧
    (∀ l, s.launchOn n = some l → Does (.rdsr n rd 7) s (fun u => s.onlyPress u n ∧ u.press n = (s.press n).setG rd (BitVec.ofNat 64 (l.prov && (s.press n).prov).toNat))) ∧
    (∀ c ∈ [(Cond.eq, decide (a = b), decide (a = i)), (.ne, decide (a ≠ b), decide (a ≠ i)), (.lt, decide (a.toInt < b.toInt), decide (a.toInt < i.toInt)),
        (.ge, decide (b.toInt ≤ a.toInt), decide (i.toInt ≤ a.toInt)), (.ltu, decide (a.toNat < b.toNat), decide (a.toNat < i.toNat)),
        (.geu, decide (b.toNat ≤ a.toNat), decide (i.toNat ≤ a.toNat))],
      Does (.cmp n pd c.1 ra rb) s (fun u => s.onlyPress u n ∧ u.press n = (s.press n).setP pd c.2.1) ∧
      Does (.cmpi n pd c.1 ra imm) s (fun u => s.onlyPress u n ∧ u.press n = (s.press n).setP pd c.2.2)) ∧
    (∀ c ∈ [(LogicOp.conj, (s.press n).getP pa && (s.press n).getP pb), (.disj, (s.press n).getP pa || (s.press n).getP pb),
        (.exor, xor ((s.press n).getP pa) ((s.press n).getP pb)), (.conjNot, (s.press n).getP pa && !(s.press n).getP pb)],
      Does (.plog n pd c.1 pa pb) s (fun u => s.onlyPress u n ∧ u.press n = (s.press n).setP pd c.2)) ∧
    (∀ slot, Does (.slotNop n slot) s (fun u => u = s)) ∧
    (∀ (x : PressSt) (v : BitVec 64) (t : Bool), x.getG 0 = 0 ∧ x.setG 0 v = x ∧ (rd ≠ 0 → (x.setG rd v).getG rd = v ∧ (x.setG rd v).pc = x.pc) ∧
      (ra ≠ rd → (x.setG rd v).getG ra = x.getG ra) ∧ x.getP 0 = true ∧ x.setP 0 t = x ∧ (pd ≠ 0 → (x.setP pd t).getP pd = t) ∧
      (pa ≠ pd → (x.setP pd t).getP pa = x.getP pa))

/-- R468 to R470, R490 to R492: a branch goes to its target and changes nothing else but the register it names; a target outside the image,
TRAP, and RESUME outside the handler raise a precise exception, which is recorded with its slug and enters the handler, or ends the launch
where there is none; END ends the launch on its press. Where it goes past the text it rests on the model's choices of log entries 17 and
23. -/
def Obligations.ControlFlow : Prop :=
  ∀ (s : State) (n : Press) (ra rd : Reg) (imm : BitVec 32) (l : Launch), s.awake → (s.press n).issues = true → s.launchOn n = some l →
    let o := s.press n
    let goes (c : Instr) (t : Nat) (g : Vector (BitVec 64) 32) (mode : PressMode) : Prop := Does c s (fun u => s.onlyPress u n ∧
      (u.press n).pc = t ∧ (u.press n).g = g ∧ (u.press n).p = o.p ∧ (u.press n).v = o.v ∧ (u.press n).bank = o.bank ∧ (u.press n).mode = mode)
    let faults (c : Instr) (cause : Nat) : Prop := Does c s (fun u => s.excepted u n cause 0 0 ∧
      (o.handled = none → l.hdr.handler ≠ 0xFFFF → u.launches = s.launches ∧
        u.press n = { o with mode := .handler, pc := l.hdr.handler, handled := some cause, settle := true }) ∧
      (o.handled = none → l.hdr.handler = 0xFFFF → l.started = true → l.done = false → l.stop = none →
        ∃ l' st, u.launch l.key = some l' ∧ l'.stop = some st ∧ st.status = stBadOpcode))
    (∀ t, branchTo o.pc imm = some t → t < l.hdr.count →
      goes (.br n imm) t o.g o.mode ∧ goes (.call n imm) t (o.setG 31 (BitVec.ofNat 64 (o.pc + 1))).g o.mode ∧
      (o.getG rd ≠ 1 → goes (.loop n rd imm) t (o.setG rd (o.getG rd - 1)).g o.mode)) ∧
    (o.getG rd = 1 → goes (.loop n rd imm) o.pc (o.setG rd 0).g o.mode) ∧
    ((branchTo o.pc imm = none ∨ ∃ t, branchTo o.pc imm = some t ∧ l.hdr.count ≤ t) → faults (.br n imm) 0x01 ∧ faults (.call n imm) 0x01) ∧
    ((o.getG ra).toNat % 2048 < l.hdr.count → goes (.jr n ra) ((o.getG ra).toNat % 2048) o.g o.mode ∧
      (o.mode = .handler → goes (.resume n ra) ((o.getG ra).toNat % 2048) o.g .running)) ∧
    (l.hdr.count ≤ (o.getG ra).toNat % 2048 → faults (.jr n ra) 0x01) ∧
    (o.mode ≠ .handler → faults (.resume n ra) 0x01) ∧
    faults (.trap n) 0x06 ∧
    (s.proofPair n = none → Does (.endSlot n) s (fun u => s.onlyPress u n ∧ u.press n = { o with ended := true }))

/-- R176, R194, R489, R493, Table SLG-6: GPOP takes the next word of the inbound galley, corrected where one bit of it is wrong, with its
end mark, or the synthetic end of a flushed item; it holds on an empty galley and while a GRECV is under way; a word that cannot be
corrected raises the exception POISON; GWAIT and BWAIT change nothing; a FENCE that is not met yet is kept, and one with nothing before it
is met at once. Where it goes past the text it rests on the model's choices of log entries 17, 21 and 31. -/
def Obligations.HoldsAndFences : Prop :=
  ∀ (s : State) (n : Press) (rd : Reg) (pd : Pred), s.awake → (s.press n).issues = true →
    let o := s.press n
    let g := inboundOf n
    (∀ w ws, (s.gal g).words = w :: ws → 0 < (s.gal g).visible → (s.gal g).synth = false → (∀ x ∈ o.streams, x.recv = false) →
      (w.found ≠ .double → Does (.gpop n rd pd) s (fun u => (u.gal g).words = ws ∧ (u.press n).g = (o.setG rd w.value).g ∧
        (u.press n).p = (o.setP pd w.isEnd).p ∧ (u.press n).popEnd = w.isEnd ∧ (u.press n).popAbort = false ∧ (u.press n).pc = o.pc ∧
        (w.found = .clean → u.regs = s.regs) ∧ (w.found = .single → s.counted u GAL_CHECK.CORRECTED) ∧
        u.launches = s.launches ∧ (∀ h, h ≠ g → u.gal h = s.gal h) ∧ ∀ m, m ≠ n → u.press m = s.press m)) ∧
      (w.found = .double → Does (.gpop n rd pd) s (fun u => (u.gal g).words = ws ∧ s.excepted u n 0x10 0 0 ∧
        s.counted u GAL_CHECK.UNCORRECTED))) ∧
    ((s.gal g).synth = true → (∀ x ∈ o.streams, x.recv = false) → Does (.gpop n rd pd) s (fun u =>
      (u.gal g).synth = false ∧ (u.gal g).words = (s.gal g).words ∧ (u.press n).g = (o.setG rd 0).g ∧ (u.press n).p = (o.setP pd true).p ∧
      (u.press n).popEnd = true ∧ (u.press n).popAbort = true ∧ u.regs = s.regs)) ∧
    ((s.gal g).available = false ∨ (∃ x ∈ o.streams, x.recv = true) → Does (.gpop n rd pd) s (fun u => u = s)) ∧
    (∀ words, 1 ≤ words → words ≤ 1024 → Does (.gwait n false words) s (fun u => u = s)) ∧
    Does (.gwait n true 0) s (fun u => u = s) ∧
    (∀ mask, Does (.bwait n mask) s (fun u => u = s)) ∧
    (∀ k, o.fence = none → (k = .durable → ∀ l, s.launchOn n = some l → l.prov = false) →
      (o.sb ≠ [] ∨ (∃ x ∈ o.streams, x.unit = 2) → Does (.ctlFence n k) s (fun u => s.onlyPress u n ∧ u.press n = { o with fence := some k })) ∧
      (o.sb = [] → (∀ x ∈ o.streams, x.unit ≠ 2) → (∀ x ∈ s.stk.wc, x.agent ≠ n.val) → (∀ x ∈ s.chn.outs, x.agent ≠ n.val) → k ≠ .durable →
        Does (.ctlFence n k) s (fun u => s.onlyPress u n ∧ u.press n = o))) ∧
    (∀ k, o.fence ≠ none → Does (.ctlFence n k) s (fun u => u = s))

/-- R451 to R457, R502 to R504, Table SLG-11: the lane operations put their lanes into VD and change nothing else; a stochastic rounding of
GUARD-class work raises an exception (R416); VLD, VST, VSTP and SST move lanes to and from the Bank, which must be aligned and in range;
APOP takes the next half of the oldest drained set. Where it goes past the text it rests on the model's choices of log entries 14 and 17. -/
def Obligations.FtnOperations : Prop :=
  ∀ (s : State) (n : Press) (vd va vb vc : VReg) (ga gb : Reg) (addr : BitVec 24) (sh : Nat) (z : BitVec 16) (sout bf rnd : Bool) (l : Launch),
    s.awake → (s.press n).issues = true → s.launchOn n = some l →
    let o := s.press n
    let A := o.getV va
    let B := o.getV vb
    let C := o.getV vc
    let at_ := (BitVec.ofNat 64 addr.toNat + o.getG gb).toNat
    (∀ c ∈ [(Instr.iadd n vd va vb, List.zipWith (· + ·) A B), (.isub n vd va vb, List.zipWith (· - ·) A B),
        (.imul n vd va vb, List.zipWith (· * ·) A B), (.imax n vd va vb, List.zipWith (fun a b => if a.toInt < b.toInt then b else a) A B),
        (.imin n vd va vb, List.zipWith (fun a b => if a.toInt < b.toInt then a else b) A B),
        (.fadd n vd va vb false false, List.zipWith fAdd A B), (.fsub n vd va vb false false, List.zipWith fSub A B),
        (.fmul n vd va vb false false, List.zipWith fMul A B), (.fmax n vd va vb false false, List.zipWith fMax A B),
        (.fmin n vd va vb false false, List.zipWith fMin A B),
        (.fma n vd va vb vc false false, List.zipWith (fun f c => f c) (List.zipWith fFma A B) C),
        (.b2f n vd va bf, A.map (fun a => bfRead (if bf then a.toNat / 65536 else a.toNat))), (.i2f n vd va, A.map (fun a => fOfInt a.toInt 0)),
        (.exp n vd va, A.map fExp), (.log n vd va, A.map fLog), (.frsum n vd va, List.replicate 256 (fTreeSum A)),
        (.frmax n vd va, List.replicate 256 (fTreeMax A)), (.irsum n vd va, List.replicate 256 (iTreeSum A)),
        (.irmax n vd va, List.replicate 256 (iTreeMax A)), (.vmovg n vd ga, List.replicate 256 ((o.getG ga).setWidth 32))],
      Does c.1 s (fun u => s.onlyPress u n ∧ u.press n = o.setV vd c.2)) ∧
    Does (.gmovv n ga va) s (fun u => s.onlyPress u n ∧ u.press n = o.setG ga ((A.getD 0 0).setWidth 64)) ∧
    (l.cls ≠ 0 →
      (∀ c ∈ [(Instr.fadd n vd va vb true rnd, FpOp.add), (.fsub n vd va vb true rnd, .sub), (.fmul n vd va vb true rnd, .mul),
          (.fmax n vd va vb true rnd, .max), (.fmin n vd va vb true rnd, .min)],
        Does c.1 s (fun u => u = ((s.draws n rnd).2.putV n vd
          (lanes3 (s.draws n rnd).1 (fun r a b c' => bfPair r c.2.eval a b c') A B (o.getV 0))).setPending s.pending)) ∧
      Does (.fma n vd va vb vc true rnd) s (fun u => u = ((s.draws n rnd).2.putV n vd
        (lanes3 (s.draws n rnd).1 (fun r a b c => bfPair r fFma a b c) A B C)).setPending s.pending) ∧
      Does (.f2b n vd va vb rnd) s (fun u => (u.press n).v = o.v.set vd ((List.range 256).map (fun i =>
        BitVec.ofNat 32 (bfOf (A.getD i 0) ((s.draws n rnd).1 i) + 65536 * bfOf (B.getD i 0) ((s.draws n rnd).1 i))))) ∧
      (sh ≤ 47 → Does (.req n vd va vb sh z sout rnd) s (fun u =>
        let q := (List.range 256).map (fun i => requant l.hdr.act sout z.toInt sh ((s.draws n rnd).1 i) (A.getD i 0) (B.getD i 0))
        (u.press n).v = o.v.set vd (q.map (·.1)) ∧
        u.getF (PRS_SAT.REQ_CLAMP n.val) = min (PRS_SAT.REQ_CLAMP n.val).top (((s.draws n rnd).2).getF (PRS_SAT.REQ_CLAMP n.val) + q.countP (·.2))))) ∧
    (47 < sh → Does (.req n vd va vb sh z sout rnd) s (fun u => s.excepted u n 0x01 3 0)) ∧
    (l.cls = 0 → ∀ c ∈ [Instr.fadd n vd va vb true true, .fma n vd va vb vc true true, .f2b n vd va vb true],
      Does c s (fun u => s.excepted u n 0x13 3 0 ∧ (u.press n).v = o.v)) ∧
    (∀ c ∈ [Instr.fadd n vd va vb false true, .fsub n vd va vb false true, .fmul n vd va vb false true, .fma n vd va vb vc false true],
      Does c s (fun u => s.excepted u n 0x01 3 0 ∧ (u.press n).v = o.v)) ∧
    (o.bankBad = [] → o.streams = [] →
      (at_ + 1024 ≤ 0x600000 → at_ % 64 = 0 →
        Does (.vld n vd gb addr) s (fun u => s.onlyPress u n ∧ u.press n = o.setV vd (lanesOf (o.bank.read at_ 1024))) ∧
        Does (.vst n va gb addr) s (fun u => s.onlyPress u n ∧ u.press n = { o with bank := o.bank.write at_ (A.flatMap (fun x => leBytes 4 x.toNat)) })) ∧
      (at_ + 32 * l.hdr.act ≤ 0x600000 → at_ < 0x600000 → at_ % 32 = 0 → Does (.vstp n va gb addr) s (fun u => s.onlyPress u n ∧
        u.press n = { o with bank := o.bank.write at_ (vecPlanes l.hdr.act A) })) ∧
      (at_ + 8 ≤ 0x600000 → at_ % 8 = 0 → Does (.sst n va vb gb addr) s (fun u => s.onlyPress u n ∧
        u.press n = { o with bank := o.bank.write at_ (leBytes 4 (A.getD 0 0).toNat ++ leBytes 4 (B.getD 0 0).toNat) })) ∧
      (0x600000 < at_ + 1024 → Does (.vld n vd gb addr) s (fun u => s.excepted u n 0x02 3 at_ ∧ (u.press n).v = o.v)) ∧
      (at_ + 1024 ≤ 0x600000 → at_ % 64 ≠ 0 → Does (.vst n va gb addr) s (fun u => s.excepted u n 0x03 3 at_ ∧ (u.press n).bank = o.bank))) ∧
    (∀ d ds, o.drainQ = d :: ds → o.streams = [] → vd ≠ vc → Does (.apop n vd vc bf) s (fun u => s.onlyPress u n ∧
      u.press n = (let x := { o with drainQ := if d.half then ds else { d with half := true } :: ds }.setV vd d.lanes
        if bf then x.setV vc d.satLanes else x))) ∧
    (o.drainQ = [] → vd ≠ vc → Does (.apop n vd vc bf) s (fun u => u = s))

/-- R434 to R449, R494 to R505: an ARY, CAS or HND operation that finds its Bank words sound takes its effect and leaves a stream that
STREAM_END ends: WLOAD fills the weight store, RUN forms one result per token and counts its cycles, BUILD and PEEK form and store case
tables, HLOAD and HRUN fill and use the hand press. A case-mode RUN without its BUILD is illegal. Where it goes past the text it rests on
the model's choices of log entries 15, 17 and 21. -/
def Obligations.ArrayAndHandOperations : Prop :=
  ∀ (s : State) (n : Press) (f : AryFields) (b : BuildFields) (h : HndFields) (l : Launch) (group plane addr : Nat),
    s.launchOn n = some l → (s.press n).streams = [] → (s.press n).bankBad = [] →
    let o := s.press n
    let a := l.hdr.act
    let ended (u : State) (unit kind : Nat) : Prop :=
      (∃ x : PStream, (u.press n).streams = [x] ∧ x.sid = o.nextSid ∧ x.unit = unit ∧ x.kind = kind ∧ x.rd = 0 ∧ x.todo = none ∧ x.val = none) ∧
      ∀ m, m ≠ n → u.press m = s.press m
    (s.canIssue n (.wload f) → o.wmode = some f.mode → Does (.wload n f) s (fun u => ended u 0 0 ∧ u.regs = s.regs ∧
      (u.press n).wstore = o.wstore.write (wstoreSpan a f).1 (o.bank.read f.addrA (wstoreSpan a f).2) ∧ (u.press n).wmode = some f.mode ∧
      (u.press n).bank = o.bank)) ∧
    (s.canIssue n (.run f) → f.mode ≠ .case → o.wmode = some f.mode → f.drain = false → Does (.run n f none) s (fun u => ended u 0 1 ∧
      u.getF (PRS_ARRAY.CYCLES n.val) = (s.getF (PRS_ARRAY.CYCLES n.val) + f.m * (if f.mode = .planePair then a * aryB a f else a)) %
        2 ^ (PRS_ARRAY.CYCLES n.val).w ∧ (u.press n).g = o.g ∧ (u.press n).wstore = o.wstore)) ∧
    (s.canIssue n (.run f) → f.mode ≠ .case → o.wmode = some f.mode → f.drain = true → f.satEn = false → f.start = false → f.m = 1 →
      o.drainQ.length < 4 → Does (.run n f none) s (fun u => ended u 0 1 ∧ ∃ x, (u.press n).drainQ = o.drainQ ++ [{ set := x }] ∧
        x = tokenRun { mode := f.mode, a := a, b := aryB a f, sgnA := f.sgnA, sgnB := f.sgnB, live := 128 } (o.weights s.free f)
          (fun pl i => feedBit (fun k => o.bank.byte (f.addrA + k)) f.mode a 0 pl i) (fun _ => 0) ∧
        (u.press n).acc[if f.aset then (1 : Fin 2) else 0] = x ∧ (u.press n).bank = o.bank)) ∧
    (s.canIssue n (.run f) → f.mode = .case → f.m = b.m → s.opFault n o (.build b) = none → o.wmode = some .case → f.drain = false →
      Does (.run n f (some b)) s (fun u => ended u 0 1 ∧
        u.getF (PRS_ARRAY.CYCLES n.val) = (s.getF (PRS_ARRAY.CYCLES n.val) + f.m * a) % 2 ^ (PRS_ARRAY.CYCLES n.val).w ∧
        (u.press n).g = o.g ∧ (u.press n).wstore = o.wstore)) ∧
    (s.awake → o.issues = true → f.mode = .case → Does (.run n f none) s (fun u => s.excepted u n 0x01 1 0)) ∧
    (s.awake → o.issues = true → f.mode = .case → f.m ≠ b.m → Does (.run n f (some b)) s (fun u => s.excepted u n 0x01 2 0)) ∧
    (s.canIssue n (.build b) → Does (.build n b) s (fun u => s.onlyPress u n ∧ u.press n = { o with built := (List.range a).map (fun pl =>
      builtPlane (fun i => o.bank.byte (b.addr + 64 * (a * (b.m - 1) + pl) + i)) b.groups) })) ∧
    (s.canIssue n (.peek group plane addr) → Does (.peek n group plane addr) s (fun u => ended u 0 1 ∧ u.regs = s.regs ∧
      (u.press n).bank = o.bank.write addr (peekBytes (fun i => bitAt (fun x => (o.built.getD plane []).getD x 0) (4 * group + i))))) ∧
    (s.canIssue n (.hload h) → Does (.hload n h) s (fun u => ended u 1 0 ∧ u.regs = s.regs ∧ (u.press n).bank = o.bank ∧
      (u.press n).stat = o.bank.read h.addrB (if h.int8 then 1024 else 2048))) ∧
    (s.canIssue n (.hrun h) → h.out = false → h.acc = false → Does (.hrun n h) s (fun u => ended u 1 1 ∧ (u.press n).bank = o.bank ∧
      (u.press n).held = (List.range (32 * h.m)).map (fun i => (handCell h.int8 h.sgnA h.sgnB (fun x => o.bank.byte (h.addrA + x))
        (o.statByte s.free h.int8) (i / 32) (i % 32) 0).1) ++ o.held.drop (32 * h.m)))

/-- R462, R465, R485, R488, R506 to R508, R529, R530, R551: the MOV operations that find their Bank words sound and their stock accesses
permitted: SLOAD and BCOPY bring bytes into the Bank, SSTORE enters 64-byte stores into the buffer, SATOM returns the old value, GSEND and
GRECV move an item through a galley, ICOPY copies between impositions, BRICK and FWALK answer in RD. Where it goes past the text it rests
on the model's choices of log entries 16, 17, 18 and 21. -/
def Obligations.MovOperations : Prop :=
  ∀ (s : State) (t : Tick) (n : Press) (f : MovFields) (l : Launch) (epoch : Nat),
    s.launchOn n = some l → (s.press n).streams = [] → (s.press n).bankBad = [] → (s.press n).sb = [] →
    let o := s.press n
    let bank := movBank o f
    let stock := movStockAddr o f
    let home : Prop := stkUnit stock = s.unit ∧ stkTier stock = 0 ∧ s.proofPair n = none ∧ l.prov = false ∧ l.deps = []
    let key := bitsOf (o.getG f.gs).toNat 26 0
    let ended (u : State) (kind : Nat) (rd : Reg) (v : Option (BitVec 64)) : Prop :=
      (∃ x : PStream, (u.press n).streams = [x] ∧ x.sid = o.nextSid ∧ x.unit = 2 ∧ x.kind = kind ∧ x.rd = rd ∧ x.todo = none ∧ x.val = v) ∧
      (u.press n).g = o.g ∧ ∀ m, m ≠ n → u.press m = s.press m
    let begun : State := s.modPress n (fun p => { p with nextSid := o.nextSid + 1, streams :=
      [{ sid := o.nextSid, unit := 2, kind := 2, rd := f.rd, todo := some (.brick key bank epoch), was := o.bank,
         left := lineRuns [(bank, 4096, 64)] }] })
    (s.canIssue n (.mov .sload f) → home → ∀ q : StkReq, q = { src := s.unit, agent := n.val, cls := l.cls, op := .read f.len, addr := stock } →
      s.refusal q = none → s.inInit stock f.len = false → s.pptHolders none stock f.len = [] → s.poisoned stock f.len = false →
      Does (.sload t n f false) s (fun u => ended u 2 0 none ∧ (u.press n).bank = o.bank.write bank (s.stk.dram.read (stkOff stock) f.len) ∧
        u.regs = s.regs ∧ u.stk.dram = s.stk.dram)) ∧
    (s.canIssue n (.mov .sstore f) → s.sbShort n (f.len / 64) = false → Does (.sstore n f epoch) s (fun u => s.onlyPress u n ∧
      u.press n = { o with sb := sstoreEntries l (s.ownerOf l) stock epoch (o.bank.read bank f.len) })) ∧
    (s.canIssue n (.mov .satom f) → home → ∀ x, x = satomOp f.aop (o.getG f.ra) (o.getG f.rb) →
      ∀ q : StkReq, q = { src := s.unit, agent := n.val, cls := l.cls, op := x, addr := stock, epoch := epoch } →
      s.refusal q = none → s.inInit stock 8 = false → s.pptForeign none stock 8 = false → s.poisoned stock 8 = false →
      Does (.satom t n f epoch) s (fun u =>
        let old := s.stk.dram.read (stkOff stock) 8
        ended u 2 f.rd (some (BitVec.ofNat 64 (leNat old))) ∧ u.regs = s.regs ∧
        (∀ w, accApply q.op (BitVec.ofNat 64 (leNat old)) = some w → u.stk.dram = s.stk.dram.write (stkOff stock) (leBytes 8 w.toNat)))) ∧
    (s.canIssue n (.mov .gsend f) → s.proofPair n = none → ∀ g, g = inboundOf f.dest → (s.gal g).state = .normal → (s.gal g).dropping = false →
      (s.gal g).partialIn = false → (s.gal g).words.length + f.len / 8 ≤ galDepth g → Does (.gsend n f) s (fun u => ended u 2 0 none ∧
        u.regs = s.regs ∧ (u.press n).bank = o.bank ∧ (u.gal g).words = (s.gal g).words ++ (List.range (f.len / 8)).map (fun i =>
          CWord.make (BitVec.ofNat 64 (leNat (slice (o.bank.read bank f.len) (8 * i) 8))) (decide (i + 1 = f.len / 8))))) ∧
    (s.canIssue n (.mov .grecv f) → ∀ w, (s.gal (inboundOf n)).words = [w] → (s.gal (inboundOf n)).visible = 1 → (s.gal (inboundOf n)).synth = false →
      w.isEnd = true → w.found ≠ .double → 8 ≤ f.len → Does (.grecv n f) s (fun u =>
        ended u 2 f.rd (some (BitVec.ofNat 64 (1 + 2 ^ 63))) ∧ (u.gal (inboundOf n)).words = [] ∧
        (u.press n).bank = o.bank.write bank (leBytes 8 w.value.toNat) ∧ (w.found = .clean → u.regs = s.regs))) ∧
    (s.canIssue n (.mov .bcopy f) → Does (.bcopy n f) s (fun u => ended u 2 0 none ∧ u.regs = s.regs ∧
      (u.press n).bank = o.bank.write (o.getG f.ra).toNat (o.bank.read bank f.len))) ∧
    (s.canIssue n (.mov .icopy f) → ∀ d h, d = CopyDesc.ofBytes (o.bank.read bank 64) → d.shape + 64 ≤ 0x600000 →
      h = Shape.ofBytes (o.bank.read d.shape 64) → icopyBad d (o.bank.read d.shape 64) = none → Does (.icopy n f) s (fun u =>
        ended u 2 f.rd (some (icopyWord (copyDo d h (fun x => o.bank.byte (d.src + x))).2 stOk 0)) ∧ u.regs = s.regs ∧
        (u.press n).bank = (copyDo d h (fun x => o.bank.byte (d.src + x))).1.foldl (fun m e => m.write (d.dst + e.1) [e.2]) o.bank)) ∧
    (s.canIssue n (.mov .brick f) → s.rgs.clear.isSome = true → Does (.brick n f epoch) s (fun u => ended u 2 f.rd (some 0) ∧ u.stk = s.stk)) ∧
    (s.canIssue n (.mov .brick f) → ∀ v s2, begun.brickSee key epoch (decide (l.cls = 0)) = (.ok v, s2) → s2.presses = begun.presses →
      (v = .fresh → Does (.brick n f epoch) s (fun u => ended u 2 f.rd (some 9) ∧ (u.press n).bank = o.bank.write bank newBrick)) ∧
      (v = .absent → Does (.brick n f epoch) s (fun u => ended u 2 f.rd (some 0))) ∧
      (∀ b e late g s3 bs, v = .version b e late g → s2.agentGet (s2.brickAddr b) 4096 = (.ok bs, s3) → s3.presses = begun.presses →
        Does (.brick n f epoch) s (fun u => ended u 2 f.rd (some (BitVec.ofNat 64 (1 + 2 * late.toNat + 4 * g.toNat))) ∧
          (u.press n).bank = o.bank.write bank (ageBrick (epDist epoch e).toNat bs)))) ∧
    (s.canIssue n (.mov .fwalk f) → ∀ w x, w = WalkArgs.of (o.getG f.ra) (o.getG f.rb) → x = s.seq w.seq →
      (x.state = .free → Does (.fwalk t n f) s (fun u => ended u 3 f.rd (some (walkWord 0 0 false false)) ∧ (u.press n).bank = o.bank ∧ u.scn = s.scn)) ∧
      (x.state = .resident → w.v = true → w.indexed = true → o.walks.find? (fun e => decide (e.1 = w.seq)) = none → Does (.fwalk t n f) s (fun u =>
        ended u 3 f.rd (some (walkWord 0 0 false true)) ∧ (u.press n).bank = o.bank.write bank [] ∧ (u.seq w.seq).walked = s.scn.walks + 1)) ∧
      (x.state = .resident → w.v = true → w.indexed = false → w.replay = false → w.hi = 1 → w.lo < x.folios.length → w.shareR = 0 →
        w.shareN = 1 → w.tokens = 0 → bank + s.walkBytes w (2 ^ x.kLog2) ≤ 0x600000 →
        ∀ a bytes q, a = s.folioAddr (x.folios.getD w.lo 0) → bytes = s.folioBytes x.kLog2 → stkUnit a = s.unit → stkTier a = 0 →
        q = { src := s.unit, agent := agentOwn, own := true, op := .read bytes, addr := a } → s.refusal q = none → s.inInit a bytes = false →
        s.pptHolders none a bytes = [] → s.poisoned a bytes = false → Does (.fwalk t n f) s (fun u =>
          ended u 3 f.rd (some (walkWord (2 ^ x.kLog2) 1 false false)) ∧ (u.seq w.seq).walked = s.scn.walks + 1 ∧ u.regs = s.regs ∧
          u.stk.dram = s.stk.dram ∧ (u.press n).bank = o.bank.write bank (s.walkOut w x.kLog2 [s.stk.dram.read (stkOff a) bytes]
            ((List.range (2 ^ x.kLog2)).map (fun i => (0, i, w.lo * 2 ^ x.kLog2 + i))) [(w.lo, 2 ^ x.kLog2)] (x.folios.length * 2 ^ x.kLog2)
            (fun _ => [])))) ∧
      (x.state ≠ .free → x.state ≠ .resident → l.started = true → l.done = false → l.stop = none → Does (.fwalk t n f) s (fun u =>
        s.counted u SCN_STAT.STOPPED_WALKS ∧ ∃ l' st, u.launch l.key = some l' ∧ l'.stop = some st ∧ st.status = stPreempted ∧
          st.detail = w.seq)))

/-- R430, R431, R463, R473, R481, R482, R496, R715, R716: a press takes one slug a cycle: one that must hold leaves everything but the cycle
count, one that faults raises its exception, an empty one retires; the store buffer's oldest entry goes to the stock, or of a guard pair
to the comparator; a stream that has done everything ends and RD takes its result; PRS_CLEAR clears the press's counters, and
PRS_DROP_IMAGE its image; a copy that does not reach END in time is a mismatch. Where it goes past the text it rests on the model's
choices of log entries 21, 23 and 24. -/
def Obligations.SlugsStreamsAndStores : Prop :=
  ∀ (s : State) (t : Tick) (y : PressCycle) (n : Press) (l : Launch), s.awake → s.launchOn n = some l →
    let o := s.press n
    let s1 := (s.at y.at_).modPress n (fun p => { p with cycle := p.cycle + 1 })
    (o.issues = false → o.stopAt = none → Does (.slugIssue y n) s (fun u => u = (s.at y.at_).memHits n y.hits)) ∧
    (o.issues = true → y.hits = [] → o.streams = [] → o.bubble = 0 → o.settle = false → o.stopAt = none →
      (∃ e ∈ badWords o.slugBad (128 * o.pc) 128, e.2 ≠ 1) → Does (.slugIssue y n) s (fun u => s.excepted u n 0x10 7 0)) ∧
    (o.issues = true → y.hits = [] → o.streams = [] → o.sb = [] → o.bubble = 0 → o.settle = false → o.fence = none → o.stopAt = none →
      o.slugBad = [] → ∀ g, g = decodeSlug (leNat (o.slugs.read (128 * o.pc) 128)) →
      (s1.slugHeld n g (g.running (s1.press n)) = true → Does (.slugIssue y n) s (fun u => u = s1)) ∧
      (s1.slugHeld n g (g.running (s1.press n)) = false → ∀ slot c a, c < 256 → slot < 8 → s1.slugFault n (s1.press n) g = some (slot, c, a) →
        Does (.slugIssue y n) s (fun u => s.excepted u n c slot a)) ∧
      (s1.slugHeld n g (g.running (s1.press n)) = false → s1.slugFault n (s1.press n) g = none → g.running (s1.press n) = [] →
        o.pc + 1 < l.hdr.count → Does (.slugIssue y n) s (fun u =>
          u.press n = { o with cycle := o.cycle + 1, pc := o.pc + 1, retired := o.retired + 1 } ∧
          u.getF (PRS_RETIRED.RETIRED n.val) = (s.getF (PRS_RETIRED.RETIRED n.val) + 1) % 2 ^ (PRS_RETIRED.RETIRED n.val).w ∧ u.stk = s.stk ∧
          ∀ m, m ≠ n → u.press m = s.press m))) ∧
    (∀ e es, o.sb = e :: es → o.streams = [] →
      (s.proofPair n = none → l.verdict = none → ∀ bs, e.op = .write bs → bs ≠ [] → stkUnit e.addr = s.unit → stkTier e.addr = 0 →
        ∀ q : StkReq, q = { src := s.unit, agent := n.val, cls := e.cls, op := e.op, addr := e.addr, epoch := e.epoch, owner := e.ownerNow l s.unit } →
        s.refusal q = none → s.inInit e.addr bs.length = false → s.pptForeign q.owner e.addr bs.length = false →
        s.pptFull e.addr bs.length = false → Does (.storeBufferDrain t n) s (fun u => u.press n = { o with sb := es } ∧
          u.stk.dram = s.stk.dram.write (stkOff e.addr) bs ∧ u.regs = s.regs)) ∧
      (∀ k, s.proofPair n = some (k, false) → (s.proof k).stopped = false → (s.proof k).a.length < 64 → (s.proof k).b = [] →
        Does (.storeBufferDrain t n) s (fun u => u.press n = { o with sb := es } ∧ (u.proof k).a = (s.proof k).a ++ [e] ∧ u.stk = s.stk))) ∧
    (∀ x, o.streams = [x] → x.todo = none →
      Does (.streamEnd n x.sid) s (fun u => s.onlyPress u n ∧ (u.press n).streams = [] ∧ (u.press n).bank = o.bank ∧
        (u.press n).g = (match x.val with | some v => (o.setG x.rd v).g | none => o.g)) ∧
      ∀ i, i ≠ x.sid → Does (.streamEnd n i) s (fun u => u = s)) ∧
    (s.ready = true →
      Does (.prsClear n) s (fun u => (∀ r ∈ [PRS_ECC n.val, PRS_SAT n.val, PRS_RETIRED n.val, PRS_STALL n.val, PRS_ARRAY n.val], u.reg r = 0) ∧
        u.getF (PRS_EXC.COUNT n.val) = 0 ∧ u.getF (PRS_EXC.CAUSE n.val) = s.getF (PRS_EXC.CAUSE n.val) ∧ u.presses = s.presses) ∧
      ((s.getF SCP_ID.PRESS_MAP).testBit n.val = true → Does (.prsDropImage n) s (fun u => s.onlyPress u n ∧ u.press n = { o with image := none })) ∧
      ((s.getF SCP_ID.PRESS_MAP).testBit n.val = false → Does (.prsDropImage n) s (fun u => u = s))) ∧
    (∀ k, (s.pairPresses k).1 = n → s.proofPair n ≠ none → (s.proof k).stopped = false →
      (max s.dtl.count t < (s.proof k).endAt + 64 * 500 → Does (.proofEndSkewTimeout t k) s (fun u => u = s.at t)) ∧
      ((s.proof k).endAt + 64 * 500 ≤ max s.dtl.count t → (s.proof k).endA.isSome ≠ (s.proof k).endB.isSome → Does (.proofEndSkewTimeout t k) s (fun u =>
        u.getF GRD_MISMATCH.PRIMARY = n.val ∧ u.getF GRD_MISMATCH.SHADOW = (s.pairPresses k).2.val ∧ u.getF GRD_MISMATCH.AT_END = 1 ∧
        u.getF GRD_MISMATCH.EPOCH = l.epoch % 2 ^ 32 ∧ s.counted u GRD_COUNT.MISMATCHES ∧ u.getF GRD_STATUS.VALID = 0 ∧
        (u.getF ARC_NOTICE_STATUS.NOTICE).testBit Notice.proofMismatch.bit = true ∧
        u.getF (REP_PRESS.SUSPECT n.val) = 1 ∧ u.getF (REP_PRESS.SUSPECT (s.pairPresses k).2.val) = 1)) ∧
      ((s.proof k).endA.isSome = (s.proof k).endB.isSome → Does (.proofEndSkewTimeout t k) s (fun u => u = s.at t)))

/-- Table SLG-1, Tables SLG-6 to SLG-14, R476: every operation that its slot's fields can hold is spelled by a word that fits the slot and
reads back as that operation, with every operand; and whatever a word reads as is an operation of that slot that has a word. Where it goes
past the text it rests on the model's choices of log entry 17. -/
def Obligations.SlotOperationsReadBack : Prop :=
  (∀ (op : SlotOp) (w : Nat), op.encode = some w → w < 2 ^ slotBits op.slot ∧ decodeSlot op.slot w = some op) ∧
  (∀ (slot w : Nat) (op : SlotOp), slot < 6 → w < 2 ^ slotBits slot → decodeSlot slot w = some op → op.slot = slot ∧ op.encode ≠ none)

/-! ### The chain -/

/-- R615 to R617, R620 to R627: a message whose CRC fails asks for a replay, one that comes in sequence moves the port on and is passed on or
released here, and one out of sequence is dropped; credits add up; a NAK, then owed credits, then messages passing through go out ahead of
this unit's own, each kept until it is acknowledged; a NAK from the far end has what it names sent again. Where it goes past the text it
rests on the model's choices of log entries 13 and 30. -/
def Obligations.PortsExchangeMessages : Prop :=
  ∀ (s : State) (d : Port) (h : LinkHeader) (m : Msg) (k a b c : Nat), s.awake →
    let x := s.port d
    let taken : ChnPort := { x.ack h.ackSeq with credits := x.credits.add h.crdVc (16 * h.crdN) }
    (s.portUp d = false → (∀ ok, Does (.chainMessageRx d h m ok) s (fun u => u = s)) ∧ Does (.linkCredit d k a b c) s (fun u => u = s) ∧
      Does (.chainMessageTx d) s (fun u => u = s)) ∧
    (s.portUp d = true →
      Does (.chainMessageRx d h m false) s (fun u => u.port d = { x with nak := some x.rxSeq } ∧ u.port (otherPort d) = s.port (otherPort d) ∧
        s.counted u (CHN_PORT_ERR.CRC_ERR d)) ∧
      (h.seq = x.rxSeq →
        (s.msgPasses d m = false → Does (.chainMessageRx d h m true) s (fun u => u.port (otherPort d) = s.port (otherPort d) ∧
          u.port d = { taken with rxSeq := (x.rxSeq + msgFlits m) % 1024, owed := x.owed.add (msgVc m) (msgFlits m) } ∧
          u.getF (CHN_PORT_RX.FLITS d) = (s.getF (CHN_PORT_RX.FLITS d) + msgFlits m) % 2 ^ (CHN_PORT_RX.FLITS d).w)) ∧
        (s.msgPasses d m = true → Does (.chainMessageRx d h m true) s (fun u =>
          u.port d = { taken with rxSeq := (x.rxSeq + msgFlits m) % 1024 } ∧
          (u.port (otherPort d)).passing = (s.port (otherPort d)).passing ++ [⟨m, true⟩]))) ∧
      (h.seq ≠ x.rxSeq → Does (.chainMessageRx d h m true) s (fun u => u.regs = s.regs ∧ u.port (otherPort d) = s.port (otherPort d) ∧
        u.port d = if seqCovered h.seq ((x.rxSeq + 1023) % 1024) then taken else { taken with nak := some x.rxSeq })) ∧
      Does (.linkCredit d k a b c) s (fun u => u.regs = s.regs ∧ u.port (otherPort d) = s.port (otherPort d) ∧ u.port d = { x with
        credits := ⟨x.credits.ctrl + k, x.credits.req + a, x.credits.wdata + b, x.credits.resp + c⟩ }) ∧
      (x.replay.any (fun e => decide (e.from k ≠ 0) && decide (8 ≤ e.resends)) = false → s.settled → Does (.linkNak d k) s (fun u =>
        u.port (otherPort d) = s.port (otherPort d) ∧
        u.port d = { x with replay := x.replay.map (fun e => if e.from k = 0 then e else { e with resends := e.resends + 1 }) } ∧
        u.getF (CHN_PORT_ERR.REPLAYS d) = min (CHN_PORT_ERR.REPLAYS d).top (s.getF (CHN_PORT_ERR.REPLAYS d) + (x.replay.map (fun e => e.from k)).sum))) ∧
      (x.replay.any (fun e => decide (e.from k ≠ 0) && decide (8 ≤ e.resends)) = true → s.settled → Does (.linkNak d k) s (fun u =>
        u.getF (CHN_PORT_STAT.STATE d) = 0 ∧ u.getF (CHN_PORT_STAT.FOLDED d) = 1)) ∧
      (x.held = true → Does (.chainMessageTx d) s (fun u => u = s)) ∧
      (x.held = false →
        (x.nak.isSome = true → Does (.chainMessageTx d) s (fun u => u.port d = { x with nak := none } ∧ u.chn.inject = s.chn.inject)) ∧
        (x.nak = none → x.owed ≠ ⟨0, 0, 0, 0⟩ → Does (.chainMessageTx d) s (fun u => u.port d = { x with owed := ⟨0, 0, 0, 0⟩ } ∧
          u.chn.inject = s.chn.inject)) ∧
        (x.nak = none → x.owed = ⟨0, 0, 0, 0⟩ → x.heldFlits + msgFlits m ≤ 512 →
          (∀ came, x.passing = [⟨m, came⟩] → s.chn.inject = [] → msgFlits m + (if came then 0 else 33) ≤ x.credits.of (msgVc m) → Does (.chainMessageTx d) s (fun u =>
            (u.port d).passing = [] ∧ (u.port d).replay = x.replay ++ [⟨x.txSeq, 0, m⟩] ∧ (u.port d).txSeq = (x.txSeq + msgFlits m) % 1024 ∧
            (u.port (otherPort d)).owed = (if came then (s.port (otherPort d)).owed.add (msgVc m) (msgFlits m) else (s.port (otherPort d)).owed))) ∧
          (x.passing = [] → s.chn.inject = [m] → s.routeTo m.dst = some d →
            (msgFlits m + 33 ≤ x.credits.of (msgVc m) → Does (.chainMessageTx d) s (fun u => u.chn.inject = [] ∧
              (u.port d).replay = x.replay ++ [⟨x.txSeq, 0, m⟩] ∧ (u.port d).txSeq = (x.txSeq + msgFlits m) % 1024 ∧
              (u.port d).credits = x.credits.sub (msgVc m) (msgFlits m))) ∧
            (x.credits.of (msgVc m) < msgFlits m + 33 → Does (.chainMessageTx d) s (fun u => u = s))))))

/-- R105, R632 to R636, R638 to R640: outside ENUM and READY a unit takes no part in a walk; a probe gives a unit its sticky ID, or the lowest
free one, and its position, and goes on; a root's own probe that comes round closes the ring, and a lower serial makes a root yield; ENUM_END
turns the walk west or ends it, and ENUM_DONE brings the map, and ends enumeration at a unit that took an ID; ANNOUNCE, GRANT and DETACH add units to the map and take them out. Where it goes past the text it rests on the model's choices of log
entries 13 and 30. -/
def Obligations.UnitsJoinAndLeaveTheChain : Prop :=
  ∀ (s : State) (d : Port) (b : EnumBody) (e : EnumDoneBody) (id : UnitId) (serial : Nat) (m : ChainMap) (sticky : Option Nat), s.awake →
    (s.enumOn = false → ∀ c ∈ [Instr.enumProbe d b, .enumEnd d b, .enumDone d e], Does c s (fun u => u = s)) ∧
    (s.enumOn = true → s.bitF CHN_ID.ROOT = false →
      (∀ l, s.chn.walk.lowest = some l → l < b.serial → Does (.enumProbe d b) s (fun u => u = s)) ∧
      (s.chn.walk.lowest = none → ∀ k, idChoice s.sticky b.used.toNat = some k → k < 16 → b.pos < 16 → Does (.enumProbe d b) s (fun u =>
        u.unit = k ∧ u.getF CHN_ID.ID_VALID = 1 ∧ u.getF CHN_ID.POSITION = b.pos ∧
        u.getF CHN_ID.CONFLICT = (match s.sticky with | some j => (decide (j ≠ k)).toNat | none => 0) ∧
        let on := { b with used := b.used ||| BitVec.ofNat 16 (2 ^ k), pos := b.pos + 1, ids := b.ids ++ [(k, s.otp.serial)] }
        (s.portUp (otherPort d) = true → (u.port (otherPort d)).passing = (s.port (otherPort d)).passing ++ [⟨walkMsg opEnumProbe on, false⟩]) ∧
        (s.portUp (otherPort d) = false → u.chn.walk.held = some (otherPort d, on)))) ∧
      (s.chn.walk.lowest = none → idChoice s.sticky b.used.toNat = none → Does (.enumProbe d b) s (fun u => u.getF CHN_ID.NO_ID = 1 ∧ u.unit = s.unit)) ∧
      (s.chn.walk.lowest = some b.serial → Does (.enumEnd d b) s (fun u => u.regs = s.regs ∧
        (u.port (otherPort d)).passing = (s.port (otherPort d)).passing ++ [⟨walkMsg opEnumEnd b, false⟩])) ∧
      (s.chn.walk.lowest = some e.serial → Does (.enumDone d e) s (fun u => u.chn.map = e.map ∧
        u.getF MKR_STATUS.ENUM_DONE = (if s.bitF CHN_ID.NO_ID then s.getF MKR_STATUS.ENUM_DONE else 1) ∧ u.getF CHN_ID.MODE = e.map.mode % 4 ∧ u.getF CHN_ID.UNITS = e.map.ids.length % 32 ∧ (e.conflict = true → u.getF CHN_ID.ROOT_CONFLICT = 1))) ∧
      (s.chn.walk.lowest ≠ some e.serial → Does (.enumDone d e) s (fun u => u = s))) ∧
    (s.bitF CHN_ID.ROOT = true →
      (s.enumOn = true → b.serial = s.otp.serial → s.chn.walk.walking = true → s.chn.walk.west = none →
        Does (.enumProbe 0 b) s (fun u => u.chn.walk.walking = false ∧ u.getF MKR_STATUS.ENUM_DONE = 1 ∧ u.getF CHN_ID.MODE = 1 ∧
          u.chn.map = { mode := 1, ids := s.unit :: b.ids.map (·.1), cuts := [] }) ∧
        Does (.enumEnd d b) s (fun u => u.chn.walk.west = some b.ids.length ∧
          (s.portUp 0 = true → ⟨walkMsg opEnumProbe b, false⟩ ∈ (u.port 0).passing))) ∧
      (s.enumOn = true → b.serial < s.otp.serial → ∀ k, idChoice s.sticky b.used.toNat = some k → k < 16 → Does (.enumProbe d b) s (fun u =>
        u.getF CHN_ID.ROOT = 0 ∧ u.getF CHN_ID.ROOT_CONFLICT = 1 ∧ u.unit = k)) ∧
      (s.enumOn = true → s.otp.serial < b.serial → Does (.enumProbe d b) s (fun u => u.chn.walk.other = true ∧ u.regs = s.regs ∧ u.chn.ports = s.chn.ports)) ∧
      (s.chn.walk.walking = false → s.bitF MKR_STATUS.ENUM_DONE = true → s.chn.heldIds = [] → ∀ k,
        lowestFree (s.chn.map.ids.foldl (fun a u => a ||| 2 ^ u) 0) = some k → Does (.announce d sticky serial) s (fun u =>
          k ∈ u.chn.map.ids ∧ tabGet 0 u.chn.serials k = serial ∧ u.noticed .chainAttach ∧
          ∀ p, s.portUp p = true → ∃ w ∈ (u.port p).passing, w.msg.op = opGrant ∧ w.msg.inline = leBytes 1 k ++ leBytes 8 serial ++ mapBytes u.chn.map)) ∧
      (tabHas s.chn.heldIds id.val = true → Does (.detachMsExpire id) s (fun u => tabHas u.chn.heldIds id.val = false ∧
        u.chn.map.ids = s.chn.map.ids.erase id.val ∧ ∀ p, s.portUp p = true → ∃ w ∈ (u.port p).passing, w.msg.op = opDetach))) ∧
    (s.bitF CHN_ID.ROOT = false → Does (.announce d sticky serial) s (fun u => u = s) ∧ Does (.detachMsExpire id) s (fun u => u = s)) ∧
    (∀ p, s.chn.walk.held = some (p, b) → s.chn.walk.walking = false → Does .hopWaitExpire s (fun u => u.chn.walk.held = none ∧ u.regs = s.regs ∧
      (u.port (otherPort p)).passing = (s.port (otherPort p)).passing ++ [⟨walkMsg opEnumEnd b, false⟩])) ∧
    (s.chn.walk.held = none → Does .hopWaitExpire s (fun u => u = s)) ∧
    Does (.grant id serial m) s (fun u => u.chn.map = m ∧ u.noticed .chainAttach ∧ u.getF CHN_ID.MODE = m.mode % 4 ∧
      (serial = s.otp.serial → u.unit = id.val ∧ u.getF CHN_ID.ID_VALID = 1 ∧ u.getF MKR_STATUS.ENUM_DONE = 1) ∧
      (serial ≠ s.otp.serial → u.unit = s.unit)) ∧
    (id.val ∈ s.chn.map.ids → Does (.detach id) s (fun u => u.chn.map.ids = s.chn.map.ids.erase id.val ∧ u.noticed .chainAttach)) ∧
    (id.val ∉ s.chn.map.ids → Does (.detach id) s (fun u => u = s))

/-- R600, R611, R614, R641, R642, R645, R655 to R657: a link comes up fresh; a port that goes down folds the chain and sends what was not
acknowledged the other way; a healed port opens its link again; a lane moves to the spare once; a rate falls after two bad windows and
rises after clean ones, each by a retraining. Where it goes past the text it rests on the model's choices of log entries 13 and 30. -/
def Obligations.LinksFoldHealAndRetrain : Prop :=
  ∀ (s : State) (d far : Port) (v : UnitId) (r : LaneReport) (resent : Nat), s.awake → s.settled →
    let x := s.port d
    let o := otherPort d
    (far = d → Does (.chainLinkUp d far) s (fun u => u.getF (CHN_PORT_STAT.STATE d) = psMiswired ∧ u.chn = s.chn)) ∧
    (far ≠ d → s.portUp d = false → Does (.chainLinkUp d far) s (fun u => u.portUp d = true ∧ u.getF (CHN_PORT_STAT.RATE d) = x.goal % 2 ∧
      (u.port d).txSeq = 0 ∧ (u.port d).rxSeq = 0 ∧ (u.port d).replay = [] ∧ (u.port d).credits = {} ∧ u.port o = s.port o)) ∧
    (s.portUp d = true → Does (.chainPortDown d) s (fun u => u.getF (CHN_PORT_STAT.STATE d) = psDown ∧ u.getF (CHN_PORT_STAT.FOLDED d) = 1 ∧
      u.getF (foldBit d) = 1 ∧ s.counted u (CHN_PORT_ERR.LINK_DOWNS d) ∧ (u.port d).replay = [] ∧
      (∀ e ∈ x.replay, ⟨{ e.msg with resend := true }, false⟩ ∈ (u.port o).passing) ∧ ⟨s.foldMsg opFold d, false⟩ ∈ (u.port o).passing)) ∧
    (s.getF (CHN_PORT_STAT.STATE d) = psDown → Does (.chainPortDown d) s (fun u => u = s)) ∧
    (∀ l, linkAt s.chn.map v.val d = some l →
      (s.chn.map.cuts.contains l = false → Does (.fold v d) s (fun u => u.chn.map = { s.chn.map with cuts := l :: s.chn.map.cuts, mode := 2 } ∧
        u.getF CHN_ID.MODE = 2 ∧ s.counted u CHN_FOLD_STAT.FOLDS ∧ u.noticed .chainFold ∧ u.chn.ports = s.chn.ports)) ∧
      (s.chn.map.cuts.contains l = true → Does (.fold v d) s (fun u => u = s) ∧ Does (.heal v d) s (fun u =>
        u.chn.map.cuts = s.chn.map.cuts.filter (fun k => decide (k ≠ l)) ∧ u.getF CHN_ID.MODE = (if u.chn.map.cuts = [] then 1 else 2) ∧
        s.counted u CHN_FOLD_STAT.HEALS ∧ u.noticed .chainFold)) ∧
      (s.chn.map.cuts.contains l = false → Does (.heal v d) s (fun u => u = s))) ∧
    (s.portUp d = true → s.bitF (CHN_PORT_STAT.FOLDED d) = true → Does (.healHoldExpire d) s (fun u => u.getF (CHN_PORT_STAT.FOLDED d) = 0 ∧
      u.getF (foldBit d) = 0 ∧ ⟨s.foldMsg opHeal d, false⟩ ∈ (u.port d).passing)) ∧
    (s.portUp d = false ∨ s.bitF (CHN_PORT_STAT.FOLDED d) = false → Does (.healHoldExpire d) s (fun u => u = s)) ∧
    Does (.laneSpare d r) s (fun u => u.getF (CHN_PORT_FEC.CORRECTED d) =
      min (CHN_PORT_FEC.CORRECTED d).top (s.getF (CHN_PORT_FEC.CORRECTED d) + r.symbols) ∧
      (r.lost = false → r.symbols ≤ s.getF (CHN_PORT_CFG.LANE_LIMIT d) → u.chn = s.chn ∧ u.rep = s.rep)) ∧
    (s.portUp d = true → (r.lost = true ∨ s.getF (CHN_PORT_CFG.LANE_LIMIT d) < r.symbols) →
      (s.bitF (CHN_PORT_STAT.SPARE_USED d) = false → r.lane < 32 → Does (.laneSpare d r) s (fun u => (u.port d).held = true ∧
        u.getF (CHN_PORT_STAT.SPARE_USED d) = 1 ∧ u.getF (CHN_PORT_STAT.SPARED_LANE d) = r.lane ∧ s.counted u REP_STATUS.REPAIRS ∧
        u.portUp d = true ∧ u.rep.soft = s.rep.soft ++ [{ kind := rkLane, unit := d.val, a := r.lane }] ∧ u.noticed .laneErr ∧
        u.noticed .repairDone)) ∧
      (s.bitF (CHN_PORT_STAT.SPARE_USED d) = true → Does (.laneSpare d r) s (fun u => u.getF (CHN_PORT_STAT.STATE d) = psDown ∧
        u.rep.soft = s.rep.soft))) ∧
    Does (.laneSpareSwapDone d) s (fun u => u.port d = { x with held := false } ∧ u.port o = s.port o ∧ u.regs = s.regs) ∧
    (s.getF (CHN_PORT_STAT.STATE d) = psRetrain → Does (.retrainDone d true) s (fun u => u.portUp d = true ∧
        u.getF (CHN_PORT_STAT.RATE d) = x.goal % 2 ∧ u.chn = s.chn) ∧
      Does (.retrainDone d false) s (fun u => u.getF (CHN_PORT_STAT.STATE d) = psDown ∧ u.getF (CHN_PORT_STAT.FOLDED d) = 1)) ∧
    (s.getF (CHN_PORT_STAT.STATE d) ≠ psRetrain → ∀ ok, Does (.retrainDone d ok) s (fun u => u = s)) ∧
    (s.portUp d = true → s.getF (CHN_PORT_CFG.FORCE_RATE d) = 0 →
      (s.getF (CHN_PORT_STAT.RATE d) = 0 →
        (s.getF (CHN_PORT_CFG.REPLAY_LIMIT d) < resent → x.overWindows = 1 → x.sinceUp = none → Does (.replayWindowEnd d resent) s (fun u =>
          u.getF (CHN_PORT_STAT.STATE d) = psRetrain ∧ (u.port d).goal = 1 ∧ s.counted u (CHN_PORT_STAT.DOWNSHIFTS d) ∧ u.noticed .laneErr)) ∧
        (s.getF (CHN_PORT_CFG.REPLAY_LIMIT d) < resent → x.overWindows = 0 → x.sinceUp = none → Does (.replayWindowEnd d resent) s (fun u =>
          (u.port d).overWindows = 1 ∧ u.regs = s.regs)) ∧
        (resent ≤ s.getF (CHN_PORT_CFG.REPLAY_LIMIT d) → Does (.replayWindowEnd d resent) s (fun u => (u.port d).overWindows = 0 ∧ u.regs = s.regs))) ∧
      (s.getF (CHN_PORT_STAT.RATE d) = 1 →
        (x.dirty = false → Does (.upshiftTimerExpire d) s (fun u => u.getF (CHN_PORT_STAT.STATE d) = psRetrain ∧ (u.port d).goal = 0 ∧
          s.counted u (CHN_PORT_STAT.UPSHIFTS d))) ∧
        (x.dirty = true → Does (.upshiftTimerExpire d) s (fun u => u.port d = { x with dirty := false } ∧ u.regs = s.regs)))) ∧
    (s.portUp d = false → Does (.replayWindowEnd d resent) s (fun u => u = s) ∧ Does (.upshiftTimerExpire d) s (fun u => u = s))

/-- R643, R646 to R648, R650 to R652, R654, R665, R696, R700: a request of another unit is performed here and answered, with NACK where it
fails; a repeated atomic is answered from the replay cache; after PFAIL every request is turned away; an answer ends its request, one that
answers none is counted, and a request without one is sent once more after a fold or is over; the register requests of proxy control are
served and their results kept. Where it goes past the text it rests on the model's choices of log entries 8, 13 and 30. -/
def Obligations.RemoteRequestsAreAnswered : Prop :=
  ∀ (s : State) (t : Tick) (m : Msg), s.awake →
    let rq (op : Nat) (a : StkAns) : Msg := { op := op, src := s.unit, dst := m.src, tag := m.tag, cls := m.cls, addr := m.addr, len := a.data.length, data := a.data }
    (s.bitF PKG_PFAIL_STATUS.PFAIL = false →
      (∀ a s', (s.at t).homeDo (msgReq m (.read m.len)) = (a, s') → s'.unit = s.unit →
        (a.status = .ok → a.deps = [] → Does (.read t m) s (fun u => u.chn.inject = s'.chn.inject ++ [rq opRdata a] ∧ u.stk = s'.stk ∧ u.regs = s'.regs)) ∧
        (a.status = .wait → Does (.read t m) s (fun u => u = s'.setPending s.pending)) ∧
        (a.status = .poison → Does (.read t m) s (fun u => ∃ r, u.chn.inject = s'.chn.inject ++ [r] ∧ r.op = opNack ∧ r.stat = 0x0C ∧ r.dst = m.src ∧ r.tag = m.tag))) ∧
      (∀ a s', (s.at t).homeDo (msgReq m (.write m.data)) = (a, s') → s'.unit = s.unit → a.status = .ok → a.deps = [] →
        Does (.write t m) s (fun u => u.chn.inject = s'.chn.inject ++ [rq opAck a] ∧ u.stk = s'.stk ∧ u.regs = s'.regs)) ∧
      (∀ v, (s.chn.atomics[Fin.ofNat 16 m.src]).find? (fun e => decide (e.1 = m.tag)) = some (m.tag, v) → Does (.atomic t m) s (fun u => u.stk = s.stk ∧
        s.counted u CHN_ATOM_STAT.CACHE_HITS ∧ ∃ r, u.chn.inject = s.chn.inject ++ [r] ∧ r.op = opAtomResult ∧ r.tag = m.tag ∧ r.inline = leBytes 8 v.toNat)) ∧
      (∀ op a s', (s.chn.atomics[Fin.ofNat 16 m.src]).find? (fun e => decide (e.1 = m.tag)) = none → msgAtomic m = some op →
        (s.at t).homeDo (msgReq m op) = (a, s') → s'.chn = s.chn → a.status = .ok → a.deps = [] → Does (.atomic t m) s (fun u => u.stk = s'.stk ∧
          (u.chn.atomics[Fin.ofNat 16 m.src]).head? = some (m.tag, BitVec.ofNat 64 (leNat a.data)) ∧
          ∃ r, u.chn.inject = s.chn.inject ++ [r] ∧ r.op = opAtomResult ∧ r.tag = m.tag ∧ r.inline = a.data)) ∧
      (∀ s', s.duraFlush m.src = (true, s') → Does (.flush m) s (fun u => u.stk = s'.stk ∧ ∃ r, u.chn.inject = s'.chn.inject ++ [r] ∧ r.op = opAck ∧ r.tag = m.tag)) ∧
      (∀ s', s.duraFlush m.src = (false, s') → Does (.flush m) s (fun u => u = s'.setPending s.pending))) ∧
    (s.bitF PKG_PFAIL_STATUS.PFAIL = true → ∀ c ∈ [Instr.read t m, .write t m, .atomic t m, .flush m], Does c s (fun u => u.stk = s.stk ∧
      ∃ r, u.chn.inject = s.chn.inject ++ [r] ∧ r.op = opNack ∧ r.stat = 0x11 ∧ r.dst = m.src ∧ r.tag = m.tag)) ∧
    (∀ q : Outstanding, s.chn.outs = [q] → q.answer = none → q.msg.tag = m.tag → q.msg.dst = m.src →
      (q.msg.op = opRead → m.prov = false → q.agent ≠ agentGone → Does (.rdata m) s (fun u => u.chn.outs = [{ q with answer := some { data := m.data } }] ∧ u.regs = s.regs)) ∧
      (q.msg.op = opAtomic → q.agent ≠ agentGone → Does (.atomResult m) s (fun u => u.chn.outs = [{ q with answer := some { data := m.inline.take 8 } }] ∧ u.regs = s.regs)) ∧
      (q.msg.op = opWrite → s.rep.ckpt = none → Does (.ack m) s (fun u => u.chn.outs = [] ∧ u.regs = s.regs)) ∧
      (q.msg.op = opFlush → q.agent ≠ agentGone → s.rep.ckpt = none → Does (.ack m) s (fun u => u.chn.outs = [{ q with answer := some {} }] ∧ u.regs = s.regs)) ∧
      (q.msg.op ∈ [opRead, opWrite, opAtomic, opFlush] → q.agent ≠ agentGone → q.agent ≠ agentHost → Does (.nack m) s (fun u =>
        u.chn.outs = [{ q with answer := some { status := nackStatus m } }])) ∧
      (q.msg.op = opWrite → q.agent = agentHost → Does (.nack m) s (fun u => u.chn.outs = [] ∧ s.counted u HST_BAR2_ERR.DROPPED_WRITES)) ∧
      (q.agent = agentGone → q.msg.op = opRead → Does (.rdata m) s (fun u => u.chn.outs = [] ∧ u.regs = s.regs))) ∧
    (s.chn.outs = [] → s.rep.ckpt = none → ∀ c ∈ [Instr.rdata m, .ack m, .atomResult m, .nack m], Does c s (fun u => s.counted u CHN_E2E_STAT.DUP_RESP ∧
      u.chn = s.chn ∧ u.stk = s.stk)) ∧
    (∀ q : Outstanding, s.chn.outs = [q] → q.answer = none →
      (q.folds < s.folds → q.resent = false → s.reachable q.msg.dst = true → Does (.remoteTimeout q.msg.tag q.msg.op) s (fun u =>
        u.chn.outs = [{ q with resent := true, again := true, folds := s.folds }] ∧ u.chn.inject = s.chn.inject ++ [{ q.msg with resend := true }] ∧
        s.counted u CHN_E2E_STAT.RESENDS)) ∧
      (s.folds ≤ q.folds ∨ q.resent = true ∨ s.reachable q.msg.dst = false → q.agent ≠ agentGone → q.agent ≠ agentHost → Does (.remoteTimeout q.msg.tag q.msg.op) s (fun u =>
        u.chn.outs = [{ q with answer := some { status := .down q.msg.dst } }] ∧ u.chn.inject = s.chn.inject ∧ s.counted u CHN_E2E_STAT.REMOTE_DOWN))) ∧
    (∀ v s', s.readWord m.addr = (v, s') → Does (.regRead m) s (fun u => u.regs = s'.regs ∧ ∃ r, u.chn.inject = s'.chn.inject ++ [r] ∧ r.op = opRegResult ∧
      r.dst = m.src ∧ r.tag = m.tag ∧ r.inline = leBytes 8 v.toNat)) ∧
    (∀ ok, Does (.regWrite t m ok) s (fun u => ∃ r, r.op = opRegResult ∧ r.dst = m.src ∧ r.tag = m.tag ∧ r.inline = leBytes 8 0 ∧
      u = (((s.at t).inject r).hostWrite m.addr .full (BitVec.ofNat 64 (leAt m.inline 0 8)) 6 ok).setPending s.pending)) ∧
    (∀ q, s.chn.proxy = some q → q.tag = m.tag → q.dst = m.src → Does (.regResult m) s (fun u => u.getF CHN_PROXY_CMD.BUSY = 0 ∧ u.getF CHN_PROXY_CMD.ERR = 0 ∧
      u.chn.proxy = none ∧ u.reg CHN_PROXY_DATA = (if q.op = opRegRead then BitVec.ofNat 64 (leAt m.inline 0 8) else s.reg CHN_PROXY_DATA))) ∧
    (s.chn.proxy = none → Does (.regResult m) s (fun u => u = s)) ∧
    (∀ (k : UnitId) (vec : Fin 64), s.bus.msixOn = true → s.bus.fnMask = false → s.bus.vecMask.getLsbD (s.getF CHN_PROXY_VEC.PROXY_VEC) = false →
      (s.bitF CHN_ID.ROOT = true → Does (.irqFwd k vec) s (fun u => u.reg (CHN_PROXY_IRQ k.val) = s.reg (CHN_PROXY_IRQ k.val) ||| (1#64 <<< vec.val) ∧
        u.bus.msix = if (s.reg (CHN_PROXY_IRQ k.val)).getLsbD vec.val then s.bus.msix else s.getF CHN_PROXY_VEC.PROXY_VEC :: s.bus.msix)) ∧
      (s.bitF CHN_ID.ROOT = false → Does (.irqFwd k vec) s (fun u => u = s)))

/-! ### The stock -/

/-- R591 to R594, R602, R606, R663, R665, R667, R670, R675, R700: one access at its home unit: a permitted read, write or atomic is performed
whole; a refused one is denied, counted and recorded; one that meets another's provisional line waits; a poisoned line answers POISON;
after PFAIL another unit's access is turned away; a load that waits counts once, and a line of the write-combining buffer leaves 2 µs
after its first store. Where it goes past the text it rests on the model's choices of log entries 8 and 9. -/
def Obligations.StockAccessesArePerformed : Prop :=
  ∀ (s : State) (t : Tick) (a : Access) (n : Press) (addr line : Nat), s.awake →
    let q := accessReq a
    let off := stkOff a.addr
    (s.bitF PKG_PFAIL_STATUS.PFAIL = true → a.src.val ≠ s.unit → Does (.stockAccess t a) s (fun u =>
      u.stk = { s.stk with last := { status := .down s.unit } } ∧ u.regs = s.regs)) ∧
    (s.bitF PKG_PFAIL_STATUS.PFAIL = false → a.host = false → stkUnit a.addr = s.unit →
      (∀ g x, s.refusal q = some (g, x) → Does (.stockAccess t a) s (fun u => u.stk.last.status = .denied s.unit ∧ u.stk.dram = s.stk.dram ∧
        u.stk.leaves = s.stk.leaves ∧ s.counted u STK_DENY.DENIED ∧ u.getF STK_DENY.LAST_SRC = a.src.val ∧ u.getF STK_DENY.LAST_GUARD = g.toNat ∧
        u.getF STK_DENY.LAST_AT_SOURCE = x.toNat)) ∧
      (s.refusal q = none → s.inInit a.addr (accLen a.op) = false → stkTier a.addr = 0 → a.ecc = .clean →
        (∀ k, a.op = .read k →
          (s.pptHolders q.owner a.addr k = [] ∨ a.provOk = true →
            (s.poisoned a.addr k = false → Does (.stockAccess t a) s (fun u => u.regs = s.regs ∧ u.stk.dram = s.stk.dram ∧
              u.stk.last = { data := s.stk.dram.read off k, deps := s.pptHolders q.owner a.addr k })) ∧
            (s.poisoned a.addr k = true → Does (.stockAccess t a) s (fun u => u.stk.last.status = .poison ∧ u.stk.dram = s.stk.dram))) ∧
          (s.pptHolders q.owner a.addr k ≠ [] → a.provOk = false → s.stk.waiting.contains (agentRemote, a.addr) = false →
            Does (.stockAccess t a) s (fun u => u.stk.last.status = .wait ∧ u.stk.dram = s.stk.dram ∧ s.counted u RUN_WAIT.HELD_LOADS))) ∧
        (∀ bs, a.op = .write bs →
          (s.pptForeign q.owner a.addr bs.length = true → Does (.stockAccess t a) s (fun u => u.stk.last.status = .wait ∧ u.stk.dram = s.stk.dram ∧
            u.stk.ppt = s.stk.ppt)) ∧
          (s.pptForeign q.owner a.addr bs.length = false → a.pid = none → Does (.stockAccess t a) s (fun u => u.regs = s.regs ∧
            u.stk.dram = s.stk.dram.write off bs ∧ u.stk.ppt = s.stk.ppt ∧ u.stk.last = {})) ∧
          (s.pptForeign q.owner a.addr bs.length = false → s.pptFull a.addr bs.length = false → ∀ p, a.pid = some p →
            Does (.stockAccess t a) s (fun u => u.stk.dram = s.stk.dram.write off bs ∧ ∀ pg ∈ pagesOf a.addr bs.length, ∃ e,
              (pg, e) ∈ u.stk.ppt ∧ (tabHas s.stk.ppt pg = false → e.unit = a.src.val ∧ e.pid = p.val ∧ e.mask = pageLines a.addr bs.length pg)))) ∧
        (s.pptForeign q.owner a.addr 8 = false → s.poisoned a.addr 8 = false → ∀ w, w = BitVec.ofNat 64 (leNat (s.stk.dram.read off 8)) →
          ∀ c ∈ (match a.op with | .fetchAdd x => [w + x] | .compareSwap e x => [if w = e then x else w] | .swap x => [x] | _ => []),
          Does (.stockAccess t a) s (fun u => u.stk.last = { data := s.stk.dram.read off 8 } ∧ u.regs = s.regs ∧
            (c ≠ w → u.stk.dram = s.stk.dram.write off (leBytes 8 c.toNat)))))) ∧
    (s.pptHolders none addr 1 ≠ [] → s.stk.waiting.contains (n.val, addr) = false → Does (.provisionalLoadWait n addr) s (fun u =>
      s.counted u RUN_WAIT.HELD_LOADS ∧ u.stk = { s.stk with waiting := s.stk.waiting ++ [(n.val, addr)] })) ∧
    (s.pptHolders none addr 1 = [] ∨ s.stk.waiting.contains (n.val, addr) = true → Does (.provisionalLoadWait n addr) s (fun u => u = s)) ∧
    (∀ x, s.stk.wc = [x] →
      (x.line = line → x.first + 1000 ≤ max s.dtl.count t → (∀ r ∈ runsOf x.bytes, stkUnit (64 * line + r.1) = s.unit) → Does (.wcLineTimeout t line) s (fun u =>
        u.stk.wc = [] ∧ u.bus.hostMem = (runsOf x.bytes).foldl (fun m r => m.write (stkOff (64 * line + r.1)) r.2) s.bus.hostMem ∧ u.regs = s.regs)) ∧
      (x.line ≠ line ∨ max s.dtl.count t < x.first + 1000 → Does (.wcLineTimeout t line) s (fun u => u = s.at t)))

/-- R682, R685, R687, R689, R690, R692, R704, R706, R782, R783: a background fill brings a leaf from flash; a write-back programs the leaf as
it was copied, and it stays dirty only if stored to since; idle time starts the write-back of a leaf dirty for a second; enabling a pin
range makes its leaves hot or takes them out, disabling it lets them go; a busy window caps the share of best-effort requests, or holds
promotions off. Where it goes past the text it rests on the model's choices of log entries 8 and 39. -/
def Obligations.LeavesMoveBetweenCacheAndFlash : Prop :=
  ∀ (s : State) (l pct : Nat) (bad : List (Fin 256)) (r : Fin 16) (x : Leaf), s.awake →
    (s.resident l = false → s.cold l = false → s.stk.fills.contains l = true → (s.setOf l).length < 8 → Does (.leafFillDone l bad) s (fun u =>
      u.resident l = true ∧ (u.leaf l).dirty = false ∧ u.stk.cache = s.stk.cache.copyFrom s.stk.flash (l * leafBytes) leafBytes ∧
      u.stk.fills.contains l = false ∧ u.getF STK_LEAF_STAT.FILLS = (s.getF STK_LEAF_STAT.FILLS + 1) % 2 ^ 32 ∧
      (bad = [] → u.stk.poison = s.stk.poison) ∧ (bad ≠ [] → s.counted u STK_ERR.FLASH_UNCORR))) ∧
    (s.resident l = true ∨ s.cold l = true → Does (.leafFillDone l bad) s (fun u => u = s)) ∧
    (∀ w, s.stk.wbs.find? (fun w => decide (w.leaf = l)) = some w → ∀ ok,
      (s.pkg.suspended = true → Does (.leafWritebackDone l ok) s (fun u => u = s)) ∧
      (s.pkg.suspended = false → s.cold l = false → Does (.leafWritebackDone l ok) s (fun u =>
        u.stk.flash = s.stk.flash.copyFrom w.data (l * leafBytes) leafBytes ∧ ((s.leaf l).again = false → ∀ y ∈ u.stk.wbs, y.leaf ≠ l) ∧
        (u.leaf l).dirty = (s.leaf l).again ∧ u.stk.cache = s.stk.cache ∧ u.stk.jseq = s.stk.jseq + 1 ∧
        u.getF STK_LEAF_STAT.WRITEBACKS = (s.getF STK_LEAF_STAT.WRITEBACKS + 1) % 2 ^ 32 ∧
        (ok = false → s.counted u STK_ERR.PROG_FAIL) ∧ (ok = true → u.getF STK_ERR.PROG_FAIL = s.getF STK_ERR.PROG_FAIL)))) ∧
    (s.stk.wbs = [] → ∀ ok, Does (.leafWritebackDone l ok) s (fun u => u = s)) ∧
    (s.stk.leaves = [(l, x)] → s.stk.wbs = [] → s.leafProv l = false → s.pkg.suspended = false →
      (x.dirty = true → x.dirtyAt + 500000000 ≤ s.dtl.count → Does .idleWriteback s (fun u => ∃ w, u.stk.wbs = [w] ∧ w.leaf = l ∧ w.dura = x.dura ∧
        w.data = Mem.copyFrom {} s.stk.cache (l * leafBytes) leafBytes ∧ u.stk.flash = s.stk.flash ∧ u.regs = s.regs)) ∧
      (x.dirty = false ∨ s.dtl.count < x.dirtyAt + 500000000 → Does .idleWriteback s (fun u => u = s))) ∧
    (s.ready = true →
      (s.stk.leaves = [] → Does (.pinRangeEnable r) s (fun u => u.getF (STK_PIN_CFG.EN r.val) = 1 ∧ u.getF (STK_PIN_CFG.PARTIAL r.val) = 0 ∧ u.stk = s.stk)) ∧
      (s.stk.leaves = [(l, x)] → s.stk.wbs = [] → s.leafProv l = false → s.pkg.suspended = false → ∀ kind,
        ((s.setF (STK_PIN_CFG.EN r.val) 1).setF (STK_PIN_CFG.PARTIAL r.val) 0).pinOf l = some (r.val, kind) →
        (kind = false → Does (.pinRangeEnable r) s (fun u => u.getF (STK_PIN_CFG.EN r.val) = 1 ∧ u.stk.leaves = [(l, { x with hot := true })] ∧ u.stk.cache = s.stk.cache)) ∧
        (kind = true → x.dirty = false → Does (.pinRangeEnable r) s (fun u => u.getF (STK_PIN_CFG.EN r.val) = 1 ∧ u.stk.leaves = [] ∧ u.resident l = false)) ∧
        (kind = true → x.dirty = true → Does (.pinRangeEnable r) s (fun u => u.resident l = true ∧ ∃ w, u.stk.wbs = [w] ∧ w.leaf = l))) ∧
      Does (.pinRangeDisable r) s (fun u => u.getF (STK_PIN_CFG.EN r.val) = 0 ∧ u.stk.cache = s.stk.cache ∧
        (u.hotWanted l = false → (u.leaf l).hot = false) ∧ (u.hotWanted l = true → (u.leaf l).hot = (s.leaf l).hot))) ∧
    (s.getF LIM_CFG.BUSY_PCT ≤ pct → Does (.dramBusyWindow pct) s (fun u => u.stk = { s.stk with beCap := s.getF LIM_CFG.BE_CAP_PCT } ∧
      s.counted u LIM_THROTTLE.BE_WINDOWS)) ∧
    (pct < s.getF LIM_CFG.BUSY_PCT → Does (.dramBusyWindow pct) s (fun u => u = { s with stk := { s.stk with beCap := 100 } })) ∧
    Does (.flashBusyWindow pct) s (fun u => u = { s with stk := { s.stk with promoHold := decide (s.getF LIM_CFG.FLASH_BUSY_PCT ≤ pct) } })

/-! ### Guard, repair and failover -/

/-- R710, R718 to R720, R726 to R738: a pair is enabled when its presses may form one and refused when not; a guard epoch is published with
its causes and verdict, and the pins follow; a deadline that passes unpublished is missed, which brings the pins to the safe state; REARM
with its key clears the latch; guard requests get their share of a window. Where it goes past the text it rests on the model's choices of
log entries 19 and 24. -/
def Obligations.GuardPublishesAndMisses : Prop :=
  ∀ (s : State) (t : Tick) (k : Fin 4) (v : BitVec 64) (share e : Nat), s.awake →
    let a := (GRD_PAIR.PRIMARY k.val).get v
    let b := (GRD_PAIR.SHADOW k.val).get v
    (∀ w, Does (.guardBwWindow w share) s (fun u => u.regs = s.regs ∧ u.grd.run = s.grd.run ∧ u.grd.share = max (min share 100)
      (if w && s.bitF GRD_CFG.EN then s.getF GRD_CFG.BW_PCT else 0))) ∧
    (s.ready = true →
      (s.pairRuns k.val = true → Does (.grdPairEnable k v) s (fun u => u = s)) ∧
      (s.pairRuns k.val = false → (GRD_PAIR.EN k.val).get v = 1 →
        (s.pairOk k.val a b = true → Does (.grdPairEnable k v) s (fun u => u.getF (GRD_PAIR.EN k.val) = 1 ∧ u.getF (GRD_PAIR.PRIMARY k.val) = a ∧
          u.getF (GRD_PAIR.SHADOW k.val) = b ∧ u.getF (GRD_PAIR.REFUSED k.val) = 0 ∧ (s.bitF (GRD_PAIR.EN k.val) = false → u.getF (GRD_PAIR.SINGLE k.val) = 0 ∧
            u.getF GRD_STATUS.VALID = s.getF GRD_STATUS.VALID))) ∧
        (s.pairOk k.val a b = false → Does (.grdPairEnable k v) s (fun u => u.getF (GRD_PAIR.EN k.val) = 0 ∧ u.getF (GRD_PAIR.REFUSED k.val) = 1))) ∧
      (s.pairRuns k.val = false → s.bitF (GRD_PAIR.EN k.val) = true → (GRD_PAIR.EN k.val).get v = 0 → Does (.grdPairEnable k v) s (fun u =>
        u.getF (GRD_PAIR.EN k.val) = 0 ∧ u.getF GRD_STATUS.VALID = 0)) ∧
      (v.getLsbD 0 = true → GRD_CTRL.KEY.get v = 0xC3 → Does (.grdRearm v) s (fun u => u.grd = { s.grd with latched := none } ∧
        u.getF GRD_STATUS.LATCHED = 0 ∧ u.getF GRD_STATUS.LATCH_CAUSE = 0 ∧ u.getF GRD_STATUS.VALID = s.getF GRD_STATUS.VALID)) ∧
      (v.getLsbD 0 = false ∨ GRD_CTRL.KEY.get v ≠ 0xC3 → Does (.grdRearm v) s (fun u => u = s))) ∧
    (s.stk.initMask = 2 ^ k.val → Does .inlineEccInitDone s (fun u => u.stk.initMask = 0 ∧ u.getF GRD_STATUS.INIT_BUSY = 0 ∧
      u.stk.dram = s.stk.dram.erase (stkOff (s.part k.val).base) ((s.part k.val).size * 7 / 8) ∧ u.stk.flash = s.stk.flash)) ∧
    Does .guardSlotEnd s (fun u => u = { s with grd := { s.grd with slot := false } }) ∧
    (∀ f l, s.epochRec e = some f → s.guardLaunches e = [l] → (∀ g ∈ s.rgs.guards, g.1 ≠ f.num) → s.rgs.freeing = [] →
      s.bitF GRD_CFG.EN = true → f.closed = true → f.published = false → f.missed = false → l.done = true → l.single = false →
      (∀ st, l.stop = some st → Does (.guardPublish t e) s (fun u => u.getF GRD_LAST.EPOCH = f.num % 2 ^ 32 ∧ u.getF GRD_LAST.VALID = 0 ∧
        u.getF GRD_LAST.DEADLINE = 0 ∧ u.getF GRD_STATUS.LAST_EPOCH = f.num % 2 ^ 32 ∧ u.getF GRD_STATUS.VALID = 0 ∧
        ∃ x, u.epochRec e = some x ∧ x.published = true)) ∧
      (∀ r, l.stop = none → (s.at t).ownRead l.out 64 = (r, s.at t) → r.status = .ok → leAt r.data 0 4 = f.num → leAt r.data 4 4 = 0x5A5A0F0F →
        byteAt r.data 8 % 2 = 0 → (s.at t).causesOf f [l] [{ epoch := f.num, clear := true, katFail := false }] = 0 → s.bitF GRD_STATUS.LATCHED = false →
        max 1 (s.getF GRD_CFG.VALID_N) ≤ s.grd.run + 1 → Does (.guardPublish t e) s (fun u => u.getF GRD_LAST.EPOCH = f.num % 2 ^ 32 ∧
          u.getF GRD_LAST.CAUSES = 0 ∧ u.getF GRD_LAST.VALID = 1 ∧ u.getF GRD_LAST.STOP = 0 ∧ u.getF GRD_STATUS.VALID = 1 ∧ u.grd.run = s.grd.run + 1)) ∧
      (∀ r, l.stop = none → (s.at t).ownRead l.out 64 = (r, s.at t) → r.status = .ok → leAt r.data 0 4 = f.num → leAt r.data 4 4 ≠ 0x5A5A0F0F →
        Does (.guardPublish t e) s (fun u => u.getF GRD_LAST.STOP = 1 ∧ u.getF GRD_STATUS.VALID = 0 ∧ u.grd.run = 0))) ∧
    ((s.guardLaunches e = [] ∨ s.bitF GRD_CFG.EN = false) → Does (.guardPublish t e) s (fun u => u = s.at t)) ∧
    (∀ f, s.epochRec e = some f →
      ((s.at t).deadlineDue f (max s.dtl.count t) = true → (∀ g ∈ s.rgs.guards, g.1 ≠ e) → s.rgs.freeing = [] → Does (.guardDeadline t e) s (fun u => s.counted u GRD_COUNT.DEADLINE_MISSES ∧
        u.noticed .deadlineMiss ∧ u.getF GRD_STATUS.VALID = 0 ∧ u.getF GRD_LAST.EPOCH = e % 2 ^ 32 ∧ u.getF GRD_LAST.DEADLINE = 1 ∧ u.getF GRD_LAST.VALID = 0 ∧
        ∃ x, u.epochRec e = some x ∧ x.missed = true)) ∧
      ((s.at t).deadlineDue f (max s.dtl.count t) = false → Does (.guardDeadline t e) s (fun u => u = s.at t)))

/-- R744 to R746, R749, R750, R752 to R755, R758, R759: a pass is asked for, starts a segment on an idle press and ends it; a fault it finds
takes the lowest spare left, or fences the press when there is none; FENCE_NOW and CLEAR_SOFT act with their key; the soft table goes to
the copy that was not loaded, with the next sequence number. Where it goes past the text it rests on the model's choices of log entry 25. -/
def Obligations.RepairAndFencing : Prop :=
  ∀ (s : State) (t : Tick) (n : Press) (mask : BitVec 16) (v : BitVec 64) (col : Nat), s.awake →
    let fenced (u : State) (cause : Nat) : Prop := u.getF (REP_PRESS.FENCED n.val) = 1 ∧ u.getF (REP_PRESS.FENCE_CAUSE n.val) = cause ∧
      u.pressOn n.val = false ∧ s.counted u REP_STATUS.FENCES ∧ u.noticed .pressFenced ∧ ∃ x, u.rep.soft = s.rep.soft ++ [x] ∧ x.kind = rkFence ∧ x.unit = n.val
    let k := s.getF (REP_PRESS.SEGMENT n.val)
    let repair : Repair := { kind := rkColumn, unit := n.val, a := col }
    (s.ready = true →
      Does (.bistRequest mask) s (fun u => u.regs = s.regs ∧ ∀ p : Press, u.rep.bist[p] = { s.rep.bist[p] with
        host := s.rep.bist[p].host || (mask.getLsbD p.val && s.pressOn p.val) }) ∧
      (REP_CTRL.KEY.get v = 0x5C → REP_CTRL.FENCE_NOW.get v = 1 → REP_CTRL.FENCE_PRESS.get v = n.val →
        (s.bitF (REP_PRESS.FENCED n.val) = false → Does (.fenceNow t v) s (fun u => fenced u fcHost)) ∧
        (s.bitF (REP_PRESS.FENCED n.val) = true → Does (.fenceNow t v) s (fun u => u = s.at t))) ∧
      (REP_CTRL.KEY.get v = 0x5C → REP_CTRL.CLEAR_SOFT.get v = 1 → Does (.clearSoft v) s (fun u => u.rep.soft = [] ∧ u.rep.repairs = s.rep.repairs ∧
        u.getF REP_SOFT_STAT.ENTRIES = 0 ∧ u.getF REP_STATUS.SOFT_PENDING = 0 ∧ u.getF REP_SOFT_STAT.SEQ = (s.getF REP_SOFT_STAT.SEQ + 1) % 2 ^ 32 ∧
        u.qspi = s.qspi.write (softAt (1 - s.getF REP_SOFT_STAT.LOADED_COPY)) (softBytes ((s.getF REP_SOFT_STAT.SEQ + 1) % 2 ^ 32) []))) ∧
      (REP_CTRL.KEY.get v ≠ 0x5C → Does (.fenceNow t v) s (fun u => u = s.at t) ∧ Does (.clearSoft v) s (fun u => u = s))) ∧
    (s.bitF REP_BIST_CFG.PERIODIC_EN = true → s.pressOn n.val = true → Does (.periodicBistTimer n) s (fun u => u.regs = s.regs ∧
      u.rep.bist[n] = { s.rep.bist[n] with due := true } ∧ ∀ p : Press, p ≠ n → u.rep.bist[p] = s.rep.bist[p])) ∧
    (s.bitF REP_BIST_CFG.PERIODIC_EN = false → Does (.periodicBistTimer n) s (fun u => u = s)) ∧
    (s.idleWindow n = true → s.rep.bist[n].next = 0 →
      (∀ forced, s.passWanted n = some forced → Does (.bistSegmentStart n) s (fun u => u.getF (REP_PRESS.SEGMENT n.val) = 0 ∧
        u.rep.bist[n].forced = false ∧ u.rep.bist[n].ofSuspect = forced ∧ u.rep.bist[n].due = false)) ∧
      (s.passWanted n = none → Does (.bistSegmentStart n) s (fun u => u = s))) ∧
    (s.idleWindow n = true → 0 < s.rep.bist[n].next → s.rep.bist[n].next < 256 → Does (.bistSegmentStart n) s (fun u =>
      u.getF (REP_PRESS.SEGMENT n.val) = s.rep.bist[n].next ∧ u.rep = s.rep)) ∧
    (s.idleWindow n = false → Does (.bistSegmentStart n) s (fun u => u = s)) ∧
    (k = 0xFF → ∀ fs, Does (.bistSegmentEnd t n fs) s (fun u => u = s.at t)) ∧
    (k + 1 < 18 → s.bitF (REP_PRESS.FENCED n.val) = false →
      Does (.bistSegmentEnd t n []) s (fun u => u.getF (REP_PRESS.SEGMENT n.val) = 0xFF ∧ u.rep.bist[n].next = k + 1 ∧ u.rep.repairs = s.rep.repairs ∧
        u.presses = s.presses) ∧
      (∀ sp, s.spareFor repair = some sp → Does (.bistSegmentEnd t n [.column n col]) s (fun u => u.getF (REP_PRESS.SEGMENT n.val) = 0xFF ∧
        u.rep.bist[n].found = true ∧ u.rep.repairs = s.rep.repairs ++ [{ repair with spare := sp }] ∧ u.rep.soft = s.rep.soft ++ [{ repair with spare := sp }] ∧
        s.counted u REP_STATUS.REPAIRS ∧ s.counted u (REP_PRESS.COLS_USED n.val) ∧ u.getF REP_STATUS.SOFT_PENDING = 1)) ∧
      (s.spareFor repair = none → Does (.bistSegmentEnd t n [.column n col]) s (fun u => fenced u fcSpares)) ∧
      Does (.bistSegmentEnd t n [.logic n]) s (fun u => fenced u fcLogic)) ∧
    (k = 17 → s.bitF (REP_PRESS.FENCED n.val) = false → s.rep.bist[n].ofSuspect = false → Does (.bistSegmentEnd t n []) s (fun u =>
      s.counted u (REP_PRESS.PASSES n.val) ∧ s.counted u REP_STATUS.PASSES ∧ u.noticed .repairDone ∧ (u.press n).image = none ∧ u.rep.bist[n].next = 0 ∧
      ∀ p, p ≠ n → u.press p = s.press p)) ∧
    (s.bitF REP_STATUS.SOFT_PENDING = true → s.rep.soft.length < 4095 → Does .softTableWrite s (fun u => u.getF REP_STATUS.SOFT_PENDING = 0 ∧
      u.getF REP_SOFT_STAT.SEQ = (s.getF REP_SOFT_STAT.SEQ + 1) % 2 ^ 32 ∧ u.getF REP_SOFT_STAT.ENTRIES = s.rep.soft.length ∧ u.rep = s.rep ∧
      u.qspi = s.qspi.write (softAt (1 - s.getF REP_SOFT_STAT.LOADED_COPY)) (softBytes ((s.getF REP_SOFT_STAT.SEQ + 1) % 2 ^ 32) s.rep.soft))) ∧
    (s.bitF REP_STATUS.SOFT_PENDING = false → Does .softTableWrite s (fun u => u = s))

/-- R762 to R764, R766, R767, R770, R771, R773, R776, R777: heartbeats go to the peer and are heard; a peer lost for long enough makes the
standby take over, and a self-demoting active unit disable its guard pairs; a checkpoint starts with its commit record set to zero, or its
trigger is skipped; adoption runs on a unit that has taken over and ends with DONE or ERR. Where it goes past the text it rests on the
model's choices of log entry 26. -/
def Obligations.FailoverPair : Prop :=
  ∀ (s : State) (t : Tick) (src : UnitId) (role lastN epoch us : Nat), s.awake →
    (s.role = roleActive ∨ s.role = roleStandby → Does .heartbeatSend s (fun u => u.chn.inject = s.chn.inject ++ [s.heartbeatMsg] ∧ u.regs = s.regs)) ∧
    (s.role ≠ roleActive → s.role ≠ roleStandby → Does .heartbeatSend s (fun u => u = s)) ∧
    (s.role ≠ 0 → src.val = s.getF REP_PAIR_CFG.PEER → Does (.heartbeat src role lastN epoch) s (fun u => u.rep.heard = some s.dtl.count ∧
      (role = roleTaken → s.role = roleActive → u.getF REP_PAIR_CFG.PEER_ACTIVE = 1) ∧ (role ≠ roleTaken → u.regs = s.regs))) ∧
    (s.role = 0 ∨ src.val ≠ s.getF REP_PAIR_CFG.PEER → Does (.heartbeat src role lastN epoch) s (fun u => u = s)) ∧
    (∀ h, s.rep.heard = some h → max s.dtl.count t < h + usTicks (s.getF REP_PAIR_CFG.HB_LOSS_US) → Does (.peerLoss t us) s (fun u => u = s.at t)) ∧
    ((∀ h, s.rep.heard = some h → h + usTicks (s.getF REP_PAIR_CFG.HB_LOSS_US) ≤ max s.dtl.count t) →
      (s.role = roleStandby → ∀ s0 s1 s2 a b, s0 = (s.at t).setRep { s.rep with taking := some us } →
        s0.slotComplete (s.reg REP_SLOT_A).toNat = (.ok a, s1) → s1.slotComplete (s1.reg REP_SLOT_B).toNat = (.ok b, s2) →
        Does (.peerLoss t us) s (fun u => u.getF REP_PAIR_CFG.ROLE = roleTaken ∧ u.noticed .failover ∧ u.rep = { s2.rep with taking := none } ∧
          u.getF REP_TAKEOVER.LATENCY_US = min (2 ^ 24 - 1) us ∧ u.getF REP_TAKEOVER.NONE = (decide (a = none ∧ b = none)).toNat ∧
          (∀ k c, bestSlot a b = some (k, c) → u.getF REP_TAKEOVER.SLOT = k ∧ u.getF REP_TAKEOVER.N = c % 2 ^ (REP_TAKEOVER.N).w))) ∧
      (s.role = roleActive → s.bitF REP_PAIR_CFG.SELF_DEMOTE = true → Does (.peerLoss t us) s (fun u => u.rep.demoted = true ∧
        ∀ k < 4, u.getF (GRD_PAIR.EN k) = 0)) ∧
      (s.role = roleActive → s.bitF REP_PAIR_CFG.SELF_DEMOTE = false → Does (.peerLoss t us) s (fun u => u = s.at t))) ∧
    (s.ready = true →
      (s.role = roleActive → s.bitF REP_PAIR_CFG.PEER_ACTIVE = false →
        (s.rep.ckpt = none → s.bitF PKG_PFAIL_STATUS.FLUSH_ACTIVE = false → ∀ x q, x = s.slotAddr (s.getF REP_CKPT_STAT.LAST_N + 1) →
          q = s.ckptReq (.write (List.replicate 64 0)) x → stkUnit x = s.unit → stkTier x = 0 → s.refusal q = none → s.inInit x 64 = false →
          s.pptForeign none x 64 = false → Does (.ckptGo t) s (fun u => u.stk.dram = s.stk.dram.write (stkOff x) (List.replicate 64 0) ∧
            u.getF REP_CKPT_STAT.STATE = 1 ∧ u.getF REP_CKPT_STAT.CKPT_ERR = 0 ∧ ∃ c, u.rep.ckpt = some c ∧ c.n = s.getF REP_CKPT_STAT.LAST_N + 1 ∧
              c.step = .zero ∧ c.posted = true)) ∧
        (s.rep.ckpt.isSome = true ∨ s.bitF PKG_PFAIL_STATUS.FLUSH_ACTIVE = true → Does (.ckptGo t) s (fun u => s.counted u REP_CKPT_STAT.SKIPPED ∧
          u.rep = s.rep ∧ u.stk = s.stk))) ∧
      (s.role ≠ roleActive → Does (.ckptGo t) s (fun u => u = s.at t)) ∧
      (s.getF REP_CKPT_CTRL.PERIOD_MS ≠ 0 → ∀ P, Does (.ckptGo t) s P → Does (.ckptPeriod t) s P) ∧
      (s.getF REP_PAIR_CFG.ROLE = roleTaken → s.bitF DTL_EPOCH_CFG.EN = false → s.bitF REP_ADOPT.BUSY = false →
        (s.bitF REP_TAKEOVER.NONE = true → Does .adopt s (fun u => u.getF REP_ADOPT.BUSY = 1 ∧ u.getF REP_ADOPT.DONE = 0 ∧ u.getF REP_ADOPT.ERR = 0 ∧
          u.rep = { s.rep with adopt := some { ended := some true } } ∧ u.stk = s.stk)) ∧
        (s.bitF REP_TAKEOVER.NONE = false → Does .adopt s (fun u => u.rep.adopt ≠ none))) ∧
      (s.getF REP_PAIR_CFG.ROLE ≠ roleTaken ∨ s.bitF DTL_EPOCH_CFG.EN = true ∨ s.bitF REP_ADOPT.BUSY = true → Does .adopt s (fun u => u = s))) ∧
    (s.getF REP_CKPT_CTRL.PERIOD_MS = 0 → Does (.ckptPeriod t) s (fun u => u = s.at t)) ∧
    (∀ x ok, s.rep.adopt = some x → x.ended = some ok → Does .adoptDone s (fun u => u.rep.adopt = none ∧ u.getF REP_ADOPT.BUSY = 0 ∧
      (ok = true → u.getF REP_ADOPT.DONE = 1) ∧ (ok = false → u.getF REP_ADOPT.ERR = 1) ∧ u.stk = s.stk)) ∧
    (∀ x s', s.rep.adopt = some x → x.ended = none → x.sect = 15 → s'.rep = s.rep →
      (s.adoptSection 15 = (some true, s') → ∀ v, (s'.setRep { s'.rep with adopt := some { x with sect := 16 } }).adoptRest = (.ok (), v) →
        v.rep.adopt = some { x with sect := 16 } → Does .adoptDone s (fun u => u.rep.adopt = none ∧ u.getF REP_ADOPT.BUSY = 0 ∧ u.getF REP_ADOPT.DONE = 1)) ∧
      (s.adoptSection 15 = (some false, s') → Does .adoptDone s (fun u => u.rep.adopt = none ∧ u.getF REP_ADOPT.BUSY = 0 ∧ u.getF REP_ADOPT.ERR = 1))) ∧
    (s.rep.adopt = none → Does .adoptDone s (fun u => u = s))

/-! ### Stop-press and debug -/

/-- R792 to R794, R798 to R814: a freeze request stops every domain but MEM, which stops last, and brings the pins to the safe state; the
TAP's instructions tell the identity, the status and a challenge, unlock debug by a valid response and lock it after three bad ones, and
read scan chains and memories out of an unlocked, frozen engine only; a thaw-in-place goes on and a stop-press reset starts afresh, each
only out of a freeze. Where it goes past the text it rests on the model's choices of log entry 27. -/
def Obligations.StopPressAndTap : Prop :=
  ∀ (s : State) (t : Tick) (v : BitVec 64) (sr : Bool) (load : List Bool) (data : List Byte) (w : BitVec 16) (x : BitVec 48) (bits cnt : Nat),
    let stopped (u : State) (source : Nat) : Prop := u.dbg.freeze = .stopping ∧ s.counted u DBG_STAT.FREEZES ∧ u.getF DBG_FREEZE_LAST.SOURCE = source ∧
      u.getF DBG_FREEZE_LAST.EXIT = 0 ∧ u.getF GRD_STATUS.VALID = 0 ∧ u.dtl.ppsOut = none ∧ u.presses = s.presses ∧ u.stk = s.stk
    let shows (u : State) (ir : Nat) (out : List Byte) : Prop := u.dbg.ir = ir ∧ u.dbg.out = out ∧ u.regs = s.regs ∧ u.presses = s.presses ∧ u.stk = s.stk
    (s.awake → Does (.freezeNAssert t) s (fun u => stopped u 1)) ∧
    (s.serves → s.bitF DBG_CFG.REG_EN = true → DBG_FREEZE_CTRL.KEY.get v = 0x3D →
      (DBG_FREEZE_CTRL.GO.get v = 1 → Does (.dbgFreezeGo t v) s (fun u => stopped u 2)) ∧
      (DBG_FREEZE_CTRL.GO.get v = 0 → Does (.dbgFreezeGo t v) s (fun u => u = s.at t))) ∧
    (s.serves → s.bitF DBG_CFG.REG_EN = false ∨ DBG_FREEZE_CTRL.KEY.get v ≠ 0x3D → Does (.dbgFreezeGo t v) s (fun u => s.counted u DBG_STAT.REFUSED ∧
      u.dbg = s.dbg)) ∧
    (s.dbg.freeze = .stopping → Does (.memFreeze sr) s (fun u => u.dbg = { s.dbg with freeze := .frozen, srFail := !sr } ∧ u.pkg.suspended = true ∧ u.regs = s.regs) ∧
      Does .selfRefreshTimeout s (fun u => u.dbg = { s.dbg with freeze := .frozen, srFail := true } ∧ u.pkg.suspended = true ∧ u.regs = s.regs)) ∧
    (s.dbg.freeze ≠ .stopping → Does (.memFreeze sr) s (fun u => u = s) ∧ Does .selfRefreshTimeout s (fun u => u = s)) ∧
    Does .idcode s (fun u => shows u 0x01 (leBytes 4 idcode)) ∧
    Does .bypass s (fun u => shows u 0xFF [0]) ∧
    Does .tapReset s (fun u => shows u 0x01 [] ∧ u.dbg.unlocked = s.dbg.unlocked) ∧
    Does .dbgStatus s (fun u => shows u 0x10 (leBytes 4 s.dbg.status)) ∧
    Does (.samplePreload load) s (fun u => u.dbg.boundary = load ∧ u.dbg.ir = 0x02 ∧ u.dbg.out.length = (load.length + 7) / 8 ∧ u.regs = s.regs) ∧
    (s.pkg.resetLow = true → Does .extest s (fun u => shows u 0x00 [] ∧ u.dbg.extestBlocked = s.dbg.extestBlocked)) ∧
    (s.pkg.resetLow = false → Does .extest s (fun u => shows u 0xFF [0] ∧ u.dbg.extestBlocked = true)) ∧
    Does .dbgChallenge s (fun u => ∃ c, u.dbg.challenge = some c ∧ u.dbg.out = c ∧ c.length = 32 ∧ slice c 16 8 = leBytes 8 s.otp.serial ∧
      slice c 24 4 = leBytes 4 idcode ∧ u.dbg.unlocked = s.dbg.unlocked) ∧
    (s.dbg.lockout = false →
      (s.responseOk data = true → Does (.dbgResponse data) s (fun u => u.dbg.unlocked = true ∧ u.dbg.fails = s.dbg.fails)) ∧
      (s.responseOk data = false → Does (.dbgResponse data) s (fun u => u.dbg.unlocked = s.dbg.unlocked ∧ u.dbg.fails = s.dbg.fails + 1 ∧
        (u.dbg.lockout = true ↔ 3 ≤ s.dbg.fails + 1)))) ∧
    (s.dbg.lockout = true → Does (.dbgResponse data) s (fun u => u.dbg.unlocked = s.dbg.unlocked ∧ u.dbg.lockout = true ∧ u.dbg.fails = s.dbg.fails)) ∧
    Does (.scanSel w) s (fun u => shows u 0x20 [] ∧ u.dbg.chain = if s.dbg.unlocked then w.toNat % 4096 else s.dbg.chain) ∧
    (s.dbg.readsOut = true →
      Does (.scanRead bits) s (fun u => u.dbg.out.length = (bits + 7) / 8 ∧ tabGet 0 u.dbg.rotation s.dbg.chain = tabGet 0 s.dbg.rotation s.dbg.chain + bits ∧
        u.regs = s.regs) ∧
      Does (.sramAddr x) s (fun u => u.dbg.sramAddr = x.toNat / 8 * 8 ∧ u.dbg.ir = 0x22) ∧
      (∀ (n : Press) (y : Nat), let a := s.dbg.sramAddr
        let next (u : State) : Prop := u.dbg.sramAddr = a / 2 ^ 44 * 2 ^ 44 + (a + 8) % 2 ^ 44
        (y < 0x600000 → a = 2 ^ 40 * n.val + y → Does .sramData s (fun u => shows u 0x23 ((s.press n).bank.read y 8) ∧ next u)) ∧
        (y < 262144 → a = 2 ^ 44 + 2 ^ 40 * n.val + y → Does .sramData s (fun u => shows u 0x23 ((s.press n).slugs.read y 8) ∧ next u)) ∧
        (y < 131072 → a = 2 * 2 ^ 44 + 2 ^ 40 * n.val + y → Does .sramData s (fun u => shows u 0x23 ((s.press n).wstore.read y 8) ∧ next u)) ∧
        (s.sramAt a = none → Does .sramData s (fun u => u.dbg.ir = 0x23 ∧ u.dbg.out.length = 8 ∧ u.regs = s.regs ∧ next u)))) ∧
    (s.dbg.readsOut = false → Does (.scanRead bits) s (fun u => shows u 0x21 [] ∧ u.dbg.rotation = s.dbg.rotation) ∧
      Does (.sramAddr x) s (fun u => u.dbg.sramAddr = s.dbg.sramAddr) ∧ Does .sramData s (fun u => shows u 0x23 [] ∧ u.dbg.sramAddr = s.dbg.sramAddr)) ∧
    (s.dbg.mayThaw = true → s.pkg.tripped = false → s.bitF PKG_PFAIL_STATUS.PFAIL = false → Does (.thaw cnt) s (fun u => u.dbg.freeze = .running ∧
      u.getF DBG_FREEZE_LAST.FREEZE_COUNT = min (2 ^ 48 - 1) cnt ∧ u.getF DBG_FREEZE_LAST.EXIT = 1 ∧ u.bus.linkUp = false ∧ u.portUp 0 = false ∧ u.portUp 1 = false)) ∧
    (s.dbg.mayThaw = false → Does (.thaw cnt) s (fun u => shows u 0x30 [] ∧ u.dbg.freeze = s.dbg.freeze)) ∧
    (s.dbg.isFrozen = true → s.pkg.tripped = false → Does .stopReset s (fun u => u.phase = phRom ∧ u.ready = false ∧ u.getF MKR_STATUS.RESET_CAUSE = 7 ∧
      u.presses = Vector.replicate 16 {} ∧ u.launches = [] ∧ u.stk.flash = s.stk.flash ∧ u.qspi = s.qspi)) ∧
    (s.dbg.isFrozen = false → Does .stopReset s (fun u => shows u 0x31 [] ∧ u.dbg.freeze = s.dbg.freeze))
end

