-- ==== Sys2Proof/Laws/Maps.lean ====
section
/-!
SUPPORT. What the operations of Machine/Maps.lean do: reading after writing, and the canonical form that every one of
them keeps.
-/

namespace Sys2Proof.Machine

variable {α : Type}

/-! ### Reading a table -/

theorem FMap.get_append (d : Nat → α) (m n : FMap α) (k : Nat) :
    FMap.get d (m ++ n) k = FMap.get (FMap.get d n) m k := by
  induction m with
  | nil => rfl
  | cons e m ih => obtain ⟨k', v⟩ := e; simp [FMap.get, ih]

theorem FMap.get_congr (d d' : Nat → α) (m : FMap α) (k : Nat) (h : d k = d' k) : FMap.get d m k = FMap.get d' m k := by
  induction m with
  | nil => exact h
  | cons e m ih => obtain ⟨k', v⟩ := e; simp [FMap.get, ih]

theorem FMap.get_of_unlisted (d : Nat → α) (m : FMap α) (k : Nat) (h : ∀ e ∈ m, e.1 ≠ k) : FMap.get d m k = d k := by
  induction m with
  | nil => rfl
  | cons e m ih =>
    obtain ⟨k', v⟩ := e
    have hk : k' ≠ k := h (k', v) (by simp)
    simp only [FMap.get, hk, if_false]
    exact ih (fun w hw => h w (by simp [hw]))

theorem FMap.get_filter (d : Nat → α) (m : FMap α) (p : Nat → Bool) (k : Nat) (h : p k = true) :
    FMap.get d (m.filter (fun e => p e.1)) k = FMap.get d m k := by
  induction m with
  | nil => rfl
  | cons e m ih =>
    obtain ⟨k', v⟩ := e
    by_cases hk : k' = k
    · subst hk; simp [FMap.get, h]
    · by_cases hp : p k' = true <;> simp [FMap.get, hp, hk, ih]

theorem FMap.get_filter_out (d : Nat → α) (m : FMap α) (p : Nat → Bool) (k : Nat) (h : p k = false) :
    FMap.get d (m.filter (fun e => p e.1)) k = d k := by
  apply FMap.get_of_unlisted
  intro e he hk
  have := List.mem_filter.1 he
  simp [hk, h] at this

/-- The table read around a run that was taken out: mid stands for what was put there. -/
theorem FMap.get_around (d : Nat → α) (m mid : FMap α) (a b k : Nat) (h : k < a ∨ b ≤ k) (hab : a ≤ b)
    (hmid : ∀ e ∈ mid, a ≤ e.1 ∧ e.1 < b) :
    FMap.get d (m.filter (fun e => decide (e.1 < a)) ++ mid ++ m.filter (fun e => decide (b ≤ e.1))) k = FMap.get d m k := by
  have hm (d' : Nat → α) : FMap.get d' mid k = d' k := FMap.get_of_unlisted d' mid k (fun e he => by have := hmid e he; omega)
  rw [List.append_assoc, FMap.get_append]
  rcases h with h | h
  · rw [FMap.get_filter _ m (fun x => decide (x < a)) k (by simpa using h)]
    apply FMap.get_congr
    rw [FMap.get_append, hm]
    exact FMap.get_filter_out d m (fun x => decide (b ≤ x)) k (by simp; omega)
  · rw [FMap.get_filter_out _ m (fun x => decide (x < a)) k (by simp; omega), FMap.get_append, hm]
    exact FMap.get_filter d m (fun x => decide (b ≤ x)) k (by simpa using h)

/-- The table read where a run was put. -/
theorem FMap.get_amid (d : Nat → α) (m mid : FMap α) (a b k : Nat) (h₁ : a ≤ k) (h₂ : k < b) :
    FMap.get d (m.filter (fun e => decide (e.1 < a)) ++ mid ++ m.filter (fun e => decide (b ≤ e.1))) k = FMap.get d mid k := by
  rw [List.append_assoc, FMap.get_append, FMap.get_filter_out _ m (fun x => decide (x < a)) k (by simp; omega), FMap.get_append]
  exact FMap.get_congr _ _ _ _ (FMap.get_filter_out d m (fun x => decide (b ≤ x)) k (by simp; omega))

theorem FMap.get_clearRun_same (d : Nat → α) (m : FMap α) (a n k : Nat) (h₁ : a ≤ k) (h₂ : k < a + n) :
    FMap.get d (FMap.clearRun m a n) k = d k := by
  simpa [FMap.clearRun, FMap.get] using FMap.get_amid d m [] a (a + n) k h₁ h₂

theorem FMap.get_clearRun_other (d : Nat → α) (m : FMap α) (a n k : Nat) (h : k < a ∨ a + n ≤ k) :
    FMap.get d (FMap.clearRun m a n) k = FMap.get d m k := by
  simpa [FMap.clearRun] using FMap.get_around d m [] a (a + n) k h (Nat.le_add_right _ _) (by simp)

theorem tabGet_tabSet_same (d : α) (m : FMap α) (k : Nat) (v : α) : tabGet d (tabSet m k v) k = v := by
  rw [tabGet, tabSet, FMap.get_append, FMap.get_filter_out _ m (fun x => decide (x < k)) k (by simp)]
  simp [FMap.get]

theorem tabGet_tabSet_other (d : α) (m : FMap α) (k j : Nat) (v : α) (h : j ≠ k) : tabGet d (tabSet m k v) j = tabGet d m j := by
  have := FMap.get_around (fun _ => d) m [(k, v)] k (k + 1) j (by omega) (by omega) (by simp)
  simpa [tabGet, tabSet, Nat.succ_le_iff] using this

variable [DecidableEq α]

theorem FMap.listed_key (d : Nat → α) (a : Nat) (vs : List α) (e : Nat × α) (h : e ∈ FMap.listed d a vs) :
    a ≤ e.1 ∧ e.1 < a + vs.length := by
  induction vs generalizing a with
  | nil => simp [FMap.listed] at h
  | cons v vs ih =>
    simp only [FMap.listed] at h
    split at h
    · have := ih (a + 1) h; simp only [List.length_cons]; omega
    · rcases List.mem_cons.1 h with h | h
      · subst h; simp
      · have := ih (a + 1) h; simp only [List.length_cons]; omega

theorem FMap.get_listed (d : Nat → α) (a : Nat) (vs : List α) (k : Nat) (h₁ : a ≤ k) (h₂ : k < a + vs.length) :
    FMap.get d (FMap.listed d a vs) k = vs[k - a] := by
  induction vs generalizing a with
  | nil => simp at h₂; omega
  | cons v vs ih =>
    simp only [List.length_cons] at h₂
    by_cases hk : a = k
    · subst hk
      by_cases hv : v = d a
      · have : FMap.get d (FMap.listed d (a + 1) vs) a = d a := by
          apply FMap.get_of_unlisted
          intro e he
          have := FMap.listed_key d (a + 1) vs e he
          omega
        simp [FMap.listed, hv, this]
      · simp [FMap.listed, hv, FMap.get]
    · have ih' := ih (a + 1) (by omega) (by omega)
      have hi : k - a = (k - (a + 1)) + 1 := by omega
      by_cases hv : v = d a
      · simp only [FMap.listed, hv, if_true, ih', hi, List.getElem_cons_succ]
      · simp only [FMap.listed, hv, if_false, FMap.get, hk, ih', hi, List.getElem_cons_succ]

/-- Reading outside the run that was written. -/
theorem FMap.get_setRun_other (d : Nat → α) (m : FMap α) (a : Nat) (vs : List α) (k : Nat)
    (h : k < a ∨ a + vs.length ≤ k) : FMap.get d (FMap.setRun d m a vs) k = FMap.get d m k :=
  FMap.get_around d m _ a (a + vs.length) k h (Nat.le_add_right _ _) (fun e he => FMap.listed_key d a vs e he)

/-- Reading inside the run that was written. -/
theorem FMap.get_setRun_same (d : Nat → α) (m : FMap α) (a : Nat) (vs : List α) (k : Nat)
    (h₁ : a ≤ k) (h₂ : k < a + vs.length) : FMap.get d (FMap.setRun d m a vs) k = vs[k - a] :=
  (FMap.get_amid d m _ a (a + vs.length) k h₁ h₂).trans (FMap.get_listed d a vs k h₁ h₂)

omit [DecidableEq α] in
@[simp] theorem FMap.get_nil (d : Nat → α) (k : Nat) : FMap.get d [] k = d k := rfl

@[simp] theorem FMap.get_set_same (d : Nat → α) (m : FMap α) (k : Nat) (v : α) : FMap.get d (FMap.set d m k v) k = v := by
  have := FMap.get_setRun_same d m k [v] k (Nat.le_refl k) (by simp)
  simpa [FMap.set] using this

theorem FMap.get_set_other (d : Nat → α) (m : FMap α) (k j : Nat) (v : α) (h : j ≠ k) :
    FMap.get d (FMap.set d m k v) j = FMap.get d m j :=
  FMap.get_setRun_other d m k [v] j (by simp; omega)

/-! ### The canonical form -/

omit [DecidableEq α] in
theorem FMap.rising_iff (m : FMap α) : FMap.rising m = true ↔ m.Pairwise (fun x y => x.1 < y.1) := by
  induction m with
  | nil => simp [FMap.rising]
  | cons e m ih => obtain ⟨k, v⟩ := e; simp [FMap.rising, ih]

theorem FMap.wf_iff (d : Nat → α) (m : FMap α) :
    FMap.wf d m = true ↔ m.Pairwise (fun x y => x.1 < y.1) ∧ ∀ e ∈ m, e.2 ≠ d e.1 := by
  simp [FMap.wf, FMap.rising_iff]

theorem FMap.wf_nil (d : Nat → α) : FMap.wf d [] = true := rfl

theorem FMap.listed_pairwise (d : Nat → α) (a : Nat) (vs : List α) :
    (FMap.listed d a vs).Pairwise (fun x y => x.1 < y.1) := by
  induction vs generalizing a with
  | nil => simp [FMap.listed]
  | cons v vs ih =>
    simp only [FMap.listed]
    split
    · exact ih (a + 1)
    · refine List.pairwise_cons.2 ⟨fun e he => ?_, ih (a + 1)⟩
      have := FMap.listed_key d (a + 1) vs e he
      simp; omega

theorem FMap.listed_ne (d : Nat → α) (a : Nat) (vs : List α) : ∀ e ∈ FMap.listed d a vs, e.2 ≠ d e.1 := by
  induction vs generalizing a with
  | nil => simp [FMap.listed]
  | cons v vs ih =>
    simp only [FMap.listed]
    split
    · exact ih (a + 1)
    · rename_i h
      intro e he
      rcases List.mem_cons.1 he with he | he
      · subst he; exact h
      · exact ih (a + 1) e he

/-- A table cut into what lies below a, something between, and what lies from b on is canonical if its parts are. -/
theorem FMap.wf_join (d : Nat → α) (m mid : FMap α) (a b : Nat) (hm : FMap.wf d m = true) (hmid : FMap.wf d mid = true)
    (hab : ∀ e ∈ mid, a ≤ e.1 ∧ e.1 < b) (h : a ≤ b) :
    FMap.wf d (m.filter (fun e => decide (e.1 < a)) ++ mid ++ m.filter (fun e => decide (b ≤ e.1))) = true := by
  rw [FMap.wf_iff] at *
  obtain ⟨hp, hn⟩ := hm
  obtain ⟨hq, hr⟩ := hmid
  constructor
  · rw [List.append_assoc, List.pairwise_append]
    refine ⟨hp.filter _, ?_, ?_⟩
    · rw [List.pairwise_append]
      refine ⟨hq, hp.filter _, fun x hx y hy => ?_⟩
      have := hab x hx
      simp at hy; omega
    · intro x hx y hy
      simp at hx
      rcases List.mem_append.1 hy with hy | hy
      · have := hab y hy; omega
      · simp at hy; omega
  · intro e he
    simp at he
    rcases he with he | he | he
    · exact hn e he.1
    · exact hr e he
    · exact hn e he.1

theorem FMap.setRun_wf (d : Nat → α) (m : FMap α) (a : Nat) (vs : List α) (h : FMap.wf d m = true) :
    FMap.wf d (FMap.setRun d m a vs) = true :=
  FMap.wf_join d m _ a (a + vs.length) h ((FMap.wf_iff d _).2 ⟨FMap.listed_pairwise d a vs, FMap.listed_ne d a vs⟩)
    (fun e he => FMap.listed_key d a vs e he) (Nat.le_add_right _ _)

theorem FMap.set_wf (d : Nat → α) (m : FMap α) (k : Nat) (v : α) (h : FMap.wf d m = true) :
    FMap.wf d (FMap.set d m k v) = true :=
  FMap.setRun_wf d m k [v] h

theorem FMap.clearRun_wf (d : Nat → α) (m : FMap α) (a n : Nat) (h : FMap.wf d m = true) :
    FMap.wf d (FMap.clearRun m a n) = true := by
  have := FMap.wf_join d m [] a (a + n) h rfl (by simp) (Nat.le_add_right _ _)
  simpa [FMap.clearRun] using this

theorem FMap.filter_wf (d : Nat → α) (m : FMap α) (p : Nat × α → Bool) (h : FMap.wf d m = true) :
    FMap.wf d (m.filter p) = true := by
  rw [FMap.wf_iff] at *
  exact ⟨h.1.filter _, fun e he => h.2 e (List.mem_filter.1 he).1⟩

/-! ### Memories -/

/-- The parts that carving leaves of an extent. -/
theorem Extent.mem_carve (a n : Nat) (e x : Extent) (h : x ∈ Extent.carve a n e) :
    x.gen = e.gen ∧ e.lo ≤ x.lo ∧ x.lo + x.len ≤ e.lo + e.len := by
  unfold Extent.carve at h
  split at h
  · simp at h; subst h; omega
  · simp only [List.mem_append] at h
    rcases h with h | h <;> split at h <;> simp at h <;> subst h <;> simp <;> omega

theorem Extent.carve_covers (a n k : Nat) (e : Extent) (h : k < a ∨ a + n ≤ k) (hk : e.lo ≤ k ∧ k < e.lo + e.len) :
    ∃ x ∈ Extent.carve a n e, x.lo ≤ k ∧ k < x.lo + x.len := by
  unfold Extent.carve
  split
  · exact ⟨e, by simp, hk⟩
  · rcases h with h | h
    · exact ⟨{ e with len := a - e.lo }, by simp; omega, by simp; omega⟩
    · exact ⟨{ e with lo := a + n, len := e.lo + e.len - (a + n) }, by simp; omega, by simp; omega⟩

theorem Extent.carve_outside (a n k : Nat) (e : Extent) (h : k < a ∨ a + n ≤ k) :
    ((Extent.carve a n e).find? (fun e => decide (e.lo ≤ k) && decide (k < e.lo + e.len))).map Extent.gen =
      if e.lo ≤ k ∧ k < e.lo + e.len then some e.gen else none := by
  cases hf : (Extent.carve a n e).find? (fun e => decide (e.lo ≤ k) && decide (k < e.lo + e.len)) with
  | none =>
    split
    · rename_i hk
      obtain ⟨x, hx, hx'⟩ := Extent.carve_covers a n k e h hk
      have := List.find?_eq_none.1 hf x hx
      simp at this; omega
    · rfl
  | some x =>
    have hm := Extent.mem_carve a n e x (List.mem_of_find?_eq_some hf)
    have hp := List.find?_some hf
    simp at hp
    rw [if_pos (by omega)]
    simp [hm.1]

theorem Extent.carve_inside (a n k : Nat) (e : Extent) (h₁ : a ≤ k) (h₂ : k < a + n) :
    (Extent.carve a n e).find? (fun e => decide (e.lo ≤ k) && decide (k < e.lo + e.len)) = none := by
  rw [List.find?_eq_none]
  intro x hx
  unfold Extent.carve at hx
  split at hx
  · simp at hx; subst hx; simp; omega
  · simp only [List.mem_append] at hx
    rcases hx with hx | hx <;> split at hx <;> simp at hx <;> subst hx <;> simp <;> omega

theorem Mem.undefAt_carve_outside (us : List Extent) (a n k : Nat) (h : k < a ∨ a + n ≤ k) :
    ((us.flatMap (Extent.carve a n)).find? (fun e => decide (e.lo ≤ k) && decide (k < e.lo + e.len))).map Extent.gen =
      (us.find? (fun e => decide (e.lo ≤ k) && decide (k < e.lo + e.len))).map Extent.gen := by
  induction us with
  | nil => rfl
  | cons e us ih =>
    have he := Extent.carve_outside a n k e h
    rw [List.flatMap_cons, List.find?_append]
    by_cases hk : e.lo ≤ k ∧ k < e.lo + e.len
    · simp only [hk, and_self, if_true] at he
      cases hf : (Extent.carve a n e).find? (fun e => decide (e.lo ≤ k) && decide (k < e.lo + e.len)) with
      | none => simp [hf] at he
      | some x => simp_all
    · simp only [hk, if_false, Option.map_eq_none_iff] at he
      have hd : (decide (e.lo ≤ k) && decide (k < e.lo + e.len)) = false := by simpa using hk
      simp only [he, Option.none_or, ih, List.find?_cons, hd]

/-- A byte outside what was written reads as before. -/
theorem Mem.byte_write_other (m : Mem) (a : Nat) (bs : List Byte) (k : Nat) (h : k < a ∨ a + bs.length ≤ k) :
    (m.write a bs).byte k = m.byte k := by
  have hu := Mem.undefAt_carve_outside m.undef a bs.length k h
  have hc := FMap.get_setRun_other (fun _ => m.fill) m.cells a bs k h
  unfold Mem.byte Mem.undefAt Mem.write
  simp only
  cases h₁ : (m.undef.flatMap (Extent.carve a bs.length)).find? (fun e => decide (e.lo ≤ k) && decide (k < e.lo + e.len)) <;>
    cases h₂ : m.undef.find? (fun e => decide (e.lo ≤ k) && decide (k < e.lo + e.len)) <;> simp_all

/-- A written byte reads as written. -/
theorem Mem.byte_write_same (m : Mem) (a : Nat) (bs : List Byte) (k : Nat) (h₁ : a ≤ k) (h₂ : k < a + bs.length) :
    (m.write a bs).byte k = bs[k - a] := by
  have hu : (m.write a bs).undefAt k = none := by
    unfold Mem.undefAt Mem.write
    rw [List.find?_eq_none]
    intro x hx
    obtain ⟨e, _, he⟩ := List.mem_flatMap.1 hx
    exact List.find?_eq_none.1 (Extent.carve_inside a bs.length k e h₁ h₂) x he
  unfold Mem.byte
  rw [hu]
  exact FMap.get_setRun_same _ m.cells a bs k h₁ h₂

/-- Every operation of a memory keeps its canonical form. -/
theorem Mem.write_wf (m : Mem) (a : Nat) (bs : List Byte) (h : Memory.wf m = true) : Memory.wf (m.write a bs) = true :=
  FMap.setRun_wf _ m.cells a bs h

theorem Mem.lose_wf (m : Mem) (a n gen : Nat) (h : Memory.wf m = true) : Memory.wf (m.lose a n gen) = true :=
  FMap.clearRun_wf _ m.cells a n h

theorem Mem.erase_wf (m : Mem) (a n : Nat) (h : Memory.wf m = true) : Memory.wf (m.erase a n) = true :=
  FMap.clearRun_wf _ m.cells a n h

theorem Mem.writeNat_wf (m : Mem) (a n v : Nat) (h : Memory.wf m = true) : Memory.wf (m.writeNat a n v) = true :=
  Mem.write_wf m a _ h

theorem Mem.copyFrom_wf (m src : Mem) (a n : Nat) (hf : src.fill = m.fill) (hm : Memory.wf m = true)
    (hs : Memory.wf src = true) : Memory.wf (m.copyFrom src a n) = true := by
  unfold Memory.wf at *
  rw [hf] at hs
  exact FMap.wf_join _ m.cells _ a (a + n) hm (FMap.filter_wf _ _ _ hs) (fun e he => by simp at he; omega) (Nat.le_add_right _ _)

theorem Mem.empty_wf (f : Byte) : Memory.wf { fill := f } = true := rfl

end Sys2Proof.Machine
end

