-- ==== Sys2Proof/Laws/State.lean ====
section
/-!
SUPPORT. What each part of the state holds after an update of another part: one lemma for each field and each update, all
of them by definition.
-/

namespace Sys2Proof.Machine

/-! ### State.setPending -/

@[simp] theorem State.setPending_pending (s : State) (q : List Instr) : (s.setPending q).pending = q := rfl
@[simp] theorem State.setPending_regs (s : State) (q : List Instr) : (s.setPending q).regs = s.regs := rfl
@[simp] theorem State.setPending_halves (s : State) (q : List Instr) : (s.setPending q).halves = s.halves := rfl
@[simp] theorem State.setPending_free (s : State) (q : List Instr) : (s.setPending q).free = s.free := rfl
@[simp] theorem State.setPending_bus (s : State) (q : List Instr) : (s.setPending q).bus = s.bus := rfl
@[simp] theorem State.setPending_gals (s : State) (q : List Instr) : (s.setPending q).gals = s.gals := rfl
@[simp] theorem State.setPending_gutters (s : State) (q : List Instr) : (s.setPending q).gutters = s.gutters := rfl
@[simp] theorem State.setPending_dtl (s : State) (q : List Instr) : (s.setPending q).dtl = s.dtl := rfl
@[simp] theorem State.setPending_epochs (s : State) (q : List Instr) : (s.setPending q).epochs = s.epochs := rfl
@[simp] theorem State.setPending_ptp (s : State) (q : List Instr) : (s.setPending q).ptp = s.ptp := rfl
@[simp] theorem State.setPending_pkg (s : State) (q : List Instr) : (s.setPending q).pkg = s.pkg := rfl
@[simp] theorem State.setPending_mkr (s : State) (q : List Instr) : (s.setPending q).mkr = s.mkr := rfl
@[simp] theorem State.setPending_dbg (s : State) (q : List Instr) : (s.setPending q).dbg = s.dbg := rfl
@[simp] theorem State.setPending_ing (s : State) (q : List Instr) : (s.setPending q).ing = s.ing := rfl
@[simp] theorem State.setPending_rgs (s : State) (q : List Instr) : (s.setPending q).rgs = s.rgs := rfl
@[simp] theorem State.setPending_chn (s : State) (q : List Instr) : (s.setPending q).chn = s.chn := rfl
@[simp] theorem State.setPending_board (s : State) (q : List Instr) : (s.setPending q).board = s.board := rfl
@[simp] theorem State.setPending_otp (s : State) (q : List Instr) : (s.setPending q).otp = s.otp := rfl
@[simp] theorem State.setPending_qspi (s : State) (q : List Instr) : (s.setPending q).qspi = s.qspi := rfl
@[simp] theorem State.setPending_stk (s : State) (q : List Instr) : (s.setPending q).stk = s.stk := rfl
@[simp] theorem State.setPending_presses (s : State) (q : List Instr) : (s.setPending q).presses = s.presses := rfl
@[simp] theorem State.setPending_launches (s : State) (q : List Instr) : (s.setPending q).launches = s.launches := rfl
@[simp] theorem State.setPending_rings (s : State) (q : List Instr) : (s.setPending q).rings = s.rings := rfl
@[simp] theorem State.setPending_arb (s : State) (q : List Instr) : (s.setPending q).arb = s.arb := rfl
@[simp] theorem State.setPending_scn (s : State) (q : List Instr) : (s.setPending q).scn = s.scn := rfl
@[simp] theorem State.setPending_run (s : State) (q : List Instr) : (s.setPending q).run = s.run := rfl
@[simp] theorem State.setPending_grd (s : State) (q : List Instr) : (s.setPending q).grd = s.grd := rfl
@[simp] theorem State.setPending_rep (s : State) (q : List Instr) : (s.setPending q).rep = s.rep := rfl

/-! ### State.setMkr -/

@[simp] theorem State.setMkr_pending (s : State) (x : Mkr) : (s.setMkr x).pending = s.pending := rfl
@[simp] theorem State.setMkr_regs (s : State) (x : Mkr) : (s.setMkr x).regs = s.regs := rfl
@[simp] theorem State.setMkr_halves (s : State) (x : Mkr) : (s.setMkr x).halves = s.halves := rfl
@[simp] theorem State.setMkr_free (s : State) (x : Mkr) : (s.setMkr x).free = s.free := rfl
@[simp] theorem State.setMkr_bus (s : State) (x : Mkr) : (s.setMkr x).bus = s.bus := rfl
@[simp] theorem State.setMkr_gals (s : State) (x : Mkr) : (s.setMkr x).gals = s.gals := rfl
@[simp] theorem State.setMkr_gutters (s : State) (x : Mkr) : (s.setMkr x).gutters = s.gutters := rfl
@[simp] theorem State.setMkr_dtl (s : State) (x : Mkr) : (s.setMkr x).dtl = s.dtl := rfl
@[simp] theorem State.setMkr_epochs (s : State) (x : Mkr) : (s.setMkr x).epochs = s.epochs := rfl
@[simp] theorem State.setMkr_ptp (s : State) (x : Mkr) : (s.setMkr x).ptp = s.ptp := rfl
@[simp] theorem State.setMkr_pkg (s : State) (x : Mkr) : (s.setMkr x).pkg = s.pkg := rfl
@[simp] theorem State.setMkr_mkr (s : State) (x : Mkr) : (s.setMkr x).mkr = x := rfl
@[simp] theorem State.setMkr_dbg (s : State) (x : Mkr) : (s.setMkr x).dbg = s.dbg := rfl
@[simp] theorem State.setMkr_ing (s : State) (x : Mkr) : (s.setMkr x).ing = s.ing := rfl
@[simp] theorem State.setMkr_rgs (s : State) (x : Mkr) : (s.setMkr x).rgs = s.rgs := rfl
@[simp] theorem State.setMkr_chn (s : State) (x : Mkr) : (s.setMkr x).chn = s.chn := rfl
@[simp] theorem State.setMkr_board (s : State) (x : Mkr) : (s.setMkr x).board = s.board := rfl
@[simp] theorem State.setMkr_otp (s : State) (x : Mkr) : (s.setMkr x).otp = s.otp := rfl
@[simp] theorem State.setMkr_qspi (s : State) (x : Mkr) : (s.setMkr x).qspi = s.qspi := rfl
@[simp] theorem State.setMkr_stk (s : State) (x : Mkr) : (s.setMkr x).stk = s.stk := rfl
@[simp] theorem State.setMkr_presses (s : State) (x : Mkr) : (s.setMkr x).presses = s.presses := rfl
@[simp] theorem State.setMkr_launches (s : State) (x : Mkr) : (s.setMkr x).launches = s.launches := rfl
@[simp] theorem State.setMkr_rings (s : State) (x : Mkr) : (s.setMkr x).rings = s.rings := rfl
@[simp] theorem State.setMkr_arb (s : State) (x : Mkr) : (s.setMkr x).arb = s.arb := rfl
@[simp] theorem State.setMkr_scn (s : State) (x : Mkr) : (s.setMkr x).scn = s.scn := rfl
@[simp] theorem State.setMkr_run (s : State) (x : Mkr) : (s.setMkr x).run = s.run := rfl
@[simp] theorem State.setMkr_grd (s : State) (x : Mkr) : (s.setMkr x).grd = s.grd := rfl
@[simp] theorem State.setMkr_rep (s : State) (x : Mkr) : (s.setMkr x).rep = s.rep := rfl

/-! ### State.setDbg -/

@[simp] theorem State.setDbg_pending (s : State) (x : Dbg) : (s.setDbg x).pending = s.pending := rfl
@[simp] theorem State.setDbg_regs (s : State) (x : Dbg) : (s.setDbg x).regs = s.regs := rfl
@[simp] theorem State.setDbg_halves (s : State) (x : Dbg) : (s.setDbg x).halves = s.halves := rfl
@[simp] theorem State.setDbg_free (s : State) (x : Dbg) : (s.setDbg x).free = s.free := rfl
@[simp] theorem State.setDbg_bus (s : State) (x : Dbg) : (s.setDbg x).bus = s.bus := rfl
@[simp] theorem State.setDbg_gals (s : State) (x : Dbg) : (s.setDbg x).gals = s.gals := rfl
@[simp] theorem State.setDbg_gutters (s : State) (x : Dbg) : (s.setDbg x).gutters = s.gutters := rfl
@[simp] theorem State.setDbg_dtl (s : State) (x : Dbg) : (s.setDbg x).dtl = s.dtl := rfl
@[simp] theorem State.setDbg_epochs (s : State) (x : Dbg) : (s.setDbg x).epochs = s.epochs := rfl
@[simp] theorem State.setDbg_ptp (s : State) (x : Dbg) : (s.setDbg x).ptp = s.ptp := rfl
@[simp] theorem State.setDbg_pkg (s : State) (x : Dbg) : (s.setDbg x).pkg = s.pkg := rfl
@[simp] theorem State.setDbg_mkr (s : State) (x : Dbg) : (s.setDbg x).mkr = s.mkr := rfl
@[simp] theorem State.setDbg_dbg (s : State) (x : Dbg) : (s.setDbg x).dbg = x := rfl
@[simp] theorem State.setDbg_ing (s : State) (x : Dbg) : (s.setDbg x).ing = s.ing := rfl
@[simp] theorem State.setDbg_rgs (s : State) (x : Dbg) : (s.setDbg x).rgs = s.rgs := rfl
@[simp] theorem State.setDbg_chn (s : State) (x : Dbg) : (s.setDbg x).chn = s.chn := rfl
@[simp] theorem State.setDbg_board (s : State) (x : Dbg) : (s.setDbg x).board = s.board := rfl
@[simp] theorem State.setDbg_otp (s : State) (x : Dbg) : (s.setDbg x).otp = s.otp := rfl
@[simp] theorem State.setDbg_qspi (s : State) (x : Dbg) : (s.setDbg x).qspi = s.qspi := rfl
@[simp] theorem State.setDbg_stk (s : State) (x : Dbg) : (s.setDbg x).stk = s.stk := rfl
@[simp] theorem State.setDbg_presses (s : State) (x : Dbg) : (s.setDbg x).presses = s.presses := rfl
@[simp] theorem State.setDbg_launches (s : State) (x : Dbg) : (s.setDbg x).launches = s.launches := rfl
@[simp] theorem State.setDbg_rings (s : State) (x : Dbg) : (s.setDbg x).rings = s.rings := rfl
@[simp] theorem State.setDbg_arb (s : State) (x : Dbg) : (s.setDbg x).arb = s.arb := rfl
@[simp] theorem State.setDbg_scn (s : State) (x : Dbg) : (s.setDbg x).scn = s.scn := rfl
@[simp] theorem State.setDbg_run (s : State) (x : Dbg) : (s.setDbg x).run = s.run := rfl
@[simp] theorem State.setDbg_grd (s : State) (x : Dbg) : (s.setDbg x).grd = s.grd := rfl
@[simp] theorem State.setDbg_rep (s : State) (x : Dbg) : (s.setDbg x).rep = s.rep := rfl

/-! ### State.setBus -/

@[simp] theorem State.setBus_pending (s : State) (x : Bus) : (s.setBus x).pending = s.pending := rfl
@[simp] theorem State.setBus_regs (s : State) (x : Bus) : (s.setBus x).regs = s.regs := rfl
@[simp] theorem State.setBus_halves (s : State) (x : Bus) : (s.setBus x).halves = s.halves := rfl
@[simp] theorem State.setBus_free (s : State) (x : Bus) : (s.setBus x).free = s.free := rfl
@[simp] theorem State.setBus_bus (s : State) (x : Bus) : (s.setBus x).bus = x := rfl
@[simp] theorem State.setBus_gals (s : State) (x : Bus) : (s.setBus x).gals = s.gals := rfl
@[simp] theorem State.setBus_gutters (s : State) (x : Bus) : (s.setBus x).gutters = s.gutters := rfl
@[simp] theorem State.setBus_dtl (s : State) (x : Bus) : (s.setBus x).dtl = s.dtl := rfl
@[simp] theorem State.setBus_epochs (s : State) (x : Bus) : (s.setBus x).epochs = s.epochs := rfl
@[simp] theorem State.setBus_ptp (s : State) (x : Bus) : (s.setBus x).ptp = s.ptp := rfl
@[simp] theorem State.setBus_pkg (s : State) (x : Bus) : (s.setBus x).pkg = s.pkg := rfl
@[simp] theorem State.setBus_mkr (s : State) (x : Bus) : (s.setBus x).mkr = s.mkr := rfl
@[simp] theorem State.setBus_dbg (s : State) (x : Bus) : (s.setBus x).dbg = s.dbg := rfl
@[simp] theorem State.setBus_ing (s : State) (x : Bus) : (s.setBus x).ing = s.ing := rfl
@[simp] theorem State.setBus_rgs (s : State) (x : Bus) : (s.setBus x).rgs = s.rgs := rfl
@[simp] theorem State.setBus_chn (s : State) (x : Bus) : (s.setBus x).chn = s.chn := rfl
@[simp] theorem State.setBus_board (s : State) (x : Bus) : (s.setBus x).board = s.board := rfl
@[simp] theorem State.setBus_otp (s : State) (x : Bus) : (s.setBus x).otp = s.otp := rfl
@[simp] theorem State.setBus_qspi (s : State) (x : Bus) : (s.setBus x).qspi = s.qspi := rfl
@[simp] theorem State.setBus_stk (s : State) (x : Bus) : (s.setBus x).stk = s.stk := rfl
@[simp] theorem State.setBus_presses (s : State) (x : Bus) : (s.setBus x).presses = s.presses := rfl
@[simp] theorem State.setBus_launches (s : State) (x : Bus) : (s.setBus x).launches = s.launches := rfl
@[simp] theorem State.setBus_rings (s : State) (x : Bus) : (s.setBus x).rings = s.rings := rfl
@[simp] theorem State.setBus_arb (s : State) (x : Bus) : (s.setBus x).arb = s.arb := rfl
@[simp] theorem State.setBus_scn (s : State) (x : Bus) : (s.setBus x).scn = s.scn := rfl
@[simp] theorem State.setBus_run (s : State) (x : Bus) : (s.setBus x).run = s.run := rfl
@[simp] theorem State.setBus_grd (s : State) (x : Bus) : (s.setBus x).grd = s.grd := rfl
@[simp] theorem State.setBus_rep (s : State) (x : Bus) : (s.setBus x).rep = s.rep := rfl

/-! ### State.setDtl -/

@[simp] theorem State.setDtl_pending (s : State) (x : Dtl) : (s.setDtl x).pending = s.pending := rfl
@[simp] theorem State.setDtl_regs (s : State) (x : Dtl) : (s.setDtl x).regs = s.regs := rfl
@[simp] theorem State.setDtl_halves (s : State) (x : Dtl) : (s.setDtl x).halves = s.halves := rfl
@[simp] theorem State.setDtl_free (s : State) (x : Dtl) : (s.setDtl x).free = s.free := rfl
@[simp] theorem State.setDtl_bus (s : State) (x : Dtl) : (s.setDtl x).bus = s.bus := rfl
@[simp] theorem State.setDtl_gals (s : State) (x : Dtl) : (s.setDtl x).gals = s.gals := rfl
@[simp] theorem State.setDtl_gutters (s : State) (x : Dtl) : (s.setDtl x).gutters = s.gutters := rfl
@[simp] theorem State.setDtl_dtl (s : State) (x : Dtl) : (s.setDtl x).dtl = x := rfl
@[simp] theorem State.setDtl_epochs (s : State) (x : Dtl) : (s.setDtl x).epochs = s.epochs := rfl
@[simp] theorem State.setDtl_ptp (s : State) (x : Dtl) : (s.setDtl x).ptp = s.ptp := rfl
@[simp] theorem State.setDtl_pkg (s : State) (x : Dtl) : (s.setDtl x).pkg = s.pkg := rfl
@[simp] theorem State.setDtl_mkr (s : State) (x : Dtl) : (s.setDtl x).mkr = s.mkr := rfl
@[simp] theorem State.setDtl_dbg (s : State) (x : Dtl) : (s.setDtl x).dbg = s.dbg := rfl
@[simp] theorem State.setDtl_ing (s : State) (x : Dtl) : (s.setDtl x).ing = s.ing := rfl
@[simp] theorem State.setDtl_rgs (s : State) (x : Dtl) : (s.setDtl x).rgs = s.rgs := rfl
@[simp] theorem State.setDtl_chn (s : State) (x : Dtl) : (s.setDtl x).chn = s.chn := rfl
@[simp] theorem State.setDtl_board (s : State) (x : Dtl) : (s.setDtl x).board = s.board := rfl
@[simp] theorem State.setDtl_otp (s : State) (x : Dtl) : (s.setDtl x).otp = s.otp := rfl
@[simp] theorem State.setDtl_qspi (s : State) (x : Dtl) : (s.setDtl x).qspi = s.qspi := rfl
@[simp] theorem State.setDtl_stk (s : State) (x : Dtl) : (s.setDtl x).stk = s.stk := rfl
@[simp] theorem State.setDtl_presses (s : State) (x : Dtl) : (s.setDtl x).presses = s.presses := rfl
@[simp] theorem State.setDtl_launches (s : State) (x : Dtl) : (s.setDtl x).launches = s.launches := rfl
@[simp] theorem State.setDtl_rings (s : State) (x : Dtl) : (s.setDtl x).rings = s.rings := rfl
@[simp] theorem State.setDtl_arb (s : State) (x : Dtl) : (s.setDtl x).arb = s.arb := rfl
@[simp] theorem State.setDtl_scn (s : State) (x : Dtl) : (s.setDtl x).scn = s.scn := rfl
@[simp] theorem State.setDtl_run (s : State) (x : Dtl) : (s.setDtl x).run = s.run := rfl
@[simp] theorem State.setDtl_grd (s : State) (x : Dtl) : (s.setDtl x).grd = s.grd := rfl
@[simp] theorem State.setDtl_rep (s : State) (x : Dtl) : (s.setDtl x).rep = s.rep := rfl

/-! ### State.setIng -/

@[simp] theorem State.setIng_pending (s : State) (x : Ing) : (s.setIng x).pending = s.pending := rfl
@[simp] theorem State.setIng_regs (s : State) (x : Ing) : (s.setIng x).regs = s.regs := rfl
@[simp] theorem State.setIng_halves (s : State) (x : Ing) : (s.setIng x).halves = s.halves := rfl
@[simp] theorem State.setIng_free (s : State) (x : Ing) : (s.setIng x).free = s.free := rfl
@[simp] theorem State.setIng_bus (s : State) (x : Ing) : (s.setIng x).bus = s.bus := rfl
@[simp] theorem State.setIng_gals (s : State) (x : Ing) : (s.setIng x).gals = s.gals := rfl
@[simp] theorem State.setIng_gutters (s : State) (x : Ing) : (s.setIng x).gutters = s.gutters := rfl
@[simp] theorem State.setIng_dtl (s : State) (x : Ing) : (s.setIng x).dtl = s.dtl := rfl
@[simp] theorem State.setIng_epochs (s : State) (x : Ing) : (s.setIng x).epochs = s.epochs := rfl
@[simp] theorem State.setIng_ptp (s : State) (x : Ing) : (s.setIng x).ptp = s.ptp := rfl
@[simp] theorem State.setIng_pkg (s : State) (x : Ing) : (s.setIng x).pkg = s.pkg := rfl
@[simp] theorem State.setIng_mkr (s : State) (x : Ing) : (s.setIng x).mkr = s.mkr := rfl
@[simp] theorem State.setIng_dbg (s : State) (x : Ing) : (s.setIng x).dbg = s.dbg := rfl
@[simp] theorem State.setIng_ing (s : State) (x : Ing) : (s.setIng x).ing = x := rfl
@[simp] theorem State.setIng_rgs (s : State) (x : Ing) : (s.setIng x).rgs = s.rgs := rfl
@[simp] theorem State.setIng_chn (s : State) (x : Ing) : (s.setIng x).chn = s.chn := rfl
@[simp] theorem State.setIng_board (s : State) (x : Ing) : (s.setIng x).board = s.board := rfl
@[simp] theorem State.setIng_otp (s : State) (x : Ing) : (s.setIng x).otp = s.otp := rfl
@[simp] theorem State.setIng_qspi (s : State) (x : Ing) : (s.setIng x).qspi = s.qspi := rfl
@[simp] theorem State.setIng_stk (s : State) (x : Ing) : (s.setIng x).stk = s.stk := rfl
@[simp] theorem State.setIng_presses (s : State) (x : Ing) : (s.setIng x).presses = s.presses := rfl
@[simp] theorem State.setIng_launches (s : State) (x : Ing) : (s.setIng x).launches = s.launches := rfl
@[simp] theorem State.setIng_rings (s : State) (x : Ing) : (s.setIng x).rings = s.rings := rfl
@[simp] theorem State.setIng_arb (s : State) (x : Ing) : (s.setIng x).arb = s.arb := rfl
@[simp] theorem State.setIng_scn (s : State) (x : Ing) : (s.setIng x).scn = s.scn := rfl
@[simp] theorem State.setIng_run (s : State) (x : Ing) : (s.setIng x).run = s.run := rfl
@[simp] theorem State.setIng_grd (s : State) (x : Ing) : (s.setIng x).grd = s.grd := rfl
@[simp] theorem State.setIng_rep (s : State) (x : Ing) : (s.setIng x).rep = s.rep := rfl

/-! ### State.setPkg -/

@[simp] theorem State.setPkg_pending (s : State) (x : Pkg) : (s.setPkg x).pending = s.pending := rfl
@[simp] theorem State.setPkg_regs (s : State) (x : Pkg) : (s.setPkg x).regs = s.regs := rfl
@[simp] theorem State.setPkg_halves (s : State) (x : Pkg) : (s.setPkg x).halves = s.halves := rfl
@[simp] theorem State.setPkg_free (s : State) (x : Pkg) : (s.setPkg x).free = s.free := rfl
@[simp] theorem State.setPkg_bus (s : State) (x : Pkg) : (s.setPkg x).bus = s.bus := rfl
@[simp] theorem State.setPkg_gals (s : State) (x : Pkg) : (s.setPkg x).gals = s.gals := rfl
@[simp] theorem State.setPkg_gutters (s : State) (x : Pkg) : (s.setPkg x).gutters = s.gutters := rfl
@[simp] theorem State.setPkg_dtl (s : State) (x : Pkg) : (s.setPkg x).dtl = s.dtl := rfl
@[simp] theorem State.setPkg_epochs (s : State) (x : Pkg) : (s.setPkg x).epochs = s.epochs := rfl
@[simp] theorem State.setPkg_ptp (s : State) (x : Pkg) : (s.setPkg x).ptp = s.ptp := rfl
@[simp] theorem State.setPkg_pkg (s : State) (x : Pkg) : (s.setPkg x).pkg = x := rfl
@[simp] theorem State.setPkg_mkr (s : State) (x : Pkg) : (s.setPkg x).mkr = s.mkr := rfl
@[simp] theorem State.setPkg_dbg (s : State) (x : Pkg) : (s.setPkg x).dbg = s.dbg := rfl
@[simp] theorem State.setPkg_ing (s : State) (x : Pkg) : (s.setPkg x).ing = s.ing := rfl
@[simp] theorem State.setPkg_rgs (s : State) (x : Pkg) : (s.setPkg x).rgs = s.rgs := rfl
@[simp] theorem State.setPkg_chn (s : State) (x : Pkg) : (s.setPkg x).chn = s.chn := rfl
@[simp] theorem State.setPkg_board (s : State) (x : Pkg) : (s.setPkg x).board = s.board := rfl
@[simp] theorem State.setPkg_otp (s : State) (x : Pkg) : (s.setPkg x).otp = s.otp := rfl
@[simp] theorem State.setPkg_qspi (s : State) (x : Pkg) : (s.setPkg x).qspi = s.qspi := rfl
@[simp] theorem State.setPkg_stk (s : State) (x : Pkg) : (s.setPkg x).stk = s.stk := rfl
@[simp] theorem State.setPkg_presses (s : State) (x : Pkg) : (s.setPkg x).presses = s.presses := rfl
@[simp] theorem State.setPkg_launches (s : State) (x : Pkg) : (s.setPkg x).launches = s.launches := rfl
@[simp] theorem State.setPkg_rings (s : State) (x : Pkg) : (s.setPkg x).rings = s.rings := rfl
@[simp] theorem State.setPkg_arb (s : State) (x : Pkg) : (s.setPkg x).arb = s.arb := rfl
@[simp] theorem State.setPkg_scn (s : State) (x : Pkg) : (s.setPkg x).scn = s.scn := rfl
@[simp] theorem State.setPkg_run (s : State) (x : Pkg) : (s.setPkg x).run = s.run := rfl
@[simp] theorem State.setPkg_grd (s : State) (x : Pkg) : (s.setPkg x).grd = s.grd := rfl
@[simp] theorem State.setPkg_rep (s : State) (x : Pkg) : (s.setPkg x).rep = s.rep := rfl

/-! ### State.setStk -/

@[simp] theorem State.setStk_pending (s : State) (x : Stk) : (s.setStk x).pending = s.pending := rfl
@[simp] theorem State.setStk_regs (s : State) (x : Stk) : (s.setStk x).regs = s.regs := rfl
@[simp] theorem State.setStk_halves (s : State) (x : Stk) : (s.setStk x).halves = s.halves := rfl
@[simp] theorem State.setStk_free (s : State) (x : Stk) : (s.setStk x).free = s.free := rfl
@[simp] theorem State.setStk_bus (s : State) (x : Stk) : (s.setStk x).bus = s.bus := rfl
@[simp] theorem State.setStk_gals (s : State) (x : Stk) : (s.setStk x).gals = s.gals := rfl
@[simp] theorem State.setStk_gutters (s : State) (x : Stk) : (s.setStk x).gutters = s.gutters := rfl
@[simp] theorem State.setStk_dtl (s : State) (x : Stk) : (s.setStk x).dtl = s.dtl := rfl
@[simp] theorem State.setStk_epochs (s : State) (x : Stk) : (s.setStk x).epochs = s.epochs := rfl
@[simp] theorem State.setStk_ptp (s : State) (x : Stk) : (s.setStk x).ptp = s.ptp := rfl
@[simp] theorem State.setStk_pkg (s : State) (x : Stk) : (s.setStk x).pkg = s.pkg := rfl
@[simp] theorem State.setStk_mkr (s : State) (x : Stk) : (s.setStk x).mkr = s.mkr := rfl
@[simp] theorem State.setStk_dbg (s : State) (x : Stk) : (s.setStk x).dbg = s.dbg := rfl
@[simp] theorem State.setStk_ing (s : State) (x : Stk) : (s.setStk x).ing = s.ing := rfl
@[simp] theorem State.setStk_rgs (s : State) (x : Stk) : (s.setStk x).rgs = s.rgs := rfl
@[simp] theorem State.setStk_chn (s : State) (x : Stk) : (s.setStk x).chn = s.chn := rfl
@[simp] theorem State.setStk_board (s : State) (x : Stk) : (s.setStk x).board = s.board := rfl
@[simp] theorem State.setStk_otp (s : State) (x : Stk) : (s.setStk x).otp = s.otp := rfl
@[simp] theorem State.setStk_qspi (s : State) (x : Stk) : (s.setStk x).qspi = s.qspi := rfl
@[simp] theorem State.setStk_stk (s : State) (x : Stk) : (s.setStk x).stk = x := rfl
@[simp] theorem State.setStk_presses (s : State) (x : Stk) : (s.setStk x).presses = s.presses := rfl
@[simp] theorem State.setStk_launches (s : State) (x : Stk) : (s.setStk x).launches = s.launches := rfl
@[simp] theorem State.setStk_rings (s : State) (x : Stk) : (s.setStk x).rings = s.rings := rfl
@[simp] theorem State.setStk_arb (s : State) (x : Stk) : (s.setStk x).arb = s.arb := rfl
@[simp] theorem State.setStk_scn (s : State) (x : Stk) : (s.setStk x).scn = s.scn := rfl
@[simp] theorem State.setStk_run (s : State) (x : Stk) : (s.setStk x).run = s.run := rfl
@[simp] theorem State.setStk_grd (s : State) (x : Stk) : (s.setStk x).grd = s.grd := rfl
@[simp] theorem State.setStk_rep (s : State) (x : Stk) : (s.setStk x).rep = s.rep := rfl

/-! ### State.setRgs -/

@[simp] theorem State.setRgs_pending (s : State) (x : Rgs) : (s.setRgs x).pending = s.pending := rfl
@[simp] theorem State.setRgs_regs (s : State) (x : Rgs) : (s.setRgs x).regs = s.regs := rfl
@[simp] theorem State.setRgs_halves (s : State) (x : Rgs) : (s.setRgs x).halves = s.halves := rfl
@[simp] theorem State.setRgs_free (s : State) (x : Rgs) : (s.setRgs x).free = s.free := rfl
@[simp] theorem State.setRgs_bus (s : State) (x : Rgs) : (s.setRgs x).bus = s.bus := rfl
@[simp] theorem State.setRgs_gals (s : State) (x : Rgs) : (s.setRgs x).gals = s.gals := rfl
@[simp] theorem State.setRgs_gutters (s : State) (x : Rgs) : (s.setRgs x).gutters = s.gutters := rfl
@[simp] theorem State.setRgs_dtl (s : State) (x : Rgs) : (s.setRgs x).dtl = s.dtl := rfl
@[simp] theorem State.setRgs_epochs (s : State) (x : Rgs) : (s.setRgs x).epochs = s.epochs := rfl
@[simp] theorem State.setRgs_ptp (s : State) (x : Rgs) : (s.setRgs x).ptp = s.ptp := rfl
@[simp] theorem State.setRgs_pkg (s : State) (x : Rgs) : (s.setRgs x).pkg = s.pkg := rfl
@[simp] theorem State.setRgs_mkr (s : State) (x : Rgs) : (s.setRgs x).mkr = s.mkr := rfl
@[simp] theorem State.setRgs_dbg (s : State) (x : Rgs) : (s.setRgs x).dbg = s.dbg := rfl
@[simp] theorem State.setRgs_ing (s : State) (x : Rgs) : (s.setRgs x).ing = s.ing := rfl
@[simp] theorem State.setRgs_rgs (s : State) (x : Rgs) : (s.setRgs x).rgs = x := rfl
@[simp] theorem State.setRgs_chn (s : State) (x : Rgs) : (s.setRgs x).chn = s.chn := rfl
@[simp] theorem State.setRgs_board (s : State) (x : Rgs) : (s.setRgs x).board = s.board := rfl
@[simp] theorem State.setRgs_otp (s : State) (x : Rgs) : (s.setRgs x).otp = s.otp := rfl
@[simp] theorem State.setRgs_qspi (s : State) (x : Rgs) : (s.setRgs x).qspi = s.qspi := rfl
@[simp] theorem State.setRgs_stk (s : State) (x : Rgs) : (s.setRgs x).stk = s.stk := rfl
@[simp] theorem State.setRgs_presses (s : State) (x : Rgs) : (s.setRgs x).presses = s.presses := rfl
@[simp] theorem State.setRgs_launches (s : State) (x : Rgs) : (s.setRgs x).launches = s.launches := rfl
@[simp] theorem State.setRgs_rings (s : State) (x : Rgs) : (s.setRgs x).rings = s.rings := rfl
@[simp] theorem State.setRgs_arb (s : State) (x : Rgs) : (s.setRgs x).arb = s.arb := rfl
@[simp] theorem State.setRgs_scn (s : State) (x : Rgs) : (s.setRgs x).scn = s.scn := rfl
@[simp] theorem State.setRgs_run (s : State) (x : Rgs) : (s.setRgs x).run = s.run := rfl
@[simp] theorem State.setRgs_grd (s : State) (x : Rgs) : (s.setRgs x).grd = s.grd := rfl
@[simp] theorem State.setRgs_rep (s : State) (x : Rgs) : (s.setRgs x).rep = s.rep := rfl

/-! ### State.setChn -/

@[simp] theorem State.setChn_pending (s : State) (x : Chn) : (s.setChn x).pending = s.pending := rfl
@[simp] theorem State.setChn_regs (s : State) (x : Chn) : (s.setChn x).regs = s.regs := rfl
@[simp] theorem State.setChn_halves (s : State) (x : Chn) : (s.setChn x).halves = s.halves := rfl
@[simp] theorem State.setChn_free (s : State) (x : Chn) : (s.setChn x).free = s.free := rfl
@[simp] theorem State.setChn_bus (s : State) (x : Chn) : (s.setChn x).bus = s.bus := rfl
@[simp] theorem State.setChn_gals (s : State) (x : Chn) : (s.setChn x).gals = s.gals := rfl
@[simp] theorem State.setChn_gutters (s : State) (x : Chn) : (s.setChn x).gutters = s.gutters := rfl
@[simp] theorem State.setChn_dtl (s : State) (x : Chn) : (s.setChn x).dtl = s.dtl := rfl
@[simp] theorem State.setChn_epochs (s : State) (x : Chn) : (s.setChn x).epochs = s.epochs := rfl
@[simp] theorem State.setChn_ptp (s : State) (x : Chn) : (s.setChn x).ptp = s.ptp := rfl
@[simp] theorem State.setChn_pkg (s : State) (x : Chn) : (s.setChn x).pkg = s.pkg := rfl
@[simp] theorem State.setChn_mkr (s : State) (x : Chn) : (s.setChn x).mkr = s.mkr := rfl
@[simp] theorem State.setChn_dbg (s : State) (x : Chn) : (s.setChn x).dbg = s.dbg := rfl
@[simp] theorem State.setChn_ing (s : State) (x : Chn) : (s.setChn x).ing = s.ing := rfl
@[simp] theorem State.setChn_rgs (s : State) (x : Chn) : (s.setChn x).rgs = s.rgs := rfl
@[simp] theorem State.setChn_chn (s : State) (x : Chn) : (s.setChn x).chn = x := rfl
@[simp] theorem State.setChn_board (s : State) (x : Chn) : (s.setChn x).board = s.board := rfl
@[simp] theorem State.setChn_otp (s : State) (x : Chn) : (s.setChn x).otp = s.otp := rfl
@[simp] theorem State.setChn_qspi (s : State) (x : Chn) : (s.setChn x).qspi = s.qspi := rfl
@[simp] theorem State.setChn_stk (s : State) (x : Chn) : (s.setChn x).stk = s.stk := rfl
@[simp] theorem State.setChn_presses (s : State) (x : Chn) : (s.setChn x).presses = s.presses := rfl
@[simp] theorem State.setChn_launches (s : State) (x : Chn) : (s.setChn x).launches = s.launches := rfl
@[simp] theorem State.setChn_rings (s : State) (x : Chn) : (s.setChn x).rings = s.rings := rfl
@[simp] theorem State.setChn_arb (s : State) (x : Chn) : (s.setChn x).arb = s.arb := rfl
@[simp] theorem State.setChn_scn (s : State) (x : Chn) : (s.setChn x).scn = s.scn := rfl
@[simp] theorem State.setChn_run (s : State) (x : Chn) : (s.setChn x).run = s.run := rfl
@[simp] theorem State.setChn_grd (s : State) (x : Chn) : (s.setChn x).grd = s.grd := rfl
@[simp] theorem State.setChn_rep (s : State) (x : Chn) : (s.setChn x).rep = s.rep := rfl

/-! ### State.setRep -/

@[simp] theorem State.setRep_pending (s : State) (x : Rep) : (s.setRep x).pending = s.pending := rfl
@[simp] theorem State.setRep_regs (s : State) (x : Rep) : (s.setRep x).regs = s.regs := rfl
@[simp] theorem State.setRep_halves (s : State) (x : Rep) : (s.setRep x).halves = s.halves := rfl
@[simp] theorem State.setRep_free (s : State) (x : Rep) : (s.setRep x).free = s.free := rfl
@[simp] theorem State.setRep_bus (s : State) (x : Rep) : (s.setRep x).bus = s.bus := rfl
@[simp] theorem State.setRep_gals (s : State) (x : Rep) : (s.setRep x).gals = s.gals := rfl
@[simp] theorem State.setRep_gutters (s : State) (x : Rep) : (s.setRep x).gutters = s.gutters := rfl
@[simp] theorem State.setRep_dtl (s : State) (x : Rep) : (s.setRep x).dtl = s.dtl := rfl
@[simp] theorem State.setRep_epochs (s : State) (x : Rep) : (s.setRep x).epochs = s.epochs := rfl
@[simp] theorem State.setRep_ptp (s : State) (x : Rep) : (s.setRep x).ptp = s.ptp := rfl
@[simp] theorem State.setRep_pkg (s : State) (x : Rep) : (s.setRep x).pkg = s.pkg := rfl
@[simp] theorem State.setRep_mkr (s : State) (x : Rep) : (s.setRep x).mkr = s.mkr := rfl
@[simp] theorem State.setRep_dbg (s : State) (x : Rep) : (s.setRep x).dbg = s.dbg := rfl
@[simp] theorem State.setRep_ing (s : State) (x : Rep) : (s.setRep x).ing = s.ing := rfl
@[simp] theorem State.setRep_rgs (s : State) (x : Rep) : (s.setRep x).rgs = s.rgs := rfl
@[simp] theorem State.setRep_chn (s : State) (x : Rep) : (s.setRep x).chn = s.chn := rfl
@[simp] theorem State.setRep_board (s : State) (x : Rep) : (s.setRep x).board = s.board := rfl
@[simp] theorem State.setRep_otp (s : State) (x : Rep) : (s.setRep x).otp = s.otp := rfl
@[simp] theorem State.setRep_qspi (s : State) (x : Rep) : (s.setRep x).qspi = s.qspi := rfl
@[simp] theorem State.setRep_stk (s : State) (x : Rep) : (s.setRep x).stk = s.stk := rfl
@[simp] theorem State.setRep_presses (s : State) (x : Rep) : (s.setRep x).presses = s.presses := rfl
@[simp] theorem State.setRep_launches (s : State) (x : Rep) : (s.setRep x).launches = s.launches := rfl
@[simp] theorem State.setRep_rings (s : State) (x : Rep) : (s.setRep x).rings = s.rings := rfl
@[simp] theorem State.setRep_arb (s : State) (x : Rep) : (s.setRep x).arb = s.arb := rfl
@[simp] theorem State.setRep_scn (s : State) (x : Rep) : (s.setRep x).scn = s.scn := rfl
@[simp] theorem State.setRep_run (s : State) (x : Rep) : (s.setRep x).run = s.run := rfl
@[simp] theorem State.setRep_grd (s : State) (x : Rep) : (s.setRep x).grd = s.grd := rfl
@[simp] theorem State.setRep_rep (s : State) (x : Rep) : (s.setRep x).rep = x := rfl

/-! ### State.setReg -/

@[simp] theorem State.setReg_pending (s : State) (o : Nat) (v : U64) : (s.setReg o v).pending = s.pending := rfl
@[simp] theorem State.setReg_halves (s : State) (o : Nat) (v : U64) : (s.setReg o v).halves = s.halves := rfl
@[simp] theorem State.setReg_free (s : State) (o : Nat) (v : U64) : (s.setReg o v).free = s.free := rfl
@[simp] theorem State.setReg_bus (s : State) (o : Nat) (v : U64) : (s.setReg o v).bus = s.bus := rfl
@[simp] theorem State.setReg_gals (s : State) (o : Nat) (v : U64) : (s.setReg o v).gals = s.gals := rfl
@[simp] theorem State.setReg_gutters (s : State) (o : Nat) (v : U64) : (s.setReg o v).gutters = s.gutters := rfl
@[simp] theorem State.setReg_dtl (s : State) (o : Nat) (v : U64) : (s.setReg o v).dtl = s.dtl := rfl
@[simp] theorem State.setReg_epochs (s : State) (o : Nat) (v : U64) : (s.setReg o v).epochs = s.epochs := rfl
@[simp] theorem State.setReg_ptp (s : State) (o : Nat) (v : U64) : (s.setReg o v).ptp = s.ptp := rfl
@[simp] theorem State.setReg_pkg (s : State) (o : Nat) (v : U64) : (s.setReg o v).pkg = s.pkg := rfl
@[simp] theorem State.setReg_mkr (s : State) (o : Nat) (v : U64) : (s.setReg o v).mkr = s.mkr := rfl
@[simp] theorem State.setReg_dbg (s : State) (o : Nat) (v : U64) : (s.setReg o v).dbg = s.dbg := rfl
@[simp] theorem State.setReg_ing (s : State) (o : Nat) (v : U64) : (s.setReg o v).ing = s.ing := rfl
@[simp] theorem State.setReg_rgs (s : State) (o : Nat) (v : U64) : (s.setReg o v).rgs = s.rgs := rfl
@[simp] theorem State.setReg_chn (s : State) (o : Nat) (v : U64) : (s.setReg o v).chn = s.chn := rfl
@[simp] theorem State.setReg_board (s : State) (o : Nat) (v : U64) : (s.setReg o v).board = s.board := rfl
@[simp] theorem State.setReg_otp (s : State) (o : Nat) (v : U64) : (s.setReg o v).otp = s.otp := rfl
@[simp] theorem State.setReg_qspi (s : State) (o : Nat) (v : U64) : (s.setReg o v).qspi = s.qspi := rfl
@[simp] theorem State.setReg_stk (s : State) (o : Nat) (v : U64) : (s.setReg o v).stk = s.stk := rfl
@[simp] theorem State.setReg_presses (s : State) (o : Nat) (v : U64) : (s.setReg o v).presses = s.presses := rfl
@[simp] theorem State.setReg_launches (s : State) (o : Nat) (v : U64) : (s.setReg o v).launches = s.launches := rfl
@[simp] theorem State.setReg_rings (s : State) (o : Nat) (v : U64) : (s.setReg o v).rings = s.rings := rfl
@[simp] theorem State.setReg_arb (s : State) (o : Nat) (v : U64) : (s.setReg o v).arb = s.arb := rfl
@[simp] theorem State.setReg_scn (s : State) (o : Nat) (v : U64) : (s.setReg o v).scn = s.scn := rfl
@[simp] theorem State.setReg_run (s : State) (o : Nat) (v : U64) : (s.setReg o v).run = s.run := rfl
@[simp] theorem State.setReg_grd (s : State) (o : Nat) (v : U64) : (s.setReg o v).grd = s.grd := rfl
@[simp] theorem State.setReg_rep (s : State) (o : Nat) (v : U64) : (s.setReg o v).rep = s.rep := rfl

/-! ### State.setF -/

@[simp] theorem State.setF_pending (s : State) (f : Fld) (v : Nat) : (s.setF f v).pending = s.pending := rfl
@[simp] theorem State.setF_halves (s : State) (f : Fld) (v : Nat) : (s.setF f v).halves = s.halves := rfl
@[simp] theorem State.setF_free (s : State) (f : Fld) (v : Nat) : (s.setF f v).free = s.free := rfl
@[simp] theorem State.setF_bus (s : State) (f : Fld) (v : Nat) : (s.setF f v).bus = s.bus := rfl
@[simp] theorem State.setF_gals (s : State) (f : Fld) (v : Nat) : (s.setF f v).gals = s.gals := rfl
@[simp] theorem State.setF_gutters (s : State) (f : Fld) (v : Nat) : (s.setF f v).gutters = s.gutters := rfl
@[simp] theorem State.setF_dtl (s : State) (f : Fld) (v : Nat) : (s.setF f v).dtl = s.dtl := rfl
@[simp] theorem State.setF_epochs (s : State) (f : Fld) (v : Nat) : (s.setF f v).epochs = s.epochs := rfl
@[simp] theorem State.setF_ptp (s : State) (f : Fld) (v : Nat) : (s.setF f v).ptp = s.ptp := rfl
@[simp] theorem State.setF_pkg (s : State) (f : Fld) (v : Nat) : (s.setF f v).pkg = s.pkg := rfl
@[simp] theorem State.setF_mkr (s : State) (f : Fld) (v : Nat) : (s.setF f v).mkr = s.mkr := rfl
@[simp] theorem State.setF_dbg (s : State) (f : Fld) (v : Nat) : (s.setF f v).dbg = s.dbg := rfl
@[simp] theorem State.setF_ing (s : State) (f : Fld) (v : Nat) : (s.setF f v).ing = s.ing := rfl
@[simp] theorem State.setF_rgs (s : State) (f : Fld) (v : Nat) : (s.setF f v).rgs = s.rgs := rfl
@[simp] theorem State.setF_chn (s : State) (f : Fld) (v : Nat) : (s.setF f v).chn = s.chn := rfl
@[simp] theorem State.setF_board (s : State) (f : Fld) (v : Nat) : (s.setF f v).board = s.board := rfl
@[simp] theorem State.setF_otp (s : State) (f : Fld) (v : Nat) : (s.setF f v).otp = s.otp := rfl
@[simp] theorem State.setF_qspi (s : State) (f : Fld) (v : Nat) : (s.setF f v).qspi = s.qspi := rfl
@[simp] theorem State.setF_stk (s : State) (f : Fld) (v : Nat) : (s.setF f v).stk = s.stk := rfl
@[simp] theorem State.setF_presses (s : State) (f : Fld) (v : Nat) : (s.setF f v).presses = s.presses := rfl
@[simp] theorem State.setF_launches (s : State) (f : Fld) (v : Nat) : (s.setF f v).launches = s.launches := rfl
@[simp] theorem State.setF_rings (s : State) (f : Fld) (v : Nat) : (s.setF f v).rings = s.rings := rfl
@[simp] theorem State.setF_arb (s : State) (f : Fld) (v : Nat) : (s.setF f v).arb = s.arb := rfl
@[simp] theorem State.setF_scn (s : State) (f : Fld) (v : Nat) : (s.setF f v).scn = s.scn := rfl
@[simp] theorem State.setF_run (s : State) (f : Fld) (v : Nat) : (s.setF f v).run = s.run := rfl
@[simp] theorem State.setF_grd (s : State) (f : Fld) (v : Nat) : (s.setF f v).grd = s.grd := rfl
@[simp] theorem State.setF_rep (s : State) (f : Fld) (v : Nat) : (s.setF f v).rep = s.rep := rfl

/-! ### Registers under updates of other parts -/

@[simp] theorem State.reg_setPending (s : State) (q : List Instr) (o : Nat) : (s.setPending q).reg o = s.reg o := rfl
@[simp] theorem State.getF_setPending (s : State) (q : List Instr) (f : Fld) : (s.setPending q).getF f = s.getF f := rfl
@[simp] theorem State.bitF_setPending (s : State) (q : List Instr) (f : Fld) : (s.setPending q).bitF f = s.bitF f := rfl
@[simp] theorem State.reg_setMkr (s : State) (x : Mkr) (o : Nat) : (s.setMkr x).reg o = s.reg o := rfl
@[simp] theorem State.getF_setMkr (s : State) (x : Mkr) (f : Fld) : (s.setMkr x).getF f = s.getF f := rfl
@[simp] theorem State.bitF_setMkr (s : State) (x : Mkr) (f : Fld) : (s.setMkr x).bitF f = s.bitF f := rfl
@[simp] theorem State.reg_setDbg (s : State) (x : Dbg) (o : Nat) : (s.setDbg x).reg o = s.reg o := rfl
@[simp] theorem State.getF_setDbg (s : State) (x : Dbg) (f : Fld) : (s.setDbg x).getF f = s.getF f := rfl
@[simp] theorem State.bitF_setDbg (s : State) (x : Dbg) (f : Fld) : (s.setDbg x).bitF f = s.bitF f := rfl
@[simp] theorem State.reg_setBus (s : State) (x : Bus) (o : Nat) : (s.setBus x).reg o = s.reg o := rfl
@[simp] theorem State.getF_setBus (s : State) (x : Bus) (f : Fld) : (s.setBus x).getF f = s.getF f := rfl
@[simp] theorem State.bitF_setBus (s : State) (x : Bus) (f : Fld) : (s.setBus x).bitF f = s.bitF f := rfl
@[simp] theorem State.reg_setDtl (s : State) (x : Dtl) (o : Nat) : (s.setDtl x).reg o = s.reg o := rfl
@[simp] theorem State.getF_setDtl (s : State) (x : Dtl) (f : Fld) : (s.setDtl x).getF f = s.getF f := rfl
@[simp] theorem State.bitF_setDtl (s : State) (x : Dtl) (f : Fld) : (s.setDtl x).bitF f = s.bitF f := rfl
@[simp] theorem State.reg_setIng (s : State) (x : Ing) (o : Nat) : (s.setIng x).reg o = s.reg o := rfl
@[simp] theorem State.getF_setIng (s : State) (x : Ing) (f : Fld) : (s.setIng x).getF f = s.getF f := rfl
@[simp] theorem State.bitF_setIng (s : State) (x : Ing) (f : Fld) : (s.setIng x).bitF f = s.bitF f := rfl
@[simp] theorem State.reg_setPkg (s : State) (x : Pkg) (o : Nat) : (s.setPkg x).reg o = s.reg o := rfl
@[simp] theorem State.getF_setPkg (s : State) (x : Pkg) (f : Fld) : (s.setPkg x).getF f = s.getF f := rfl
@[simp] theorem State.bitF_setPkg (s : State) (x : Pkg) (f : Fld) : (s.setPkg x).bitF f = s.bitF f := rfl
@[simp] theorem State.reg_setStk (s : State) (x : Stk) (o : Nat) : (s.setStk x).reg o = s.reg o := rfl
@[simp] theorem State.getF_setStk (s : State) (x : Stk) (f : Fld) : (s.setStk x).getF f = s.getF f := rfl
@[simp] theorem State.bitF_setStk (s : State) (x : Stk) (f : Fld) : (s.setStk x).bitF f = s.bitF f := rfl
@[simp] theorem State.reg_setRgs (s : State) (x : Rgs) (o : Nat) : (s.setRgs x).reg o = s.reg o := rfl
@[simp] theorem State.getF_setRgs (s : State) (x : Rgs) (f : Fld) : (s.setRgs x).getF f = s.getF f := rfl
@[simp] theorem State.bitF_setRgs (s : State) (x : Rgs) (f : Fld) : (s.setRgs x).bitF f = s.bitF f := rfl
@[simp] theorem State.reg_setChn (s : State) (x : Chn) (o : Nat) : (s.setChn x).reg o = s.reg o := rfl
@[simp] theorem State.getF_setChn (s : State) (x : Chn) (f : Fld) : (s.setChn x).getF f = s.getF f := rfl
@[simp] theorem State.bitF_setChn (s : State) (x : Chn) (f : Fld) : (s.setChn x).bitF f = s.bitF f := rfl
@[simp] theorem State.reg_setRep (s : State) (x : Rep) (o : Nat) : (s.setRep x).reg o = s.reg o := rfl
@[simp] theorem State.getF_setRep (s : State) (x : Rep) (f : Fld) : (s.setRep x).getF f = s.getF f := rfl
@[simp] theorem State.bitF_setRep (s : State) (x : Rep) (f : Fld) : (s.setRep x).bitF f = s.bitF f := rfl

end Sys2Proof.Machine
end

