-- ==== Sys2Proof/Laws/Ops.lean ====
section
/-!
SUPPORT. What the shared operations of Machine/Ops.lean do: the gate that every meaning goes through, register words and
their fields, counters, notices and MSI-X messages.
-/

namespace Sys2Proof.Machine

/-! ### The gate of a meaning -/

@[simp] theorem State.goes_eq (s s' : State) : s.goes s' = .next (s'.setPending s.pending) := rfl

@[simp] theorem State.setPending_self (s : State) : s.setPending s.pending = s := rfl

/-- A meaning that the engine takes part in, while the engine runs. -/
theorem State.live_running (s s' : State) (h : s.halted = false) : s.live s' = .next (s'.setPending s.pending) := by
  simp [State.live, h]

/-- The same while the engine stands still: nothing happens. -/
theorem State.live_halted (s s' : State) (h : s.halted = true) : s.live s' = .next s := by
  simp [State.live, h]

/-- A host command to a running engine that is ready. -/
theorem State.host_ready (s s' : State) (h : s.halted = false) (hr : s.ready = true) :
    s.host s' = .next (s'.setPending s.pending) := by
  simp [State.host, h, hr]

/-- A host command before READY (R114), or to an engine that stands still: nothing happens. -/
theorem State.host_ignored (s s' : State) (h : s.halted = true ∨ s.ready = false) : s.host s' = .next s := by
  rcases h with h | h <;> simp [State.host, h]

theorem State.host_halted (s s' : State) (h : s.halted = true) : s.host s' = .next s := State.host_ignored s s' (.inl h)

theorem State.hostRd_halted (s s' : State) (form : RxForm) (h : s.halted = true) : s.hostRd form s' = .next s := by simp [State.hostRd, h]

/-- A host read to a running engine that is ready. -/
theorem State.hostRd_ready (s s' : State) (form : RxForm) (h : s.halted = false) (hr : s.ready = true) :
    s.hostRd form s' = .next (s'.setPending s.pending) := by
  simp [State.hostRd, h, hr]

/-! ### Register words -/

@[simp] theorem State.reg_setReg_same (s : State) (off : Nat) (v : U64) : (s.setReg off v).reg off = v :=
  FMap.get_set_same regReset s.regs off v

theorem State.reg_setReg_other (s : State) (off o : Nat) (v : U64) (h : o ≠ off) : (s.setReg off v).reg o = s.reg o :=
  FMap.get_set_other regReset s.regs off o v h

theorem State.setReg_wf (s : State) (off : Nat) (v : U64) (h : FMap.wf regReset s.regs = true) :
    FMap.wf regReset (s.setReg off v).regs = true :=
  FMap.set_wf regReset s.regs off v h

theorem State.reg_resetRegs_same (s : State) (lo hi o : Nat) (h₁ : lo ≤ o) (h₂ : o < hi) : (s.resetRegs lo hi).reg o = regReset o :=
  FMap.get_clearRun_same regReset s.regs lo (hi - lo) o h₁ (by omega)

theorem State.reg_resetRegs_other (s : State) (lo hi o : Nat) (h : o < lo ∨ hi ≤ o) : (s.resetRegs lo hi).reg o = s.reg o :=
  FMap.get_clearRun_other regReset s.regs lo (hi - lo) o (by omega)

/-! ### Fields -/

theorem Fld.mask_getLsbD (f : Fld) (i : Nat) (h : f.lo + f.w ≤ 64) :
    f.mask.getLsbD i = (decide (f.lo ≤ i) && decide (i < f.lo + f.w)) := by
  have hm : (2 ^ f.w - 1) * 2 ^ f.lo = (2 ^ f.w - 1) <<< f.lo := (Nat.shiftLeft_eq _ _).symm
  simp only [Fld.mask, BitVec.getLsbD_ofNat, hm, Nat.testBit_shiftLeft, Nat.testBit_two_pow_sub_one]
  by_cases h₁ : f.lo ≤ i <;> by_cases h₂ : i < f.lo + f.w <;> simp [h₁, h₂] <;> omega

theorem Fld.put_getLsbD (f : Fld) (r : U64) (v i : Nat) (h : f.lo + f.w ≤ 64) (hi : i < 64) :
    (f.put r v).getLsbD i = if f.lo ≤ i ∧ i < f.lo + f.w then v.testBit (i - f.lo) else r.getLsbD i := by
  simp only [Fld.put, BitVec.getLsbD_or, BitVec.getLsbD_and, BitVec.getLsbD_not, BitVec.getLsbD_shiftLeft, BitVec.getLsbD_setWidth,
    BitVec.getLsbD_ofNat, Fld.mask_getLsbD f i h, hi, decide_true, Bool.true_and]
  by_cases h₁ : f.lo ≤ i <;> by_cases h₂ : i < f.lo + f.w
  · have : i - f.lo < f.w := by omega
    have h64 : i - f.lo < 64 := by omega
    have h' : ¬ i < f.lo := by omega
    simp [h₁, h₂, this, h64, h']
  · have : ¬ i - f.lo < f.w := by omega
    simp [h₁, h₂, this]
  · have h' : i < f.lo := by omega
    simp [h₁, h']
  · have h' : i < f.lo := by omega
    simp [h₁, h']

/-- A field reads what was put into it, modulo its width. -/
theorem Fld.get_put_same (f : Fld) (r : U64) (v : Nat) (h : f.lo + f.w ≤ 64) : f.get (f.put r v) = v % 2 ^ f.w := by
  have : BitVec.extractLsb' f.lo f.w (f.put r v) = BitVec.ofNat f.w v := by
    apply BitVec.eq_of_getLsbD_eq
    intro i hi
    rw [BitVec.getLsbD_extractLsb', Fld.put_getLsbD f r v (f.lo + i) h (by omega)]
    rw [BitVec.getLsbD_ofNat]
    simp only [hi, decide_true, Bool.true_and, Nat.add_sub_cancel_left]
    rw [if_pos (by omega)]
  rw [Fld.get, this, BitVec.toNat_ofNat]

/-- A field keeps its value when a field that it does not overlap is put. -/
theorem Fld.get_put_other (f g : Fld) (r : U64) (v : Nat) (h : f.lo + f.w ≤ 64) (hg : g.lo + g.w ≤ 64)
    (hd : f.lo + f.w ≤ g.lo ∨ g.lo + g.w ≤ f.lo) : g.get (f.put r v) = g.get r := by
  have : BitVec.extractLsb' g.lo g.w (f.put r v) = BitVec.extractLsb' g.lo g.w r := by
    apply BitVec.eq_of_getLsbD_eq
    intro i hi
    rw [BitVec.getLsbD_extractLsb', BitVec.getLsbD_extractLsb', Fld.put_getLsbD f r v (g.lo + i) h (by omega)]
    have : ¬ (f.lo ≤ g.lo + i ∧ g.lo + i < f.lo + f.w) := by omega
    simp [this]
  rw [Fld.get, Fld.get, this]

theorem Fld.get_lt (f : Fld) (r : U64) : f.get r < 2 ^ f.w := (BitVec.extractLsb' f.lo f.w r).isLt

theorem State.getF_lt (s : State) (f : Fld) : s.getF f < 2 ^ f.w := f.get_lt _

/-- A field of the state reads what was written to it, modulo its width. -/
theorem State.getF_setF_same (s : State) (f : Fld) (v : Nat) (h : f.lo + f.w ≤ 64) : (s.setF f v).getF f = v % 2 ^ f.w := by
  simp [State.getF, State.setF, Fld.get_put_same f _ v h]

/-- A write to one field leaves every field of another register, and every other field of the same one. -/
theorem State.getF_setF_other (s : State) (f g : Fld) (v : Nat) (h : f.lo + f.w ≤ 64) (hg : g.lo + g.w ≤ 64)
    (hd : g.off ≠ f.off ∨ f.lo + f.w ≤ g.lo ∨ g.lo + g.w ≤ f.lo) : (s.setF f v).getF g = s.getF g := by
  by_cases ho : g.off = f.off
  · rw [State.getF, State.setF, ho, State.reg_setReg_same,
      Fld.get_put_other f g _ v h hg (hd.resolve_left (fun h => h ho)), State.getF, ho]
  · simp only [State.getF, State.setF, State.reg_setReg_other s f.off g.off _ ho]

theorem State.reg_setF_other (s : State) (f : Fld) (v o : Nat) (h : o ≠ f.off) : (s.setF f v).reg o = s.reg o :=
  State.reg_setReg_other s f.off o _ h

/-- The state after a field was set differs from the state before in its registers only. -/
theorem State.setF_regs_only (s : State) (f : Fld) (v : Nat) : s.setF f v = { s with regs := (s.setF f v).regs } := rfl

/-! ### Fields that other parts of the state do not change -/

theorem State.reg_congr (s t : State) (h : t.regs = s.regs) (o : Nat) : t.reg o = s.reg o := by simp [State.reg, h]

theorem State.getF_congr (s t : State) (h : t.regs = s.regs) (f : Fld) : t.getF f = s.getF f := by
  simp [State.getF, State.reg_congr s t h]

/-- The registers that a reset keeps hold their words, the others their reset values. -/
theorem State.reg_filter (s t : State) (p : Nat → Bool) (h : t.regs = s.regs.filter (fun e => p e.1)) (o : Nat) :
    t.reg o = if p o = true then s.reg o else regReset o := by
  unfold State.reg
  rw [h]
  by_cases hp : p o = true
  · simp [hp, FMap.get_filter regReset s.regs p o hp]
  · simp [hp, FMap.get_filter_out regReset s.regs p o (by simpa using hp)]

/-- A one-bit field reads 1 after 1 was written to it, and 0 after 0. -/
theorem State.bitF_setF_same (s : State) (f : Fld) (b : Bool) (h : f.lo + f.w ≤ 64) (hw : 0 < f.w) :
    (s.setF f b.toNat).bitF f = b := by
  have : 2 ≤ 2 ^ f.w := by
    calc 2 = 2 ^ 1 := rfl
      _ ≤ 2 ^ f.w := Nat.pow_le_pow_right (by decide) hw
  rw [State.bitF, State.getF_setF_same s f _ h]
  cases b
  · simp
  · rw [Nat.mod_eq_of_lt (by simp; omega)]; rfl

theorem State.bitF_setF_other (s : State) (f g : Fld) (v : Nat) (h : f.lo + f.w ≤ 64) (hg : g.lo + g.w ≤ 64)
    (hd : g.off ≠ f.off ∨ f.lo + f.w ≤ g.lo ∨ g.lo + g.w ≤ f.lo) : (s.setF f v).bitF g = s.bitF g := by
  simp [State.bitF, State.getF_setF_other s f g v h hg hd]

/-! ### Counters -/

/-- A saturating counter goes up by n, and not past its top. -/
theorem State.getF_incSat (s : State) (f : Fld) (n : Nat) (h : f.lo + f.w ≤ 64) :
    (s.incSat f n).getF f = min f.top (s.getF f + n) := by
  rw [State.incSat, State.getF_setF_same s f _ h]
  have : 0 < 2 ^ f.w := Nat.two_pow_pos _
  exact Nat.mod_eq_of_lt (by unfold Fld.top; omega)

/-- A wrapping counter goes up by n modulo its width. -/
theorem State.getF_incWrap (s : State) (f : Fld) (n : Nat) (h : f.lo + f.w ≤ 64) :
    (s.incWrap f n).getF f = (s.getF f + n) % 2 ^ f.w := State.getF_setF_same s f _ h

/-! ### Free values -/

@[simp] theorem State.takeFree_fst (s : State) : s.takeFree.1 = Config.freeWord s.free := rfl
@[simp] theorem State.takeFree_snd (s : State) : s.takeFree.2 = { s with free := s.free + 1 } := rfl
@[simp] theorem State.bumpFree_eq (s : State) : s.bumpFree = { s with free := s.free + 1 } := rfl

/-! ### Messages and notices (R31 to R35, R164 to R166) -/

/-- A message is not sent while MSI-X is off; PCIe takes it at once, or the pending-bit array holds it. -/
theorem State.msixLocal_cases (s : State) (vec : Nat) :
    (s.bus.msixOn = false ∧ s.msixLocal vec = s) ∨
    s.msixLocal vec = { s with bus := { s.bus with msix := vec :: s.bus.msix } } ∨
    s.msixLocal vec = { s with bus := { s.bus with pba := s.bus.pba ||| (1#64 <<< vec) } } := by
  unfold State.msixLocal
  split
  · rename_i h; exact .inl ⟨by simpa using h, rfl⟩
  · split
    · exact .inr (.inr rfl)
    · exact .inr (.inl rfl)

/-- Sending a message touches the PCIe side and the chain's queue of messages to inject, and nothing else. -/
theorem State.msixSend_only (s : State) (vec : Nat) : ∃ b c, s.msixSend vec = { s with bus := b, chn := c } := by
  unfold State.msixSend
  split
  · exact ⟨_, _, rfl⟩
  · rcases State.msixLocal_cases s vec with ⟨_, h⟩ | h | h <;> rw [h] <;> exact ⟨_, _, rfl⟩

@[simp] theorem State.msixSend_regs (s : State) (vec : Nat) : (s.msixSend vec).regs = s.regs := by
  obtain ⟨b, c, h⟩ := State.msixSend_only s vec
  rw [h]

/-- Raising notices touches the registers, the PCIe side and the chain's queue of messages to inject, and nothing else. -/
theorem State.raiseAll_only (s : State) (ns : List Notice) : ∃ r b c, s.raiseAll ns = { s with regs := r, bus := b, chn := c } := by
  unfold State.raiseAll; simp only
  split
  · exact ⟨_, _, _, rfl⟩
  · obtain ⟨b, c, h⟩ := State.msixSend_only
      (s.setF ARC_NOTICE_STATUS.NOTICE (noticeMask ns ||| s.getF ARC_NOTICE_STATUS.NOTICE)) (s.getF ARC_NOTICE_VECTOR.VECTOR)
    exact ⟨_, b, c, h⟩

/-- Whatever the mask says, each raised notice becomes 1 and the others stay (R33). -/
theorem State.raiseAll_notice (s : State) (ns : List Notice) :
    (s.raiseAll ns).getF ARC_NOTICE_STATUS.NOTICE = (noticeMask ns ||| s.getF ARC_NOTICE_STATUS.NOTICE) % 2 ^ 18 := by
  unfold State.raiseAll; simp only
  split
  · exact State.getF_setF_same s _ _ (by decide)
  · rw [State.getF_congr _ _ (State.msixSend_regs _ _)]
    exact State.getF_setF_same s _ _ (by decide)

/-- No other register changes. -/
theorem State.raiseAll_reg_other (s : State) (ns : List Notice) (o : Nat) (h : o ≠ ARC_NOTICE_STATUS) :
    (s.raiseAll ns).reg o = s.reg o := by
  unfold State.raiseAll; simp only
  split
  · exact State.reg_setF_other s _ _ o h
  · rw [State.reg_congr _ _ (State.msixSend_regs _ _)]
    exact State.reg_setF_other s _ _ o h

/-- The status register of the notices whose change sends no message: masked, or standing already (R33). -/
theorem State.raiseAll_quiet (s : State) (ns : List Notice)
    (h : ((noticeMask ns ||| s.getF ARC_NOTICE_STATUS.NOTICE) - s.getF ARC_NOTICE_STATUS.NOTICE) &&&
      (0x3FFFF - s.getF ARC_NOTICE_MASK.MASK) = 0) :
    s.raiseAll ns = s.setF ARC_NOTICE_STATUS.NOTICE (noticeMask ns ||| s.getF ARC_NOTICE_STATUS.NOTICE) := by
  unfold State.raiseAll; simp only [h, if_true]

end Sys2Proof.Machine
end

