-- ==== Sys2Proof/Laws/PerInstr.lean ====
section
/-!
SUPPORT. Laws of every command, one lemma for each constructor of Instr.
-/

set_option linter.unusedVariables false

namespace Sys2Proof.Laws

open Sys2Proof.Machine

/-- The command always answers a next state, and leaves the queue to the step. -/
def Answers.Statement (c : Instr) : Prop := ∀ s : State, ∃ t, exec c s = .next t ∧ t.pending = s.pending

/-- While the engine stands still, the command has no effect, unless it is one of those that act at rest. -/
def Rests.Statement (c : Instr) : Prop := actsAtRest c = false → ∀ s : State, s.halted = true → exec c s = .next s

theorem Answers.registerWrite (t) (off) (half) (v) : Answers.Statement (.registerWrite t off half v) := fun _ => ⟨_, rfl, rfl⟩
theorem Answers.bar0BadAccess (write) (off) (size) : Answers.Statement (.bar0BadAccess write off size) := fun _ => ⟨_, rfl, rfl⟩
theorem Answers.arcNoticeStatusWrite (v) : Answers.Statement (.arcNoticeStatusWrite v) := fun _ => ⟨_, rfl, rfl⟩
theorem Answers.arcNoticeMaskWrite (v) : Answers.Statement (.arcNoticeMaskWrite v) := fun _ => ⟨_, rfl, rfl⟩
theorem Answers.aonPowerOn : Answers.Statement (.aonPowerOn) := fun _ => ⟨_, rfl, rfl⟩
theorem Answers.boardReset : Answers.Statement (.boardReset) := fun _ => ⟨_, rfl, rfl⟩
theorem Answers.resetNRise (root) (addr0) (addr1) : Answers.Statement (.resetNRise root addr0 addr1) := fun _ => ⟨_, rfl, rfl⟩
theorem Answers.watchdogExpire : Answers.Statement (.watchdogExpire) := fun _ => ⟨_, rfl, rfl⟩
theorem Answers.warmReset (v) (srOk) : Answers.Statement (.warmReset v srOk) := fun _ => ⟨_, rfl, rfl⟩
theorem Answers.smbusWarmReset (srOk) : Answers.Statement (.smbusWarmReset srOk) := fun _ => ⟨_, rfl, rfl⟩
theorem Answers.pcieReset (perst) : Answers.Statement (.pcieReset perst) := fun _ => ⟨_, rfl, rfl⟩
theorem Answers.perstNRise : Answers.Statement (.perstNRise) := fun _ => ⟨_, rfl, rfl⟩
theorem Answers.pcieLinkUp : Answers.Statement (.pcieLinkUp) := fun _ => ⟨_, rfl, rfl⟩
theorem Answers.romPhase (us) : Answers.Statement (.romPhase us) := fun _ => ⟨_, rfl, rfl⟩
theorem Answers.otpPhase (us) (checkOk) : Answers.Statement (.otpPhase us checkOk) := fun _ => ⟨_, rfl, rfl⟩
theorem Answers.fwLoad (us) (readOk) : Answers.Statement (.fwLoad us readOk) := fun _ => ⟨_, rfl, rfl⟩
theorem Answers.fwVerify (us) : Answers.Statement (.fwVerify us) := fun _ => ⟨_, rfl, rfl⟩
theorem Answers.configPhase (us) : Answers.Statement (.configPhase us) := fun _ => ⟨_, rfl, rfl⟩
theorem Answers.bistRepairPhase (us) (faults) : Answers.Statement (.bistRepairPhase us faults) := fun _ => ⟨_, rfl, rfl⟩
theorem Answers.trainDram (us) (ok) : Answers.Statement (.trainDram us ok) := fun _ => ⟨_, rfl, rfl⟩
theorem Answers.trainFlash (us) (ok) : Answers.Statement (.trainFlash us ok) := fun _ => ⟨_, rfl, rfl⟩
theorem Answers.journalReplay (us) : Answers.Statement (.journalReplay us) := fun _ => ⟨_, rfl, rfl⟩
theorem Answers.serdesPhase (us) (ok) : Answers.Statement (.serdesPhase us ok) := fun _ => ⟨_, rfl, rfl⟩
theorem Answers.enumPhase : Answers.Statement (.enumPhase) := fun _ => ⟨_, rfl, rfl⟩
theorem Answers.enumWaitExpire (us) : Answers.Statement (.enumWaitExpire us) := fun _ => ⟨_, rfl, rfl⟩
theorem Answers.makereadyReady (readyUs) : Answers.Statement (.makereadyReady readyUs) := fun _ => ⟨_, rfl, rfl⟩
theorem Answers.chainRecordRewrite : Answers.Statement (.chainRecordRewrite) := fun _ => ⟨_, rfl, rfl⟩
theorem Answers.recRead : Answers.Statement (.recRead) := fun _ => ⟨_, rfl, rfl⟩
theorem Answers.recProgram : Answers.Statement (.recProgram) := fun _ => ⟨_, rfl, rfl⟩
theorem Answers.recErase : Answers.Statement (.recErase) := fun _ => ⟨_, rfl, rfl⟩
theorem Answers.recOpDone (ok) : Answers.Statement (.recOpDone ok) := fun _ => ⟨_, rfl, rfl⟩
theorem Answers.vddCoreBelowWarn (t) (mv) : Answers.Statement (.vddCoreBelowWarn t mv) := fun _ => ⟨_, rfl, rfl⟩
theorem Answers.supplyWarnAssert (t) (mv) : Answers.Statement (.supplyWarnAssert t mv) := fun _ => ⟨_, rfl, rfl⟩
theorem Answers.vddCoreAboveClear (t) (mv) : Answers.Statement (.vddCoreAboveClear t mv) := fun _ => ⟨_, rfl, rfl⟩
theorem Answers.supplyWarnClear (t) : Answers.Statement (.supplyWarnClear t) := fun _ => ⟨_, rfl, rfl⟩
theorem Answers.supplyReset (t) : Answers.Statement (.supplyReset t) := fun _ => ⟨_, rfl, rfl⟩
theorem Answers.dvfsStepUp (p) : Answers.Statement (.dvfsStepUp p) := fun _ => ⟨_, rfl, rfl⟩
theorem Answers.dvfsSettleExpire : Answers.Statement (.dvfsSettleExpire) := fun _ => ⟨_, rfl, rfl⟩
theorem Answers.dvfsStepDown (p) : Answers.Statement (.dvfsStepDown p) := fun _ => ⟨_, rfl, rfl⟩
theorem Answers.pfailAssert (t) : Answers.Statement (.pfailAssert t) := fun _ => ⟨_, rfl, rfl⟩
theorem Answers.pfailFlushDone (us) : Answers.Statement (.pfailFlushDone us) := fun _ => ⟨_, rfl, rfl⟩
theorem Answers.thermalSample (temps) : Answers.Statement (.thermalSample temps) := fun _ => ⟨_, rfl, rfl⟩
theorem Answers.thermalStepDown : Answers.Statement (.thermalStepDown) := fun _ => ⟨_, rfl, rfl⟩
theorem Answers.thermalStepUp : Answers.Statement (.thermalStepUp) := fun _ => ⟨_, rfl, rfl⟩
theorem Answers.bar2Read (x) (n) : Answers.Statement (.bar2Read x n) := fun _ => ⟨_, rfl, rfl⟩
theorem Answers.bar2Write (t) (x) (data) : Answers.Statement (.bar2Write t x data) := fun _ => ⟨_, rfl, rfl⟩
theorem Answers.hstSqDbWrite (r) (v) : Answers.Statement (.hstSqDbWrite r v) := fun _ => ⟨_, rfl, rfl⟩
theorem Answers.hstCqDbWrite (r) (v) : Answers.Statement (.hstCqDbWrite r v) := fun _ => ⟨_, rfl, rfl⟩
theorem Answers.descriptorFetch (r) (ok) : Answers.Statement (.descriptorFetch r ok) := fun _ => ⟨_, rfl, rfl⟩
theorem Answers.nop (r) (slot) : Answers.Statement (.nop r slot) := fun _ => ⟨_, rfl, rfl⟩
theorem Answers.netLaunch (r) (slot) : Answers.Statement (.netLaunch r slot) := fun _ => ⟨_, rfl, rfl⟩
theorem Answers.netLaunchStart (t) (r) (slot) : Answers.Statement (.netLaunchStart t r slot) := fun _ => ⟨_, rfl, rfl⟩
theorem Answers.copy (t) (r) (slot) : Answers.Statement (.copy t r slot) := fun _ => ⟨_, rfl, rfl⟩
theorem Answers.folioAlloc (r) (slot) : Answers.Statement (.folioAlloc r slot) := fun _ => ⟨_, rfl, rfl⟩
theorem Answers.folioFree (r) (slot) : Answers.Statement (.folioFree r slot) := fun _ => ⟨_, rfl, rfl⟩
theorem Answers.folioSwapOut (r) (slot) : Answers.Statement (.folioSwapOut r slot) := fun _ => ⟨_, rfl, rfl⟩
theorem Answers.folioSwapIn (r) (slot) : Answers.Statement (.folioSwapIn r slot) := fun _ => ⟨_, rfl, rfl⟩
theorem Answers.swapOutDone (q) : Answers.Statement (.swapOutDone q) := fun _ => ⟨_, rfl, rfl⟩
theorem Answers.swapInDone (q) : Answers.Statement (.swapInDone q) := fun _ => ⟨_, rfl, rfl⟩
theorem Answers.poolRead (t) (r) (slot) : Answers.Statement (.poolRead t r slot) := fun _ => ⟨_, rfl, rfl⟩
theorem Answers.poolWrite (t) (r) (slot) : Answers.Statement (.poolWrite t r slot) := fun _ => ⟨_, rfl, rfl⟩
theorem Answers.poolAtomic (t) (r) (slot) : Answers.Statement (.poolAtomic t r slot) := fun _ => ⟨_, rfl, rfl⟩
theorem Answers.trgSched (t) (r) (slot) : Answers.Statement (.trgSched t r slot) := fun _ => ⟨_, rfl, rfl⟩
theorem Answers.trgSchedPlace (t) (r) (slot) : Answers.Statement (.trgSchedPlace t r slot) := fun _ => ⟨_, rfl, rfl⟩
theorem Answers.epochMark (t) (r) (slot) : Answers.Statement (.epochMark t r slot) := fun _ => ⟨_, rfl, rfl⟩
theorem Answers.fence (r) (slot) : Answers.Statement (.fence r slot) := fun _ => ⟨_, rfl, rfl⟩
theorem Answers.launchTimeout (r) (slot) : Answers.Statement (.launchTimeout r slot) := fun _ => ⟨_, rfl, rfl⟩
theorem Answers.completionWrite (t) (r) (ok) : Answers.Statement (.completionWrite t r ok) := fun _ => ⟨_, rfl, rfl⟩
theorem Answers.coalTimerExpire (r) : Answers.Statement (.coalTimerExpire r) := fun _ => ⟨_, rfl, rfl⟩
theorem Answers.ringEnable (r) : Answers.Statement (.ringEnable r) := fun _ => ⟨_, rfl, rfl⟩
theorem Answers.ringDrain (r) : Answers.Statement (.ringDrain r) := fun _ => ⟨_, rfl, rfl⟩
theorem Answers.ringDrainFlush (r) : Answers.Statement (.ringDrainFlush r) := fun _ => ⟨_, rfl, rfl⟩
theorem Answers.ringDrainDone (r) : Answers.Statement (.ringDrainDone r) := fun _ => ⟨_, rfl, rfl⟩
theorem Answers.galleyPush (g) (w) (endMark) : Answers.Statement (.galleyPush g w endMark) := fun _ => ⟨_, rfl, rfl⟩
theorem Answers.galleyPop (g) (ecc) : Answers.Statement (.galleyPop g ecc) := fun _ => ⟨_, rfl, rfl⟩
theorem Answers.galleyAbandon (g) : Answers.Statement (.galleyAbandon g) := fun _ => ⟨_, rfl, rfl⟩
theorem Answers.galleyFlush (g) : Answers.Statement (.galleyFlush g) := fun _ => ⟨_, rfl, rfl⟩
theorem Answers.galleyFaultReset (g) (readSide) : Answers.Statement (.galleyFaultReset g readSide) := fun _ => ⟨_, rfl, rfl⟩
theorem Answers.galHostTxData (v) : Answers.Statement (.galHostTxData v) := fun _ => ⟨_, rfl, rfl⟩
theorem Answers.galHostTxLast (v) : Answers.Statement (.galHostTxLast v) := fun _ => ⟨_, rfl, rfl⟩
theorem Answers.galHostRxData (form) : Answers.Statement (.galHostRxData form) := fun _ => ⟨_, rfl, rfl⟩
theorem Answers.hostRxEmptyTimeout : Answers.Statement (.hostRxEmptyTimeout) := fun _ => ⟨_, rfl, rfl⟩
theorem Answers.gutterTransfer (x) (w) (ecc) : Answers.Statement (.gutterTransfer x w ecc) := fun _ => ⟨_, rfl, rfl⟩
theorem Answers.togglePulse (x) (acked) : Answers.Statement (.togglePulse x acked) := fun _ => ⟨_, rfl, rfl⟩
theorem Answers.dtlCapture (t) (v) : Answers.Statement (.dtlCapture t v) := fun _ => ⟨_, rfl, rfl⟩
theorem Answers.dtlRateWrite (t) (v) : Answers.Statement (.dtlRateWrite t v) := fun _ => ⟨_, rfl, rfl⟩
theorem Answers.dtlSlewWrite (t) (v) : Answers.Statement (.dtlSlewWrite t v) := fun _ => ⟨_, rfl, rfl⟩
theorem Answers.dtlSet (t) : Answers.Statement (.dtlSet t) := fun _ => ⟨_, rfl, rfl⟩
theorem Answers.dtlSetAtPps : Answers.Statement (.dtlSetAtPps) := fun _ => ⟨_, rfl, rfl⟩
theorem Answers.dtlUnset (t) : Answers.Statement (.dtlUnset t) := fun _ => ⟨_, rfl, rfl⟩
theorem Answers.ppsInEdge (t) (sub) : Answers.Statement (.ppsInEdge t sub) := fun _ => ⟨_, rfl, rfl⟩
theorem Answers.refSample (t) (r) (theta) : Answers.Statement (.refSample t r theta) := fun _ => ⟨_, rfl, rfl⟩
theorem Answers.refLossTimeout (t) (r) : Answers.Statement (.refLossTimeout t r) := fun _ => ⟨_, rfl, rfl⟩
theorem Answers.refHoldoffExpire (t) (r) : Answers.Statement (.refHoldoffExpire t r) := fun _ => ⟨_, rfl, rfl⟩
theorem Answers.switchCommit (t) : Answers.Statement (.switchCommit t) := fun _ => ⟨_, rfl, rfl⟩
theorem Answers.ppsOutRise (t) : Answers.Statement (.ppsOutRise t) := fun _ => ⟨_, rfl, rfl⟩
theorem Answers.ppsOutFall (t) : Answers.Statement (.ppsOutFall t) := fun _ => ⟨_, rfl, rfl⟩
theorem Answers.evtEdge (t) (n) (rise) (sub) : Answers.Statement (.evtEdge t n rise sub) := fun _ => ⟨_, rfl, rfl⟩
theorem Answers.dtlEvtRead (n) : Answers.Statement (.dtlEvtRead n) := fun _ => ⟨_, rfl, rfl⟩
theorem Answers.trgEdge (t) (n) : Answers.Statement (.trgEdge t n) := fun _ => ⟨_, rfl, rfl⟩
theorem Answers.epochClockEnable (t) (v) : Answers.Statement (.epochClockEnable t v) := fun _ => ⟨_, rfl, rfl⟩
theorem Answers.epochOpen (t) : Answers.Statement (.epochOpen t) := fun _ => ⟨_, rfl, rfl⟩
theorem Answers.aonTimeRecord (t) (coarse) : Answers.Statement (.aonTimeRecord t coarse) := fun _ => ⟨_, rfl, rfl⟩
theorem Answers.dtlConv (t) (v) : Answers.Statement (.dtlConv t v) := fun _ => ⟨_, rfl, rfl⟩
theorem Answers.ptpRxMessage (t) (p) (sub) (frame) : Answers.Statement (.ptpRxMessage t p sub frame) := fun _ => ⟨_, rfl, rfl⟩
theorem Answers.ptpTxMessage (t) (p) (sub) (frame) : Answers.Statement (.ptpTxMessage t p sub frame) := fun _ => ⟨_, rfl, rfl⟩
theorem Answers.tcForward (t) (p) (f) : Answers.Statement (.tcForward t p f) := fun _ => ⟨_, rfl, rfl⟩
theorem Answers.tcEntryExpire (p) (key) : Answers.Statement (.tcEntryExpire p key) := fun _ => ⟨_, rfl, rfl⟩
theorem Answers.masterSyncTx (t) (p) : Answers.Statement (.masterSyncTx t p) := fun _ => ⟨_, rfl, rfl⟩
theorem Answers.masterAnnounceTx (t) (p) : Answers.Statement (.masterAnnounceTx t p) := fun _ => ⟨_, rfl, rfl⟩
theorem Answers.ptpPortEnable (p) : Answers.Statement (.ptpPortEnable p) := fun _ => ⟨_, rfl, rfl⟩
theorem Answers.csi2LongHeader (t) (p) (ecc) (vc) (dt) (wc) : Answers.Statement (.csi2LongHeader t p ecc vc dt wc) := fun _ => ⟨_, rfl, rfl⟩
theorem Answers.csi2PacketEnd (t) (p) (payload) (crcOk) : Answers.Statement (.csi2PacketEnd t p payload crcOk) := fun _ => ⟨_, rfl, rfl⟩
theorem Answers.csi2SotErr (p) : Answers.Statement (.csi2SotErr p) := fun _ => ⟨_, rfl, rfl⟩
theorem Answers.csi2FrameStart (t) (p) (vc) (frame) : Answers.Statement (.csi2FrameStart t p vc frame) := fun _ => ⟨_, rfl, rfl⟩
theorem Answers.csi2FrameEnd (t) (p) (vc) (frame) : Answers.Statement (.csi2FrameEnd t p vc frame) := fun _ => ⟨_, rfl, rfl⟩
theorem Answers.ethFrameRx (t) (p) (frame) (fcsOk) : Answers.Statement (.ethFrameRx t p frame fcsOk) := fun _ => ⟨_, rfl, rfl⟩
theorem Answers.encEdge (t) (n) (a) (b) : Answers.Statement (.encEdge t n a b) := fun _ => ⟨_, rfl, rfl⟩
theorem Answers.encZEdge (t) (n) : Answers.Statement (.encZEdge t n) := fun _ => ⟨_, rfl, rfl⟩
theorem Answers.encPeriodItem (n) : Answers.Statement (.encPeriodItem n) := fun _ => ⟨_, rfl, rfl⟩
theorem Answers.imuDrdyEdge (t) (i) (rise) : Answers.Statement (.imuDrdyEdge t i rise) := fun _ => ⟨_, rfl, rfl⟩
theorem Answers.imuPeriod (t) (i) : Answers.Statement (.imuPeriod t i) := fun _ => ⟨_, rfl, rfl⟩
theorem Answers.imuScriptEnd (i) (miso) : Answers.Statement (.imuScriptEnd i miso) := fun _ => ⟨_, rfl, rfl⟩
theorem Answers.ingPortEnable (p) : Answers.Statement (.ingPortEnable p) := fun _ => ⟨_, rfl, rfl⟩
theorem Answers.ingPortDisable (p) : Answers.Statement (.ingPortDisable p) := fun _ => ⟨_, rfl, rfl⟩
theorem Answers.mdioAddress (v) : Answers.Statement (.mdioAddress v) := fun _ => ⟨_, rfl, rfl⟩
theorem Answers.mdioWrite (v) : Answers.Statement (.mdioWrite v) := fun _ => ⟨_, rfl, rfl⟩
theorem Answers.mdioRead (v) : Answers.Statement (.mdioRead v) := fun _ => ⟨_, rfl, rfl⟩
theorem Answers.mdioFrameDone (data) : Answers.Statement (.mdioFrameDone data) := fun _ => ⟨_, rfl, rfl⟩
theorem Answers.regItem (t) (g) : Answers.Statement (.regItem t g) := fun _ => ⟨_, rfl, rfl⟩
theorem Answers.calLoad : Answers.Statement (.calLoad) := fun _ => ⟨_, rfl, rfl⟩
theorem Answers.calLoadDone : Answers.Statement (.calLoadDone) := fun _ => ⟨_, rfl, rfl⟩
theorem Answers.gridEnable : Answers.Statement (.gridEnable) := fun _ => ⟨_, rfl, rfl⟩
theorem Answers.reseed : Answers.Statement (.reseed) := fun _ => ⟨_, rfl, rfl⟩
theorem Answers.epochSeal (t) (e) : Answers.Statement (.epochSeal t e) := fun _ => ⟨_, rfl, rfl⟩
theorem Answers.epochFinalise (t) (e) : Answers.Statement (.epochFinalise t e) := fun _ => ⟨_, rfl, rfl⟩
theorem Answers.slugIssue (t) (n) : Answers.Statement (.slugIssue t n) := fun _ => ⟨_, rfl, rfl⟩
theorem Answers.slotNop (n) (slot) : Answers.Statement (.slotNop n slot) := fun _ => ⟨_, rfl, rfl⟩
theorem Answers.add (n) (rd) (ra) (rb) : Answers.Statement (.add n rd ra rb) := fun _ => ⟨_, rfl, rfl⟩
theorem Answers.addi (n) (rd) (ra) (imm) : Answers.Statement (.addi n rd ra imm) := fun _ => ⟨_, rfl, rfl⟩
theorem Answers.sub (n) (rd) (ra) (rb) : Answers.Statement (.sub n rd ra rb) := fun _ => ⟨_, rfl, rfl⟩
theorem Answers.and (n) (rd) (ra) (rb) : Answers.Statement (.and n rd ra rb) := fun _ => ⟨_, rfl, rfl⟩
theorem Answers.or (n) (rd) (ra) (rb) : Answers.Statement (.or n rd ra rb) := fun _ => ⟨_, rfl, rfl⟩
theorem Answers.xor (n) (rd) (ra) (rb) : Answers.Statement (.xor n rd ra rb) := fun _ => ⟨_, rfl, rfl⟩
theorem Answers.shl (n) (rd) (ra) (by_) : Answers.Statement (.shl n rd ra by_) := fun _ => ⟨_, rfl, rfl⟩
theorem Answers.shr (n) (rd) (ra) (by_) : Answers.Statement (.shr n rd ra by_) := fun _ => ⟨_, rfl, rfl⟩
theorem Answers.sar (n) (rd) (ra) (by_) : Answers.Statement (.sar n rd ra by_) := fun _ => ⟨_, rfl, rfl⟩
theorem Answers.mul (n) (rd) (ra) (rb) : Answers.Statement (.mul n rd ra rb) := fun _ => ⟨_, rfl, rfl⟩
theorem Answers.movi (n) (rd) (imm) : Answers.Statement (.movi n rd imm) := fun _ => ⟨_, rfl, rfl⟩
theorem Answers.movhi (n) (rd) (ra) (imm) : Answers.Statement (.movhi n rd ra imm) := fun _ => ⟨_, rfl, rfl⟩
theorem Answers.cmp (n) (pd) (c) (ra) (rb) : Answers.Statement (.cmp n pd c ra rb) := fun _ => ⟨_, rfl, rfl⟩
theorem Answers.cmpi (n) (pd) (c) (ra) (imm) : Answers.Statement (.cmpi n pd c ra imm) := fun _ => ⟨_, rfl, rfl⟩
theorem Answers.plog (n) (pd) (op) (pa) (pb) : Answers.Statement (.plog n pd op pa pb) := fun _ => ⟨_, rfl, rfl⟩
theorem Answers.br (n) (imm) : Answers.Statement (.br n imm) := fun _ => ⟨_, rfl, rfl⟩
theorem Answers.jr (n) (ra) : Answers.Statement (.jr n ra) := fun _ => ⟨_, rfl, rfl⟩
theorem Answers.call (n) (imm) : Answers.Statement (.call n imm) := fun _ => ⟨_, rfl, rfl⟩
theorem Answers.loop (n) (rd) (imm) : Answers.Statement (.loop n rd imm) := fun _ => ⟨_, rfl, rfl⟩
theorem Answers.gwait (n) (onEnd) (words) : Answers.Statement (.gwait n onEnd words) := fun _ => ⟨_, rfl, rfl⟩
theorem Answers.gcount (n) (rd) : Answers.Statement (.gcount n rd) := fun _ => ⟨_, rfl, rfl⟩
theorem Answers.gpop (n) (rd) (pd) : Answers.Statement (.gpop n rd pd) := fun _ => ⟨_, rfl, rfl⟩
theorem Answers.ctlFence (n) (kind) : Answers.Statement (.ctlFence n kind) := fun _ => ⟨_, rfl, rfl⟩
theorem Answers.bwait (n) (mask) : Answers.Statement (.bwait n mask) := fun _ => ⟨_, rfl, rfl⟩
theorem Answers.rdsr (n) (rd) (idx) : Answers.Statement (.rdsr n rd idx) := fun _ => ⟨_, rfl, rfl⟩
theorem Answers.trap (n) : Answers.Statement (.trap n) := fun _ => ⟨_, rfl, rfl⟩
theorem Answers.resume (n) (ra) : Answers.Statement (.resume n ra) := fun _ => ⟨_, rfl, rfl⟩
theorem Answers.endSlot (n) : Answers.Statement (.endSlot n) := fun _ => ⟨_, rfl, rfl⟩
theorem Answers.wload (n) (f) : Answers.Statement (.wload n f) := fun _ => ⟨_, rfl, rfl⟩
theorem Answers.run (n) (f) (build) : Answers.Statement (.run n f build) := fun _ => ⟨_, rfl, rfl⟩
theorem Answers.build (n) (b) : Answers.Statement (.build n b) := fun _ => ⟨_, rfl, rfl⟩
theorem Answers.peek (n) (group) (plane) (addr) : Answers.Statement (.peek n group plane addr) := fun _ => ⟨_, rfl, rfl⟩
theorem Answers.vld (n) (vd) (gb) (addr) : Answers.Statement (.vld n vd gb addr) := fun _ => ⟨_, rfl, rfl⟩
theorem Answers.vst (n) (va) (gb) (addr) : Answers.Statement (.vst n va gb addr) := fun _ => ⟨_, rfl, rfl⟩
theorem Answers.vstp (n) (va) (gb) (addr) : Answers.Statement (.vstp n va gb addr) := fun _ => ⟨_, rfl, rfl⟩
theorem Answers.apop (n) (vd) (vc) (satv) : Answers.Statement (.apop n vd vc satv) := fun _ => ⟨_, rfl, rfl⟩
theorem Answers.sst (n) (va) (vb) (gb) (addr) : Answers.Statement (.sst n va vb gb addr) := fun _ => ⟨_, rfl, rfl⟩
theorem Answers.vmovg (n) (vd) (ga) : Answers.Statement (.vmovg n vd ga) := fun _ => ⟨_, rfl, rfl⟩
theorem Answers.gmovv (n) (gd) (va) : Answers.Statement (.gmovv n gd va) := fun _ => ⟨_, rfl, rfl⟩
theorem Answers.iadd (n) (vd) (va) (vb) : Answers.Statement (.iadd n vd va vb) := fun _ => ⟨_, rfl, rfl⟩
theorem Answers.isub (n) (vd) (va) (vb) : Answers.Statement (.isub n vd va vb) := fun _ => ⟨_, rfl, rfl⟩
theorem Answers.imul (n) (vd) (va) (vb) : Answers.Statement (.imul n vd va vb) := fun _ => ⟨_, rfl, rfl⟩
theorem Answers.imax (n) (vd) (va) (vb) : Answers.Statement (.imax n vd va vb) := fun _ => ⟨_, rfl, rfl⟩
theorem Answers.imin (n) (vd) (va) (vb) : Answers.Statement (.imin n vd va vb) := fun _ => ⟨_, rfl, rfl⟩
theorem Answers.fadd (n) (vd) (va) (vb) (bf) (rnd) : Answers.Statement (.fadd n vd va vb bf rnd) := fun _ => ⟨_, rfl, rfl⟩
theorem Answers.fsub (n) (vd) (va) (vb) (bf) (rnd) : Answers.Statement (.fsub n vd va vb bf rnd) := fun _ => ⟨_, rfl, rfl⟩
theorem Answers.fmul (n) (vd) (va) (vb) (bf) (rnd) : Answers.Statement (.fmul n vd va vb bf rnd) := fun _ => ⟨_, rfl, rfl⟩
theorem Answers.fma (n) (vd) (va) (vb) (vc) (bf) (rnd) : Answers.Statement (.fma n vd va vb vc bf rnd) := fun _ => ⟨_, rfl, rfl⟩
theorem Answers.fmax (n) (vd) (va) (vb) (bf) (rnd) : Answers.Statement (.fmax n vd va vb bf rnd) := fun _ => ⟨_, rfl, rfl⟩
theorem Answers.fmin (n) (vd) (va) (vb) (bf) (rnd) : Answers.Statement (.fmin n vd va vb bf rnd) := fun _ => ⟨_, rfl, rfl⟩
theorem Answers.req (n) (vd) (va) (vb) (sh) (z) (sout) (rnd) : Answers.Statement (.req n vd va vb sh z sout rnd) := fun _ => ⟨_, rfl, rfl⟩
theorem Answers.f2b (n) (vd) (va) (vb) (rnd) : Answers.Statement (.f2b n vd va vb rnd) := fun _ => ⟨_, rfl, rfl⟩
theorem Answers.b2f (n) (vd) (va) (high) : Answers.Statement (.b2f n vd va high) := fun _ => ⟨_, rfl, rfl⟩
theorem Answers.i2f (n) (vd) (va) : Answers.Statement (.i2f n vd va) := fun _ => ⟨_, rfl, rfl⟩
theorem Answers.exp (n) (vd) (va) : Answers.Statement (.exp n vd va) := fun _ => ⟨_, rfl, rfl⟩
theorem Answers.log (n) (vd) (va) : Answers.Statement (.log n vd va) := fun _ => ⟨_, rfl, rfl⟩
theorem Answers.frsum (n) (vd) (va) : Answers.Statement (.frsum n vd va) := fun _ => ⟨_, rfl, rfl⟩
theorem Answers.frmax (n) (vd) (va) : Answers.Statement (.frmax n vd va) := fun _ => ⟨_, rfl, rfl⟩
theorem Answers.irsum (n) (vd) (va) : Answers.Statement (.irsum n vd va) := fun _ => ⟨_, rfl, rfl⟩
theorem Answers.irmax (n) (vd) (va) : Answers.Statement (.irmax n vd va) := fun _ => ⟨_, rfl, rfl⟩
theorem Answers.hload (n) (f) : Answers.Statement (.hload n f) := fun _ => ⟨_, rfl, rfl⟩
theorem Answers.hrun (n) (f) : Answers.Statement (.hrun n f) := fun _ => ⟨_, rfl, rfl⟩
theorem Answers.sload (t) (n) (f) (provOk) : Answers.Statement (.sload t n f provOk) := fun _ => ⟨_, rfl, rfl⟩
theorem Answers.sstore (n) (f) (tagEpoch) : Answers.Statement (.sstore n f tagEpoch) := fun _ => ⟨_, rfl, rfl⟩
theorem Answers.satom (t) (n) (f) (tagEpoch) : Answers.Statement (.satom t n f tagEpoch) := fun _ => ⟨_, rfl, rfl⟩
theorem Answers.gsend (n) (f) : Answers.Statement (.gsend n f) := fun _ => ⟨_, rfl, rfl⟩
theorem Answers.grecv (n) (f) : Answers.Statement (.grecv n f) := fun _ => ⟨_, rfl, rfl⟩
theorem Answers.bcopy (n) (f) : Answers.Statement (.bcopy n f) := fun _ => ⟨_, rfl, rfl⟩
theorem Answers.icopy (n) (f) : Answers.Statement (.icopy n f) := fun _ => ⟨_, rfl, rfl⟩
theorem Answers.brick (n) (f) (tagEpoch) : Answers.Statement (.brick n f tagEpoch) := fun _ => ⟨_, rfl, rfl⟩
theorem Answers.fwalk (t) (n) (f) : Answers.Statement (.fwalk t n f) := fun _ => ⟨_, rfl, rfl⟩
theorem Answers.streamEnd (n) (sid) : Answers.Statement (.streamEnd n sid) := fun _ => ⟨_, rfl, rfl⟩
theorem Answers.storeBufferDrain (t) (n) : Answers.Statement (.storeBufferDrain t n) := fun _ => ⟨_, rfl, rfl⟩
theorem Answers.proofEndSkewTimeout (t) (k) : Answers.Statement (.proofEndSkewTimeout t k) := fun _ => ⟨_, rfl, rfl⟩
theorem Answers.launchStop (t) (r) (slot) (cause) : Answers.Statement (.launchStop t r slot cause) := fun _ => ⟨_, rfl, rfl⟩
theorem Answers.launchEnd (t) (r) (slot) : Answers.Statement (.launchEnd t r slot) := fun _ => ⟨_, rfl, rfl⟩
theorem Answers.prsClear (n) : Answers.Statement (.prsClear n) := fun _ => ⟨_, rfl, rfl⟩
theorem Answers.prsDropImage (n) : Answers.Statement (.prsDropImage n) := fun _ => ⟨_, rfl, rfl⟩
theorem Answers.chainLinkUp (d) (far) : Answers.Statement (.chainLinkUp d far) := fun _ => ⟨_, rfl, rfl⟩
theorem Answers.laneSpare (d) (lane) : Answers.Statement (.laneSpare d lane) := fun _ => ⟨_, rfl, rfl⟩
theorem Answers.chainMessageTx (d) : Answers.Statement (.chainMessageTx d) := fun _ => ⟨_, rfl, rfl⟩
theorem Answers.chainMessageRx (d) (h) (m) (crcOk) : Answers.Statement (.chainMessageRx d h m crcOk) := fun _ => ⟨_, rfl, rfl⟩
theorem Answers.linkNak (d) (seq) : Answers.Statement (.linkNak d seq) := fun _ => ⟨_, rfl, rfl⟩
theorem Answers.linkCredit (d) (ctrl) (req) (wdata) (resp) : Answers.Statement (.linkCredit d ctrl req wdata resp) := fun _ => ⟨_, rfl, rfl⟩
theorem Answers.enumProbe (d) (b) : Answers.Statement (.enumProbe d b) := fun _ => ⟨_, rfl, rfl⟩
theorem Answers.enumEnd (d) (b) : Answers.Statement (.enumEnd d b) := fun _ => ⟨_, rfl, rfl⟩
theorem Answers.enumDone (d) (b) : Answers.Statement (.enumDone d b) := fun _ => ⟨_, rfl, rfl⟩
theorem Answers.hopWaitExpire : Answers.Statement (.hopWaitExpire) := fun _ => ⟨_, rfl, rfl⟩
theorem Answers.announce (d) (sticky) (serial) : Answers.Statement (.announce d sticky serial) := fun _ => ⟨_, rfl, rfl⟩
theorem Answers.grant (id) (serial) (map) : Answers.Statement (.grant id serial map) := fun _ => ⟨_, rfl, rfl⟩
theorem Answers.detach (id) : Answers.Statement (.detach id) := fun _ => ⟨_, rfl, rfl⟩
theorem Answers.detachMsExpire (id) : Answers.Statement (.detachMsExpire id) := fun _ => ⟨_, rfl, rfl⟩
theorem Answers.chainPortDown (d) : Answers.Statement (.chainPortDown d) := fun _ => ⟨_, rfl, rfl⟩
theorem Answers.fold (u) (d) : Answers.Statement (.fold u d) := fun _ => ⟨_, rfl, rfl⟩
theorem Answers.healHoldExpire (d) : Answers.Statement (.healHoldExpire d) := fun _ => ⟨_, rfl, rfl⟩
theorem Answers.heal (u) (d) : Answers.Statement (.heal u d) := fun _ => ⟨_, rfl, rfl⟩
theorem Answers.remoteTimeout (tag) (op) : Answers.Statement (.remoteTimeout tag op) := fun _ => ⟨_, rfl, rfl⟩
theorem Answers.read (t) (m) : Answers.Statement (.read t m) := fun _ => ⟨_, rfl, rfl⟩
theorem Answers.write (t) (m) : Answers.Statement (.write t m) := fun _ => ⟨_, rfl, rfl⟩
theorem Answers.atomic (t) (m) : Answers.Statement (.atomic t m) := fun _ => ⟨_, rfl, rfl⟩
theorem Answers.flush (m) : Answers.Statement (.flush m) := fun _ => ⟨_, rfl, rfl⟩
theorem Answers.rdata (m) : Answers.Statement (.rdata m) := fun _ => ⟨_, rfl, rfl⟩
theorem Answers.ack (m) : Answers.Statement (.ack m) := fun _ => ⟨_, rfl, rfl⟩
theorem Answers.atomResult (m) : Answers.Statement (.atomResult m) := fun _ => ⟨_, rfl, rfl⟩
theorem Answers.nack (m) : Answers.Statement (.nack m) := fun _ => ⟨_, rfl, rfl⟩
theorem Answers.regRead (m) : Answers.Statement (.regRead m) := fun _ => ⟨_, rfl, rfl⟩
theorem Answers.regWrite (t) (m) (srOk) : Answers.Statement (.regWrite t m srOk) := fun _ => ⟨_, rfl, rfl⟩
theorem Answers.regResult (m) : Answers.Statement (.regResult m) := fun _ => ⟨_, rfl, rfl⟩
theorem Answers.irqFwd (u) (vec) : Answers.Statement (.irqFwd u vec) := fun _ => ⟨_, rfl, rfl⟩
theorem Answers.decision (u) (pid) (confirm) (lateRoi) : Answers.Statement (.decision u pid confirm lateRoi) := fun _ => ⟨_, rfl, rfl⟩
theorem Answers.proxyRead : Answers.Statement (.proxyRead) := fun _ => ⟨_, rfl, rfl⟩
theorem Answers.proxyWrite : Answers.Statement (.proxyWrite) := fun _ => ⟨_, rfl, rfl⟩
theorem Answers.proxyTimeout : Answers.Statement (.proxyTimeout) := fun _ => ⟨_, rfl, rfl⟩
theorem Answers.chnProxyIrqWrite (u) (v) : Answers.Statement (.chnProxyIrqWrite u v) := fun _ => ⟨_, rfl, rfl⟩
theorem Answers.replayWindowEnd (d) (resent) : Answers.Statement (.replayWindowEnd d resent) := fun _ => ⟨_, rfl, rfl⟩
theorem Answers.upshiftTimerExpire (d) : Answers.Statement (.upshiftTimerExpire d) := fun _ => ⟨_, rfl, rfl⟩
theorem Answers.retrainDone (d) (ok) : Answers.Statement (.retrainDone d ok) := fun _ => ⟨_, rfl, rfl⟩
theorem Answers.stockAccess (t) (a) : Answers.Statement (.stockAccess t a) := fun _ => ⟨_, rfl, rfl⟩
theorem Answers.provisionalLoadWait (n) (addr) : Answers.Statement (.provisionalLoadWait n addr) := fun _ => ⟨_, rfl, rfl⟩
theorem Answers.wcLineTimeout (t) (line) : Answers.Statement (.wcLineTimeout t line) := fun _ => ⟨_, rfl, rfl⟩
theorem Answers.leafFillDone (leaf) (bad) : Answers.Statement (.leafFillDone leaf bad) := fun _ => ⟨_, rfl, rfl⟩
theorem Answers.leafWritebackDone (leaf) (programOk) : Answers.Statement (.leafWritebackDone leaf programOk) := fun _ => ⟨_, rfl, rfl⟩
theorem Answers.idleWriteback : Answers.Statement (.idleWriteback) := fun _ => ⟨_, rfl, rfl⟩
theorem Answers.pinRangeEnable (r) : Answers.Statement (.pinRangeEnable r) := fun _ => ⟨_, rfl, rfl⟩
theorem Answers.pinRangeDisable (r) : Answers.Statement (.pinRangeDisable r) := fun _ => ⟨_, rfl, rfl⟩
theorem Answers.dramBusyWindow (busyPct) : Answers.Statement (.dramBusyWindow busyPct) := fun _ => ⟨_, rfl, rfl⟩
theorem Answers.flashBusyWindow (busyPct) : Answers.Statement (.flashBusyWindow busyPct) := fun _ => ⟨_, rfl, rfl⟩
theorem Answers.guardBwWindow (waiting) (share) : Answers.Statement (.guardBwWindow waiting share) := fun _ => ⟨_, rfl, rfl⟩
theorem Answers.grdPairEnable (k) (v) : Answers.Statement (.grdPairEnable k v) := fun _ => ⟨_, rfl, rfl⟩
theorem Answers.inlineEccInitDone : Answers.Statement (.inlineEccInitDone) := fun _ => ⟨_, rfl, rfl⟩
theorem Answers.guardSlotEnd : Answers.Statement (.guardSlotEnd) := fun _ => ⟨_, rfl, rfl⟩
theorem Answers.guardPublish (t) (e) : Answers.Statement (.guardPublish t e) := fun _ => ⟨_, rfl, rfl⟩
theorem Answers.guardDeadline (t) (e) : Answers.Statement (.guardDeadline t e) := fun _ => ⟨_, rfl, rfl⟩
theorem Answers.grdRearm (v) : Answers.Statement (.grdRearm v) := fun _ => ⟨_, rfl, rfl⟩
theorem Answers.bistRequest (mask) : Answers.Statement (.bistRequest mask) := fun _ => ⟨_, rfl, rfl⟩
theorem Answers.periodicBistTimer (n) : Answers.Statement (.periodicBistTimer n) := fun _ => ⟨_, rfl, rfl⟩
theorem Answers.bistSegmentStart (n) : Answers.Statement (.bistSegmentStart n) := fun _ => ⟨_, rfl, rfl⟩
theorem Answers.bistSegmentEnd (t) (n) (faults) : Answers.Statement (.bistSegmentEnd t n faults) := fun _ => ⟨_, rfl, rfl⟩
theorem Answers.fenceNow (t) (v) : Answers.Statement (.fenceNow t v) := fun _ => ⟨_, rfl, rfl⟩
theorem Answers.clearSoft (v) : Answers.Statement (.clearSoft v) := fun _ => ⟨_, rfl, rfl⟩
theorem Answers.softTableWrite : Answers.Statement (.softTableWrite) := fun _ => ⟨_, rfl, rfl⟩
theorem Answers.heartbeatSend : Answers.Statement (.heartbeatSend) := fun _ => ⟨_, rfl, rfl⟩
theorem Answers.heartbeat (src) (role) (lastN) (epoch) : Answers.Statement (.heartbeat src role lastN epoch) := fun _ => ⟨_, rfl, rfl⟩
theorem Answers.peerLoss (t) (us) : Answers.Statement (.peerLoss t us) := fun _ => ⟨_, rfl, rfl⟩
theorem Answers.ckptGo (t) : Answers.Statement (.ckptGo t) := fun _ => ⟨_, rfl, rfl⟩
theorem Answers.ckptPeriod (t) : Answers.Statement (.ckptPeriod t) := fun _ => ⟨_, rfl, rfl⟩
theorem Answers.adopt : Answers.Statement (.adopt) := fun _ => ⟨_, rfl, rfl⟩
theorem Answers.adoptDone : Answers.Statement (.adoptDone) := fun _ => ⟨_, rfl, rfl⟩
theorem Answers.freezeNAssert (t) : Answers.Statement (.freezeNAssert t) := fun _ => ⟨_, rfl, rfl⟩
theorem Answers.dbgFreezeGo (t) (v) : Answers.Statement (.dbgFreezeGo t v) := fun _ => ⟨_, rfl, rfl⟩
theorem Answers.memFreeze (srOk) : Answers.Statement (.memFreeze srOk) := fun _ => ⟨_, rfl, rfl⟩
theorem Answers.selfRefreshTimeout : Answers.Statement (.selfRefreshTimeout) := fun _ => ⟨_, rfl, rfl⟩
theorem Answers.extest : Answers.Statement (.extest) := fun _ => ⟨_, rfl, rfl⟩
theorem Answers.idcode : Answers.Statement (.idcode) := fun _ => ⟨_, rfl, rfl⟩
theorem Answers.samplePreload (load) : Answers.Statement (.samplePreload load) := fun _ => ⟨_, rfl, rfl⟩
theorem Answers.dbgStatus : Answers.Statement (.dbgStatus) := fun _ => ⟨_, rfl, rfl⟩
theorem Answers.dbgChallenge : Answers.Statement (.dbgChallenge) := fun _ => ⟨_, rfl, rfl⟩
theorem Answers.dbgResponse (data) : Answers.Statement (.dbgResponse data) := fun _ => ⟨_, rfl, rfl⟩
theorem Answers.scanSel (v) : Answers.Statement (.scanSel v) := fun _ => ⟨_, rfl, rfl⟩
theorem Answers.scanRead (bits) : Answers.Statement (.scanRead bits) := fun _ => ⟨_, rfl, rfl⟩
theorem Answers.sramAddr (v) : Answers.Statement (.sramAddr v) := fun _ => ⟨_, rfl, rfl⟩
theorem Answers.sramData : Answers.Statement (.sramData) := fun _ => ⟨_, rfl, rfl⟩
theorem Answers.thaw (freezeCount) : Answers.Statement (.thaw freezeCount) := fun _ => ⟨_, rfl, rfl⟩
theorem Answers.stopReset : Answers.Statement (.stopReset) := fun _ => ⟨_, rfl, rfl⟩
theorem Answers.bypass : Answers.Statement (.bypass) := fun _ => ⟨_, rfl, rfl⟩
theorem Answers.vddCoreAboveWarn (t) (mv) : Answers.Statement (.vddCoreAboveWarn t mv) := fun _ => ⟨_, rfl, rfl⟩
theorem Answers.vddCoreBelowClear (t) (mv) : Answers.Statement (.vddCoreBelowClear t mv) := fun _ => ⟨_, rfl, rfl⟩
theorem Answers.highSpeedTransmissionEnd (p) : Answers.Statement (.highSpeedTransmissionEnd p) := fun _ => ⟨_, rfl, rfl⟩
theorem Answers.laneSpareSwapDone (d) : Answers.Statement (.laneSpareSwapDone d) := fun _ => ⟨_, rfl, rfl⟩
theorem Answers.tapReset : Answers.Statement (.tapReset) := fun _ => ⟨_, rfl, rfl⟩

theorem Rests.registerWrite (t) (off) (half) (v) : Rests.Statement (.registerWrite t off half v) := fun _ s h => State.live_halted s _ h
theorem Rests.bar0BadAccess (write) (off) (size) : Rests.Statement (.bar0BadAccess write off size) := fun _ s h => State.live_halted s _ h
theorem Rests.arcNoticeStatusWrite (v) : Rests.Statement (.arcNoticeStatusWrite v) := fun _ s h => State.host_halted s _ h
theorem Rests.arcNoticeMaskWrite (v) : Rests.Statement (.arcNoticeMaskWrite v) := fun _ s h => State.host_halted s _ h
theorem Rests.aonPowerOn : Rests.Statement (.aonPowerOn) := fun h => Bool.noConfusion h
theorem Rests.boardReset : Rests.Statement (.boardReset) := fun h => Bool.noConfusion h
theorem Rests.resetNRise (root) (addr0) (addr1) : Rests.Statement (.resetNRise root addr0 addr1) := fun h => Bool.noConfusion h
theorem Rests.watchdogExpire : Rests.Statement (.watchdogExpire) := fun _ s h => State.live_halted s _ h
theorem Rests.warmReset (v) (srOk) : Rests.Statement (.warmReset v srOk) := fun _ s h => State.live_halted s _ h
theorem Rests.smbusWarmReset (srOk) : Rests.Statement (.smbusWarmReset srOk) := fun _ s h => State.live_halted s _ h
theorem Rests.pcieReset (perst) : Rests.Statement (.pcieReset perst) := fun h => Bool.noConfusion h
theorem Rests.perstNRise : Rests.Statement (.perstNRise) := fun h => Bool.noConfusion h
theorem Rests.pcieLinkUp : Rests.Statement (.pcieLinkUp) := fun _ s h => State.live_halted s _ h
theorem Rests.romPhase (us) : Rests.Statement (.romPhase us) := fun _ s h => State.live_halted s _ h
theorem Rests.otpPhase (us) (checkOk) : Rests.Statement (.otpPhase us checkOk) := fun _ s h => State.live_halted s _ h
theorem Rests.fwLoad (us) (readOk) : Rests.Statement (.fwLoad us readOk) := fun _ s h => State.live_halted s _ h
theorem Rests.fwVerify (us) : Rests.Statement (.fwVerify us) := fun _ s h => State.live_halted s _ h
theorem Rests.configPhase (us) : Rests.Statement (.configPhase us) := fun _ s h => State.live_halted s _ h
theorem Rests.bistRepairPhase (us) (faults) : Rests.Statement (.bistRepairPhase us faults) := fun _ s h => State.live_halted s _ h
theorem Rests.trainDram (us) (ok) : Rests.Statement (.trainDram us ok) := fun _ s h => State.live_halted s _ h
theorem Rests.trainFlash (us) (ok) : Rests.Statement (.trainFlash us ok) := fun _ s h => State.live_halted s _ h
theorem Rests.journalReplay (us) : Rests.Statement (.journalReplay us) := fun _ s h => State.live_halted s _ h
theorem Rests.serdesPhase (us) (ok) : Rests.Statement (.serdesPhase us ok) := fun _ s h => State.live_halted s _ h
theorem Rests.enumPhase : Rests.Statement (.enumPhase) := fun _ s h => State.live_halted s _ h
theorem Rests.enumWaitExpire (us) : Rests.Statement (.enumWaitExpire us) := fun _ s h => State.live_halted s _ h
theorem Rests.makereadyReady (readyUs) : Rests.Statement (.makereadyReady readyUs) := fun _ s h => State.live_halted s _ h
theorem Rests.chainRecordRewrite : Rests.Statement (.chainRecordRewrite) := fun _ s h => State.live_halted s _ h
theorem Rests.recRead : Rests.Statement (.recRead) := fun _ s h => State.live_halted s _ h
theorem Rests.recProgram : Rests.Statement (.recProgram) := fun _ s h => State.live_halted s _ h
theorem Rests.recErase : Rests.Statement (.recErase) := fun _ s h => State.live_halted s _ h
theorem Rests.recOpDone (ok) : Rests.Statement (.recOpDone ok) := fun _ s h => State.live_halted s _ h
theorem Rests.vddCoreBelowWarn (t) (mv) : Rests.Statement (.vddCoreBelowWarn t mv) := fun h => Bool.noConfusion h
theorem Rests.supplyWarnAssert (t) (mv) : Rests.Statement (.supplyWarnAssert t mv) := fun h => Bool.noConfusion h
theorem Rests.vddCoreAboveClear (t) (mv) : Rests.Statement (.vddCoreAboveClear t mv) := fun h => Bool.noConfusion h
theorem Rests.supplyWarnClear (t) : Rests.Statement (.supplyWarnClear t) := fun h => Bool.noConfusion h
theorem Rests.supplyReset (t) : Rests.Statement (.supplyReset t) := fun h => Bool.noConfusion h
theorem Rests.dvfsStepUp (p) : Rests.Statement (.dvfsStepUp p) := fun _ s h => State.live_halted s _ h
theorem Rests.dvfsSettleExpire : Rests.Statement (.dvfsSettleExpire) := fun _ s h => State.live_halted s _ h
theorem Rests.dvfsStepDown (p) : Rests.Statement (.dvfsStepDown p) := fun _ s h => State.live_halted s _ h
theorem Rests.pfailAssert (t) : Rests.Statement (.pfailAssert t) := fun h => Bool.noConfusion h
theorem Rests.pfailFlushDone (us) : Rests.Statement (.pfailFlushDone us) := fun _ s h => State.live_halted s _ h
theorem Rests.thermalSample (temps) : Rests.Statement (.thermalSample temps) := fun h => Bool.noConfusion h
theorem Rests.thermalStepDown : Rests.Statement (.thermalStepDown) := fun _ s h => State.live_halted s _ h
theorem Rests.thermalStepUp : Rests.Statement (.thermalStepUp) := fun _ s h => State.live_halted s _ h
theorem Rests.bar2Read (x) (n) : Rests.Statement (.bar2Read x n) := fun _ s h => State.live_halted s _ h
theorem Rests.bar2Write (t) (x) (data) : Rests.Statement (.bar2Write t x data) := fun _ s h => State.host_halted s _ h
theorem Rests.hstSqDbWrite (r) (v) : Rests.Statement (.hstSqDbWrite r v) := fun _ s h => State.host_halted s _ h
theorem Rests.hstCqDbWrite (r) (v) : Rests.Statement (.hstCqDbWrite r v) := fun _ s h => State.host_halted s _ h
theorem Rests.descriptorFetch (r) (ok) : Rests.Statement (.descriptorFetch r ok) := fun _ s h => State.live_halted s _ h
theorem Rests.nop (r) (slot) : Rests.Statement (.nop r slot) := fun _ s h => State.live_halted s _ h
theorem Rests.netLaunch (r) (slot) : Rests.Statement (.netLaunch r slot) := fun _ s h => State.live_halted s _ h
theorem Rests.netLaunchStart (t) (r) (slot) : Rests.Statement (.netLaunchStart t r slot) := fun _ s h => State.live_halted s _ h
theorem Rests.copy (t) (r) (slot) : Rests.Statement (.copy t r slot) := fun _ s h => State.live_halted s _ h
theorem Rests.folioAlloc (r) (slot) : Rests.Statement (.folioAlloc r slot) := fun _ s h => State.live_halted s _ h
theorem Rests.folioFree (r) (slot) : Rests.Statement (.folioFree r slot) := fun _ s h => State.live_halted s _ h
theorem Rests.folioSwapOut (r) (slot) : Rests.Statement (.folioSwapOut r slot) := fun _ s h => State.live_halted s _ h
theorem Rests.folioSwapIn (r) (slot) : Rests.Statement (.folioSwapIn r slot) := fun _ s h => State.live_halted s _ h
theorem Rests.swapOutDone (q) : Rests.Statement (.swapOutDone q) := fun _ s h => State.live_halted s _ h
theorem Rests.swapInDone (q) : Rests.Statement (.swapInDone q) := fun _ s h => State.live_halted s _ h
theorem Rests.poolRead (t) (r) (slot) : Rests.Statement (.poolRead t r slot) := fun _ s h => State.live_halted s _ h
theorem Rests.poolWrite (t) (r) (slot) : Rests.Statement (.poolWrite t r slot) := fun _ s h => State.live_halted s _ h
theorem Rests.poolAtomic (t) (r) (slot) : Rests.Statement (.poolAtomic t r slot) := fun _ s h => State.live_halted s _ h
theorem Rests.trgSched (t) (r) (slot) : Rests.Statement (.trgSched t r slot) := fun _ s h => State.live_halted s _ h
theorem Rests.trgSchedPlace (t) (r) (slot) : Rests.Statement (.trgSchedPlace t r slot) := fun _ s h => State.live_halted s _ h
theorem Rests.epochMark (t) (r) (slot) : Rests.Statement (.epochMark t r slot) := fun _ s h => State.live_halted s _ h
theorem Rests.fence (r) (slot) : Rests.Statement (.fence r slot) := fun _ s h => State.live_halted s _ h
theorem Rests.launchTimeout (r) (slot) : Rests.Statement (.launchTimeout r slot) := fun _ s h => State.live_halted s _ h
theorem Rests.completionWrite (t) (r) (ok) : Rests.Statement (.completionWrite t r ok) := fun _ s h => State.live_halted s _ h
theorem Rests.coalTimerExpire (r) : Rests.Statement (.coalTimerExpire r) := fun _ s h => State.live_halted s _ h
theorem Rests.ringEnable (r) : Rests.Statement (.ringEnable r) := fun _ s h => State.host_halted s _ h
theorem Rests.ringDrain (r) : Rests.Statement (.ringDrain r) := fun _ s h => State.host_halted s _ h
theorem Rests.ringDrainFlush (r) : Rests.Statement (.ringDrainFlush r) := fun _ s h => State.host_halted s _ h
theorem Rests.ringDrainDone (r) : Rests.Statement (.ringDrainDone r) := fun _ s h => State.live_halted s _ h
theorem Rests.galleyPush (g) (w) (endMark) : Rests.Statement (.galleyPush g w endMark) := fun _ s h => State.live_halted s _ h
theorem Rests.galleyPop (g) (ecc) : Rests.Statement (.galleyPop g ecc) := fun _ s h => State.live_halted s _ h
theorem Rests.galleyAbandon (g) : Rests.Statement (.galleyAbandon g) := fun _ s h => State.live_halted s _ h
theorem Rests.galleyFlush (g) : Rests.Statement (.galleyFlush g) := fun _ s h => State.host_halted s _ h
theorem Rests.galleyFaultReset (g) (readSide) : Rests.Statement (.galleyFaultReset g readSide) := fun _ s h => State.live_halted s _ h
theorem Rests.galHostTxData (v) : Rests.Statement (.galHostTxData v) := fun _ s h => State.host_halted s _ h
theorem Rests.galHostTxLast (v) : Rests.Statement (.galHostTxLast v) := fun _ s h => State.host_halted s _ h
theorem Rests.galHostRxData (form) : Rests.Statement (.galHostRxData form) := fun _ s h => State.hostRd_halted s _ _ h
theorem Rests.hostRxEmptyTimeout : Rests.Statement (.hostRxEmptyTimeout) := fun _ s h => State.live_halted s _ h
theorem Rests.gutterTransfer (x) (w) (ecc) : Rests.Statement (.gutterTransfer x w ecc) := fun _ s h => State.live_halted s _ h
theorem Rests.togglePulse (x) (acked) : Rests.Statement (.togglePulse x acked) := fun _ s h => State.live_halted s _ h
theorem Rests.dtlCapture (t) (v) : Rests.Statement (.dtlCapture t v) := fun _ s h => State.host_halted s _ h
theorem Rests.dtlRateWrite (t) (v) : Rests.Statement (.dtlRateWrite t v) := fun _ s h => State.host_halted s _ h
theorem Rests.dtlSlewWrite (t) (v) : Rests.Statement (.dtlSlewWrite t v) := fun _ s h => State.host_halted s _ h
theorem Rests.dtlSet (t) : Rests.Statement (.dtlSet t) := fun _ s h => State.host_halted s _ h
theorem Rests.dtlSetAtPps : Rests.Statement (.dtlSetAtPps) := fun _ s h => State.host_halted s _ h
theorem Rests.dtlUnset (t) : Rests.Statement (.dtlUnset t) := fun _ s h => State.host_halted s _ h
theorem Rests.ppsInEdge (t) (sub) : Rests.Statement (.ppsInEdge t sub) := fun _ s h => State.live_halted s _ h
theorem Rests.refSample (t) (r) (theta) : Rests.Statement (.refSample t r theta) := fun _ s h => State.live_halted s _ h
theorem Rests.refLossTimeout (t) (r) : Rests.Statement (.refLossTimeout t r) := fun _ s h => State.live_halted s _ h
theorem Rests.refHoldoffExpire (t) (r) : Rests.Statement (.refHoldoffExpire t r) := fun _ s h => State.live_halted s _ h
theorem Rests.switchCommit (t) : Rests.Statement (.switchCommit t) := fun _ s h => State.live_halted s _ h
theorem Rests.ppsOutRise (t) : Rests.Statement (.ppsOutRise t) := fun _ s h => State.live_halted s _ h
theorem Rests.ppsOutFall (t) : Rests.Statement (.ppsOutFall t) := fun _ s h => State.live_halted s _ h
theorem Rests.evtEdge (t) (n) (rise) (sub) : Rests.Statement (.evtEdge t n rise sub) := fun _ s h => State.live_halted s _ h
theorem Rests.dtlEvtRead (n) : Rests.Statement (.dtlEvtRead n) := fun _ s h => State.hostRd_halted s _ _ h
theorem Rests.trgEdge (t) (n) : Rests.Statement (.trgEdge t n) := fun _ s h => State.live_halted s _ h
theorem Rests.epochClockEnable (t) (v) : Rests.Statement (.epochClockEnable t v) := fun _ s h => State.host_halted s _ h
theorem Rests.epochOpen (t) : Rests.Statement (.epochOpen t) := fun _ s h => State.live_halted s _ h
theorem Rests.aonTimeRecord (t) (coarse) : Rests.Statement (.aonTimeRecord t coarse) := fun _ s h => State.live_halted s _ h
theorem Rests.dtlConv (t) (v) : Rests.Statement (.dtlConv t v) := fun _ s h => State.host_halted s _ h
theorem Rests.ptpRxMessage (t) (p) (sub) (frame) : Rests.Statement (.ptpRxMessage t p sub frame) := fun _ s h => State.live_halted s _ h
theorem Rests.ptpTxMessage (t) (p) (sub) (frame) : Rests.Statement (.ptpTxMessage t p sub frame) := fun _ s h => State.live_halted s _ h
theorem Rests.tcForward (t) (p) (f) : Rests.Statement (.tcForward t p f) := fun _ s h => State.live_halted s _ h
theorem Rests.tcEntryExpire (p) (key) : Rests.Statement (.tcEntryExpire p key) := fun _ s h => State.live_halted s _ h
theorem Rests.masterSyncTx (t) (p) : Rests.Statement (.masterSyncTx t p) := fun _ s h => State.live_halted s _ h
theorem Rests.masterAnnounceTx (t) (p) : Rests.Statement (.masterAnnounceTx t p) := fun _ s h => State.live_halted s _ h
theorem Rests.ptpPortEnable (p) : Rests.Statement (.ptpPortEnable p) := fun _ s h => State.host_halted s _ h
theorem Rests.csi2LongHeader (t) (p) (ecc) (vc) (dt) (wc) : Rests.Statement (.csi2LongHeader t p ecc vc dt wc) := fun _ s h => State.live_halted s _ h
theorem Rests.csi2PacketEnd (t) (p) (payload) (crcOk) : Rests.Statement (.csi2PacketEnd t p payload crcOk) := fun _ s h => State.live_halted s _ h
theorem Rests.csi2SotErr (p) : Rests.Statement (.csi2SotErr p) := fun _ s h => State.live_halted s _ h
theorem Rests.csi2FrameStart (t) (p) (vc) (frame) : Rests.Statement (.csi2FrameStart t p vc frame) := fun _ s h => State.live_halted s _ h
theorem Rests.csi2FrameEnd (t) (p) (vc) (frame) : Rests.Statement (.csi2FrameEnd t p vc frame) := fun _ s h => State.live_halted s _ h
theorem Rests.ethFrameRx (t) (p) (frame) (fcsOk) : Rests.Statement (.ethFrameRx t p frame fcsOk) := fun _ s h => State.live_halted s _ h
theorem Rests.encEdge (t) (n) (a) (b) : Rests.Statement (.encEdge t n a b) := fun _ s h => State.live_halted s _ h
theorem Rests.encZEdge (t) (n) : Rests.Statement (.encZEdge t n) := fun _ s h => State.live_halted s _ h
theorem Rests.encPeriodItem (n) : Rests.Statement (.encPeriodItem n) := fun _ s h => State.live_halted s _ h
theorem Rests.imuDrdyEdge (t) (i) (rise) : Rests.Statement (.imuDrdyEdge t i rise) := fun _ s h => State.live_halted s _ h
theorem Rests.imuPeriod (t) (i) : Rests.Statement (.imuPeriod t i) := fun _ s h => State.live_halted s _ h
theorem Rests.imuScriptEnd (i) (miso) : Rests.Statement (.imuScriptEnd i miso) := fun _ s h => State.live_halted s _ h
theorem Rests.ingPortEnable (p) : Rests.Statement (.ingPortEnable p) := fun _ s h => State.host_halted s _ h
theorem Rests.ingPortDisable (p) : Rests.Statement (.ingPortDisable p) := fun _ s h => State.host_halted s _ h
theorem Rests.mdioAddress (v) : Rests.Statement (.mdioAddress v) := fun _ s h => State.host_halted s _ h
theorem Rests.mdioWrite (v) : Rests.Statement (.mdioWrite v) := fun _ s h => State.host_halted s _ h
theorem Rests.mdioRead (v) : Rests.Statement (.mdioRead v) := fun _ s h => State.host_halted s _ h
theorem Rests.mdioFrameDone (data) : Rests.Statement (.mdioFrameDone data) := fun _ s h => State.live_halted s _ h
theorem Rests.regItem (t) (g) : Rests.Statement (.regItem t g) := fun _ s h => State.live_halted s _ h
theorem Rests.calLoad : Rests.Statement (.calLoad) := fun _ s h => State.host_halted s _ h
theorem Rests.calLoadDone : Rests.Statement (.calLoadDone) := fun _ s h => State.live_halted s _ h
theorem Rests.gridEnable : Rests.Statement (.gridEnable) := fun _ s h => State.host_halted s _ h
theorem Rests.reseed : Rests.Statement (.reseed) := fun _ s h => State.host_halted s _ h
theorem Rests.epochSeal (t) (e) : Rests.Statement (.epochSeal t e) := fun _ s h => State.live_halted s _ h
theorem Rests.epochFinalise (t) (e) : Rests.Statement (.epochFinalise t e) := fun _ s h => State.live_halted s _ h
theorem Rests.slugIssue (t) (n) : Rests.Statement (.slugIssue t n) := fun _ s h => State.live_halted s _ h
theorem Rests.slotNop (n) (slot) : Rests.Statement (.slotNop n slot) := fun _ s h => State.live_halted s _ h
theorem Rests.add (n) (rd) (ra) (rb) : Rests.Statement (.add n rd ra rb) := fun _ s h => State.live_halted s _ h
theorem Rests.addi (n) (rd) (ra) (imm) : Rests.Statement (.addi n rd ra imm) := fun _ s h => State.live_halted s _ h
theorem Rests.sub (n) (rd) (ra) (rb) : Rests.Statement (.sub n rd ra rb) := fun _ s h => State.live_halted s _ h
theorem Rests.and (n) (rd) (ra) (rb) : Rests.Statement (.and n rd ra rb) := fun _ s h => State.live_halted s _ h
theorem Rests.or (n) (rd) (ra) (rb) : Rests.Statement (.or n rd ra rb) := fun _ s h => State.live_halted s _ h
theorem Rests.xor (n) (rd) (ra) (rb) : Rests.Statement (.xor n rd ra rb) := fun _ s h => State.live_halted s _ h
theorem Rests.shl (n) (rd) (ra) (by_) : Rests.Statement (.shl n rd ra by_) := fun _ s h => State.live_halted s _ h
theorem Rests.shr (n) (rd) (ra) (by_) : Rests.Statement (.shr n rd ra by_) := fun _ s h => State.live_halted s _ h
theorem Rests.sar (n) (rd) (ra) (by_) : Rests.Statement (.sar n rd ra by_) := fun _ s h => State.live_halted s _ h
theorem Rests.mul (n) (rd) (ra) (rb) : Rests.Statement (.mul n rd ra rb) := fun _ s h => State.live_halted s _ h
theorem Rests.movi (n) (rd) (imm) : Rests.Statement (.movi n rd imm) := fun _ s h => State.live_halted s _ h
theorem Rests.movhi (n) (rd) (ra) (imm) : Rests.Statement (.movhi n rd ra imm) := fun _ s h => State.live_halted s _ h
theorem Rests.cmp (n) (pd) (c) (ra) (rb) : Rests.Statement (.cmp n pd c ra rb) := fun _ s h => State.live_halted s _ h
theorem Rests.cmpi (n) (pd) (c) (ra) (imm) : Rests.Statement (.cmpi n pd c ra imm) := fun _ s h => State.live_halted s _ h
theorem Rests.plog (n) (pd) (op) (pa) (pb) : Rests.Statement (.plog n pd op pa pb) := fun _ s h => State.live_halted s _ h
theorem Rests.br (n) (imm) : Rests.Statement (.br n imm) := fun _ s h => State.live_halted s _ h
theorem Rests.jr (n) (ra) : Rests.Statement (.jr n ra) := fun _ s h => State.live_halted s _ h
theorem Rests.call (n) (imm) : Rests.Statement (.call n imm) := fun _ s h => State.live_halted s _ h
theorem Rests.loop (n) (rd) (imm) : Rests.Statement (.loop n rd imm) := fun _ s h => State.live_halted s _ h
theorem Rests.gwait (n) (onEnd) (words) : Rests.Statement (.gwait n onEnd words) := fun _ s h => State.live_halted s _ h
theorem Rests.gcount (n) (rd) : Rests.Statement (.gcount n rd) := fun _ s h => State.live_halted s _ h
theorem Rests.gpop (n) (rd) (pd) : Rests.Statement (.gpop n rd pd) := fun _ s h => State.live_halted s _ h
theorem Rests.ctlFence (n) (kind) : Rests.Statement (.ctlFence n kind) := fun _ s h => State.live_halted s _ h
theorem Rests.bwait (n) (mask) : Rests.Statement (.bwait n mask) := fun _ s h => State.live_halted s _ h
theorem Rests.rdsr (n) (rd) (idx) : Rests.Statement (.rdsr n rd idx) := fun _ s h => State.live_halted s _ h
theorem Rests.trap (n) : Rests.Statement (.trap n) := fun _ s h => State.live_halted s _ h
theorem Rests.resume (n) (ra) : Rests.Statement (.resume n ra) := fun _ s h => State.live_halted s _ h
theorem Rests.endSlot (n) : Rests.Statement (.endSlot n) := fun _ s h => State.live_halted s _ h
theorem Rests.wload (n) (f) : Rests.Statement (.wload n f) := fun _ s h => State.live_halted s _ h
theorem Rests.run (n) (f) (build) : Rests.Statement (.run n f build) := fun _ s h => State.live_halted s _ h
theorem Rests.build (n) (b) : Rests.Statement (.build n b) := fun _ s h => State.live_halted s _ h
theorem Rests.peek (n) (group) (plane) (addr) : Rests.Statement (.peek n group plane addr) := fun _ s h => State.live_halted s _ h
theorem Rests.vld (n) (vd) (gb) (addr) : Rests.Statement (.vld n vd gb addr) := fun _ s h => State.live_halted s _ h
theorem Rests.vst (n) (va) (gb) (addr) : Rests.Statement (.vst n va gb addr) := fun _ s h => State.live_halted s _ h
theorem Rests.vstp (n) (va) (gb) (addr) : Rests.Statement (.vstp n va gb addr) := fun _ s h => State.live_halted s _ h
theorem Rests.apop (n) (vd) (vc) (satv) : Rests.Statement (.apop n vd vc satv) := fun _ s h => State.live_halted s _ h
theorem Rests.sst (n) (va) (vb) (gb) (addr) : Rests.Statement (.sst n va vb gb addr) := fun _ s h => State.live_halted s _ h
theorem Rests.vmovg (n) (vd) (ga) : Rests.Statement (.vmovg n vd ga) := fun _ s h => State.live_halted s _ h
theorem Rests.gmovv (n) (gd) (va) : Rests.Statement (.gmovv n gd va) := fun _ s h => State.live_halted s _ h
theorem Rests.iadd (n) (vd) (va) (vb) : Rests.Statement (.iadd n vd va vb) := fun _ s h => State.live_halted s _ h
theorem Rests.isub (n) (vd) (va) (vb) : Rests.Statement (.isub n vd va vb) := fun _ s h => State.live_halted s _ h
theorem Rests.imul (n) (vd) (va) (vb) : Rests.Statement (.imul n vd va vb) := fun _ s h => State.live_halted s _ h
theorem Rests.imax (n) (vd) (va) (vb) : Rests.Statement (.imax n vd va vb) := fun _ s h => State.live_halted s _ h
theorem Rests.imin (n) (vd) (va) (vb) : Rests.Statement (.imin n vd va vb) := fun _ s h => State.live_halted s _ h
theorem Rests.fadd (n) (vd) (va) (vb) (bf) (rnd) : Rests.Statement (.fadd n vd va vb bf rnd) := fun _ s h => State.live_halted s _ h
theorem Rests.fsub (n) (vd) (va) (vb) (bf) (rnd) : Rests.Statement (.fsub n vd va vb bf rnd) := fun _ s h => State.live_halted s _ h
theorem Rests.fmul (n) (vd) (va) (vb) (bf) (rnd) : Rests.Statement (.fmul n vd va vb bf rnd) := fun _ s h => State.live_halted s _ h
theorem Rests.fma (n) (vd) (va) (vb) (vc) (bf) (rnd) : Rests.Statement (.fma n vd va vb vc bf rnd) := fun _ s h => State.live_halted s _ h
theorem Rests.fmax (n) (vd) (va) (vb) (bf) (rnd) : Rests.Statement (.fmax n vd va vb bf rnd) := fun _ s h => State.live_halted s _ h
theorem Rests.fmin (n) (vd) (va) (vb) (bf) (rnd) : Rests.Statement (.fmin n vd va vb bf rnd) := fun _ s h => State.live_halted s _ h
theorem Rests.req (n) (vd) (va) (vb) (sh) (z) (sout) (rnd) : Rests.Statement (.req n vd va vb sh z sout rnd) := fun _ s h => State.live_halted s _ h
theorem Rests.f2b (n) (vd) (va) (vb) (rnd) : Rests.Statement (.f2b n vd va vb rnd) := fun _ s h => State.live_halted s _ h
theorem Rests.b2f (n) (vd) (va) (high) : Rests.Statement (.b2f n vd va high) := fun _ s h => State.live_halted s _ h
theorem Rests.i2f (n) (vd) (va) : Rests.Statement (.i2f n vd va) := fun _ s h => State.live_halted s _ h
theorem Rests.exp (n) (vd) (va) : Rests.Statement (.exp n vd va) := fun _ s h => State.live_halted s _ h
theorem Rests.log (n) (vd) (va) : Rests.Statement (.log n vd va) := fun _ s h => State.live_halted s _ h
theorem Rests.frsum (n) (vd) (va) : Rests.Statement (.frsum n vd va) := fun _ s h => State.live_halted s _ h
theorem Rests.frmax (n) (vd) (va) : Rests.Statement (.frmax n vd va) := fun _ s h => State.live_halted s _ h
theorem Rests.irsum (n) (vd) (va) : Rests.Statement (.irsum n vd va) := fun _ s h => State.live_halted s _ h
theorem Rests.irmax (n) (vd) (va) : Rests.Statement (.irmax n vd va) := fun _ s h => State.live_halted s _ h
theorem Rests.hload (n) (f) : Rests.Statement (.hload n f) := fun _ s h => State.live_halted s _ h
theorem Rests.hrun (n) (f) : Rests.Statement (.hrun n f) := fun _ s h => State.live_halted s _ h
theorem Rests.sload (t) (n) (f) (provOk) : Rests.Statement (.sload t n f provOk) := fun _ s h => State.live_halted s _ h
theorem Rests.sstore (n) (f) (tagEpoch) : Rests.Statement (.sstore n f tagEpoch) := fun _ s h => State.live_halted s _ h
theorem Rests.satom (t) (n) (f) (tagEpoch) : Rests.Statement (.satom t n f tagEpoch) := fun _ s h => State.live_halted s _ h
theorem Rests.gsend (n) (f) : Rests.Statement (.gsend n f) := fun _ s h => State.live_halted s _ h
theorem Rests.grecv (n) (f) : Rests.Statement (.grecv n f) := fun _ s h => State.live_halted s _ h
theorem Rests.bcopy (n) (f) : Rests.Statement (.bcopy n f) := fun _ s h => State.live_halted s _ h
theorem Rests.icopy (n) (f) : Rests.Statement (.icopy n f) := fun _ s h => State.live_halted s _ h
theorem Rests.brick (n) (f) (tagEpoch) : Rests.Statement (.brick n f tagEpoch) := fun _ s h => State.live_halted s _ h
theorem Rests.fwalk (t) (n) (f) : Rests.Statement (.fwalk t n f) := fun _ s h => State.live_halted s _ h
theorem Rests.streamEnd (n) (sid) : Rests.Statement (.streamEnd n sid) := fun _ s h => State.live_halted s _ h
theorem Rests.storeBufferDrain (t) (n) : Rests.Statement (.storeBufferDrain t n) := fun _ s h => State.live_halted s _ h
theorem Rests.proofEndSkewTimeout (t) (k) : Rests.Statement (.proofEndSkewTimeout t k) := fun _ s h => State.live_halted s _ h
theorem Rests.launchStop (t) (r) (slot) (cause) : Rests.Statement (.launchStop t r slot cause) := fun _ s h => State.live_halted s _ h
theorem Rests.launchEnd (t) (r) (slot) : Rests.Statement (.launchEnd t r slot) := fun _ s h => State.live_halted s _ h
theorem Rests.prsClear (n) : Rests.Statement (.prsClear n) := fun _ s h => State.host_halted s _ h
theorem Rests.prsDropImage (n) : Rests.Statement (.prsDropImage n) := fun _ s h => State.host_halted s _ h
theorem Rests.chainLinkUp (d) (far) : Rests.Statement (.chainLinkUp d far) := fun _ s h => State.live_halted s _ h
theorem Rests.laneSpare (d) (lane) : Rests.Statement (.laneSpare d lane) := fun _ s h => State.live_halted s _ h
theorem Rests.chainMessageTx (d) : Rests.Statement (.chainMessageTx d) := fun _ s h => State.live_halted s _ h
theorem Rests.chainMessageRx (d) (h) (m) (crcOk) : Rests.Statement (.chainMessageRx d h m crcOk) := fun _ s h => State.live_halted s _ h
theorem Rests.linkNak (d) (seq) : Rests.Statement (.linkNak d seq) := fun _ s h => State.live_halted s _ h
theorem Rests.linkCredit (d) (ctrl) (req) (wdata) (resp) : Rests.Statement (.linkCredit d ctrl req wdata resp) := fun _ s h => State.live_halted s _ h
theorem Rests.enumProbe (d) (b) : Rests.Statement (.enumProbe d b) := fun _ s h => State.live_halted s _ h
theorem Rests.enumEnd (d) (b) : Rests.Statement (.enumEnd d b) := fun _ s h => State.live_halted s _ h
theorem Rests.enumDone (d) (b) : Rests.Statement (.enumDone d b) := fun _ s h => State.live_halted s _ h
theorem Rests.hopWaitExpire : Rests.Statement (.hopWaitExpire) := fun _ s h => State.live_halted s _ h
theorem Rests.announce (d) (sticky) (serial) : Rests.Statement (.announce d sticky serial) := fun _ s h => State.live_halted s _ h
theorem Rests.grant (id) (serial) (map) : Rests.Statement (.grant id serial map) := fun _ s h => State.live_halted s _ h
theorem Rests.detach (id) : Rests.Statement (.detach id) := fun _ s h => State.live_halted s _ h
theorem Rests.detachMsExpire (id) : Rests.Statement (.detachMsExpire id) := fun _ s h => State.live_halted s _ h
theorem Rests.chainPortDown (d) : Rests.Statement (.chainPortDown d) := fun _ s h => State.live_halted s _ h
theorem Rests.fold (u) (d) : Rests.Statement (.fold u d) := fun _ s h => State.live_halted s _ h
theorem Rests.healHoldExpire (d) : Rests.Statement (.healHoldExpire d) := fun _ s h => State.live_halted s _ h
theorem Rests.heal (u) (d) : Rests.Statement (.heal u d) := fun _ s h => State.live_halted s _ h
theorem Rests.remoteTimeout (tag) (op) : Rests.Statement (.remoteTimeout tag op) := fun _ s h => State.live_halted s _ h
theorem Rests.read (t) (m) : Rests.Statement (.read t m) := fun _ s h => State.live_halted s _ h
theorem Rests.write (t) (m) : Rests.Statement (.write t m) := fun _ s h => State.live_halted s _ h
theorem Rests.atomic (t) (m) : Rests.Statement (.atomic t m) := fun _ s h => State.live_halted s _ h
theorem Rests.flush (m) : Rests.Statement (.flush m) := fun _ s h => State.live_halted s _ h
theorem Rests.rdata (m) : Rests.Statement (.rdata m) := fun _ s h => State.live_halted s _ h
theorem Rests.ack (m) : Rests.Statement (.ack m) := fun _ s h => State.live_halted s _ h
theorem Rests.atomResult (m) : Rests.Statement (.atomResult m) := fun _ s h => State.live_halted s _ h
theorem Rests.nack (m) : Rests.Statement (.nack m) := fun _ s h => State.live_halted s _ h
theorem Rests.regRead (m) : Rests.Statement (.regRead m) := fun _ s h => State.live_halted s _ h
theorem Rests.regWrite (t) (m) (srOk) : Rests.Statement (.regWrite t m srOk) := fun _ s h => State.live_halted s _ h
theorem Rests.regResult (m) : Rests.Statement (.regResult m) := fun _ s h => State.live_halted s _ h
theorem Rests.irqFwd (u) (vec) : Rests.Statement (.irqFwd u vec) := fun _ s h => State.live_halted s _ h
theorem Rests.decision (u) (pid) (confirm) (lateRoi) : Rests.Statement (.decision u pid confirm lateRoi) := fun _ s h => State.live_halted s _ h
theorem Rests.proxyRead : Rests.Statement (.proxyRead) := fun _ s h => State.host_halted s _ h
theorem Rests.proxyWrite : Rests.Statement (.proxyWrite) := fun _ s h => State.host_halted s _ h
theorem Rests.proxyTimeout : Rests.Statement (.proxyTimeout) := fun _ s h => State.live_halted s _ h
theorem Rests.chnProxyIrqWrite (u) (v) : Rests.Statement (.chnProxyIrqWrite u v) := fun _ s h => State.host_halted s _ h
theorem Rests.replayWindowEnd (d) (resent) : Rests.Statement (.replayWindowEnd d resent) := fun _ s h => State.live_halted s _ h
theorem Rests.upshiftTimerExpire (d) : Rests.Statement (.upshiftTimerExpire d) := fun _ s h => State.live_halted s _ h
theorem Rests.retrainDone (d) (ok) : Rests.Statement (.retrainDone d ok) := fun _ s h => State.live_halted s _ h
theorem Rests.stockAccess (t) (a) : Rests.Statement (.stockAccess t a) := fun _ s h => State.live_halted s _ h
theorem Rests.provisionalLoadWait (n) (addr) : Rests.Statement (.provisionalLoadWait n addr) := fun _ s h => State.live_halted s _ h
theorem Rests.wcLineTimeout (t) (line) : Rests.Statement (.wcLineTimeout t line) := fun _ s h => State.live_halted s _ h
theorem Rests.leafFillDone (leaf) (bad) : Rests.Statement (.leafFillDone leaf bad) := fun _ s h => State.live_halted s _ h
theorem Rests.leafWritebackDone (leaf) (programOk) : Rests.Statement (.leafWritebackDone leaf programOk) := fun _ s h => State.live_halted s _ h
theorem Rests.idleWriteback : Rests.Statement (.idleWriteback) := fun _ s h => State.live_halted s _ h
theorem Rests.pinRangeEnable (r) : Rests.Statement (.pinRangeEnable r) := fun _ s h => State.host_halted s _ h
theorem Rests.pinRangeDisable (r) : Rests.Statement (.pinRangeDisable r) := fun _ s h => State.host_halted s _ h
theorem Rests.dramBusyWindow (busyPct) : Rests.Statement (.dramBusyWindow busyPct) := fun _ s h => State.live_halted s _ h
theorem Rests.flashBusyWindow (busyPct) : Rests.Statement (.flashBusyWindow busyPct) := fun _ s h => State.live_halted s _ h
theorem Rests.guardBwWindow (waiting) (share) : Rests.Statement (.guardBwWindow waiting share) := fun _ s h => State.live_halted s _ h
theorem Rests.grdPairEnable (k) (v) : Rests.Statement (.grdPairEnable k v) := fun _ s h => State.host_halted s _ h
theorem Rests.inlineEccInitDone : Rests.Statement (.inlineEccInitDone) := fun _ s h => State.live_halted s _ h
theorem Rests.guardSlotEnd : Rests.Statement (.guardSlotEnd) := fun _ s h => State.live_halted s _ h
theorem Rests.guardPublish (t) (e) : Rests.Statement (.guardPublish t e) := fun _ s h => State.live_halted s _ h
theorem Rests.guardDeadline (t) (e) : Rests.Statement (.guardDeadline t e) := fun _ s h => State.live_halted s _ h
theorem Rests.grdRearm (v) : Rests.Statement (.grdRearm v) := fun _ s h => State.host_halted s _ h
theorem Rests.bistRequest (mask) : Rests.Statement (.bistRequest mask) := fun _ s h => State.host_halted s _ h
theorem Rests.periodicBistTimer (n) : Rests.Statement (.periodicBistTimer n) := fun _ s h => State.live_halted s _ h
theorem Rests.bistSegmentStart (n) : Rests.Statement (.bistSegmentStart n) := fun _ s h => State.live_halted s _ h
theorem Rests.bistSegmentEnd (t) (n) (faults) : Rests.Statement (.bistSegmentEnd t n faults) := fun _ s h => State.live_halted s _ h
theorem Rests.fenceNow (t) (v) : Rests.Statement (.fenceNow t v) := fun _ s h => State.host_halted s _ h
theorem Rests.clearSoft (v) : Rests.Statement (.clearSoft v) := fun _ s h => State.host_halted s _ h
theorem Rests.softTableWrite : Rests.Statement (.softTableWrite) := fun _ s h => State.live_halted s _ h
theorem Rests.heartbeatSend : Rests.Statement (.heartbeatSend) := fun _ s h => State.live_halted s _ h
theorem Rests.heartbeat (src) (role) (lastN) (epoch) : Rests.Statement (.heartbeat src role lastN epoch) := fun _ s h => State.live_halted s _ h
theorem Rests.peerLoss (t) (us) : Rests.Statement (.peerLoss t us) := fun _ s h => State.live_halted s _ h
theorem Rests.ckptGo (t) : Rests.Statement (.ckptGo t) := fun _ s h => State.host_halted s _ h
theorem Rests.ckptPeriod (t) : Rests.Statement (.ckptPeriod t) := fun _ s h => State.live_halted s _ h
theorem Rests.adopt : Rests.Statement (.adopt) := fun _ s h => State.host_halted s _ h
theorem Rests.adoptDone : Rests.Statement (.adoptDone) := fun _ s h => State.live_halted s _ h
theorem Rests.freezeNAssert (t) : Rests.Statement (.freezeNAssert t) := fun _ s h => State.live_halted s _ h
theorem Rests.dbgFreezeGo (t) (v) : Rests.Statement (.dbgFreezeGo t v) := fun _ s h => State.host_halted s _ h
theorem Rests.memFreeze (srOk) : Rests.Statement (.memFreeze srOk) := fun h => Bool.noConfusion h
theorem Rests.selfRefreshTimeout : Rests.Statement (.selfRefreshTimeout) := fun h => Bool.noConfusion h
theorem Rests.extest : Rests.Statement (.extest) := fun h => Bool.noConfusion h
theorem Rests.idcode : Rests.Statement (.idcode) := fun h => Bool.noConfusion h
theorem Rests.samplePreload (load) : Rests.Statement (.samplePreload load) := fun h => Bool.noConfusion h
theorem Rests.dbgStatus : Rests.Statement (.dbgStatus) := fun h => Bool.noConfusion h
theorem Rests.dbgChallenge : Rests.Statement (.dbgChallenge) := fun h => Bool.noConfusion h
theorem Rests.dbgResponse (data) : Rests.Statement (.dbgResponse data) := fun h => Bool.noConfusion h
theorem Rests.scanSel (v) : Rests.Statement (.scanSel v) := fun h => Bool.noConfusion h
theorem Rests.scanRead (bits) : Rests.Statement (.scanRead bits) := fun h => Bool.noConfusion h
theorem Rests.sramAddr (v) : Rests.Statement (.sramAddr v) := fun h => Bool.noConfusion h
theorem Rests.sramData : Rests.Statement (.sramData) := fun h => Bool.noConfusion h
theorem Rests.thaw (freezeCount) : Rests.Statement (.thaw freezeCount) := fun h => Bool.noConfusion h
theorem Rests.stopReset : Rests.Statement (.stopReset) := fun h => Bool.noConfusion h
theorem Rests.bypass : Rests.Statement (.bypass) := fun h => Bool.noConfusion h
theorem Rests.vddCoreAboveWarn (t) (mv) : Rests.Statement (.vddCoreAboveWarn t mv) := fun h => Bool.noConfusion h
theorem Rests.vddCoreBelowClear (t) (mv) : Rests.Statement (.vddCoreBelowClear t mv) := fun h => Bool.noConfusion h
theorem Rests.highSpeedTransmissionEnd (p) : Rests.Statement (.highSpeedTransmissionEnd p) := fun _ s h => State.live_halted s _ h
theorem Rests.laneSpareSwapDone (d) : Rests.Statement (.laneSpareSwapDone d) := fun _ s h => State.live_halted s _ h
theorem Rests.tapReset : Rests.Statement (.tapReset) := fun h => Bool.noConfusion h

end Sys2Proof.Laws
end

