-- ==== Sys2Proof/Laws/Stock.lean ====
section
/-!
SUPPORT. What one stock access can change: the stock, the chain, registers and the host bus, and nothing else. Every agent's access goes
through stkDo, so that a proof about another part of the state cites this file and unfolds none of the tiers.
-/

namespace Sys2Proof.Machine

/-- From s to t only the stock, the chain, registers and the host bus changed. -/
def State.stockOnly (s t : State) : Prop := ∃ k c r b, t = { s with stk := k, chn := c, regs := r, bus := b }

namespace StockOnly

theorem refl (s : State) : s.stockOnly s := ⟨_, _, _, _, rfl⟩

theorem trans {s t u : State} (h : s.stockOnly t) (h' : t.stockOnly u) : s.stockOnly u := by
  obtain ⟨_, _, _, _, rfl⟩ := h
  obtain ⟨_, _, _, _, rfl⟩ := h'
  exact ⟨_, _, _, _, rfl⟩

theorem foldl {α : Type} (f : State → α → State) (hf : ∀ (s : State) x, s.stockOnly (f s x)) (l : List α) (s : State) :
    s.stockOnly (l.foldl f s) := by
  induction l generalizing s with
  | nil => exact refl s
  | cons x l ih => exact trans (hf s x) (ih _)

theorem ite {s a b : State} {c : Prop} [Decidable c] (ha : s.stockOnly a) (hb : s.stockOnly b) : s.stockOnly (if c then a else b) := by
  split
  · exact ha
  · exact hb

/-! ### Updates of one part -/

theorem setStk (s : State) (x : Stk) : s.stockOnly (s.setStk x) := ⟨_, _, _, _, rfl⟩
theorem setChn (s : State) (x : Chn) : s.stockOnly (s.setChn x) := ⟨_, _, _, _, rfl⟩
theorem setBus (s : State) (x : Bus) : s.stockOnly (s.setBus x) := ⟨_, _, _, _, rfl⟩
theorem setF (s : State) (f : Fld) (v : Nat) : s.stockOnly (s.setF f v) := ⟨_, _, _, _, rfl⟩
theorem incSat (s : State) (f : Fld) (n : Nat) : s.stockOnly (s.incSat f n) := ⟨_, _, _, _, rfl⟩
theorem incWrap (s : State) (f : Fld) (n : Nat) : s.stockOnly (s.incWrap f n) := ⟨_, _, _, _, rfl⟩
theorem setLeaf (s : State) (l : Nat) (x : Leaf) : s.stockOnly (s.setLeaf l x) := ⟨_, _, _, _, rfl⟩

/-! ### Accesses that wait, and their ends -/

theorem deny (s : State) (src : Nat) (g a : Bool) : s.stockOnly (s.deny src g a) := ⟨_, _, _, _, rfl⟩

theorem stkWait (s : State) (q : StkReq) (f : Option Fld) : s.stockOnly (s.stkWait q f).2 := by
  unfold State.stkWait
  dsimp only
  split
  · exact refl s
  · cases f <;> exact ⟨_, _, _, _, rfl⟩

theorem stkDone (s : State) (q : StkReq) : s.stockOnly (s.stkDone q) := setStk s _
theorem cleanse (s : State) (a n : Nat) : s.stockOnly (s.cleanse a n) := setStk s _
theorem poisonLines (s : State) (ls : List Nat) : s.stockOnly (s.poisonLines ls) := setStk s _
theorem pptMark (s : State) (o : Nat × Nat) (a n : Nat) : s.stockOnly (s.pptMark o a n) := setStk s _
theorem noteStore (s : State) (q : StkReq) : s.stockOnly (s.noteStore q) := setStk s _

/-! ### Leaves -/

theorem journal (s : State) : s.stockOnly s.journal := setStk s _
theorem program (s : State) (l : Nat) (d : Mem) : s.stockOnly (s.program l d) := ⟨_, _, _, _, rfl⟩
theorem writeBack (s : State) (l : Nat) : s.stockOnly (s.writeBack l) := trans (program s l _) (setStk _ _)
theorem evict (s : State) (l : Nat) : s.stockOnly (s.evict l) := setStk s _
theorem useLeaf (s : State) (l : Nat) : s.stockOnly (s.useLeaf l) := setStk s _

theorem startWriteBack (s : State) (l : Nat) : s.stockOnly (s.startWriteBack l) := by
  unfold State.startWriteBack
  split
  · exact refl s
  · exact setStk s _

theorem heldHot (s : State) (l : Nat) : s.stockOnly (s.heldHot l).2 := by
  unfold State.heldHot
  split
  · split
    · exact refl s
    · exact ⟨_, _, _, _, rfl⟩
  · exact refl s

theorem install (s : State) (l : Nat) : s.stockOnly (s.install l) :=
  trans (heldHot s l) (trans (setStk _ _) (incWrap _ _ _))

theorem keepPressure (s : State) : s.stockOnly s.keepPressure := by
  unfold State.keepPressure
  split
  · exact refl s
  · split
    · exact refl s
    · exact startWriteBack s _

theorem fill (s : State) (l : Nat) : s.stockOnly (s.fill l).2 := by
  unfold State.fill
  split
  · exact refl s
  split
  · exact install s l
  split
  · exact refl s
  · rename_i v x _
    split
    · exact refl s
    · dsimp only
      have h₁ : s.stockOnly (match oldest (s.setOf l) with
          | some (_, y) => if y.hot then s.incSat STK_PIN_STAT.PIN_HOLDS else s
          | none => s) := by
        split
        · exact ite (incSat _ _ _) (refl s)
        · exact refl s
      exact trans h₁ (trans (ite (writeBack _ _) (refl _)) (trans (evict _ v) (install _ l)))

theorem readLeaf (s : State) (l : Nat) : s.stockOnly (s.readLeaf l) := by
  unfold State.readLeaf
  split
  · exact trans (incWrap _ _ _) (useLeaf _ l)
  · dsimp only
    have h (x : Stk) : s.stockOnly ((s.incWrap STK_MISSES.MISSES).setStk x) := trans (incWrap s _ 1) (setStk _ x)
    split
    · exact h _
    split
    · exact trans (h _) (incSat _ _ _)
    split
    · exact h _
    split
    · exact trans (h _) (incSat _ _ _)
    · exact trans (h _) (setStk _ _)

theorem writeLeaf (s : State) (q : StkReq) (l off : Nat) (bs : List Byte) : s.stockOnly (s.writeLeaf q l off bs).2 := by
  unfold State.writeLeaf
  split
  · split
    · exact refl s
    · exact trans (trans (incWrap _ _ _) (incSat _ _ _)) (trans (setStk _ _) (journal _))
  · dsimp only
    have h₁ : s.stockOnly (if s.resident l then s.incWrap STK_HITS.HITS else s.incWrap STK_MISSES.MISSES) :=
      ite (incWrap _ _ _) (incWrap _ _ _)
    refine trans h₁ ?_
    generalize (if s.resident l then s.incWrap STK_HITS.HITS else s.incWrap STK_MISSES.MISSES) = t
    have h₂ := fill t l
    split
    · rename_i e; rw [e] at h₂; exact h₂
    · rename_i e
      rw [e] at h₂
      refine trans h₂ ?_
      split
      · exact stkWait _ _ _
      · exact trans (trans (setStk _ _) (setLeaf _ _ _)) (trans (useLeaf _ _) (keepPressure _))

theorem flashWrite (s : State) (q : StkReq) (off : Nat) (bs : List Byte) (ls : List Nat) : s.stockOnly (s.flashWrite q off bs ls).2 := by
  induction ls generalizing s with
  | nil => exact refl s
  | cons l ls ih =>
    simp only [State.flashWrite]
    have h := writeLeaf s q l (max off (l * leafBytes))
      (slice bs (max off (l * leafBytes) - off) (min (off + bs.length) (l * leafBytes + leafBytes) - max off (l * leafBytes)))
    split
    · rename_i e; rw [e] at h; exact h
    · rename_i e; rw [e] at h; exact trans h (ih _)

/-! ### The home unit -/

theorem eccRead (s : State) (q : StkReq) : s.stockOnly (s.eccRead q) := by
  unfold State.eccRead
  dsimp only
  split
  · exact refl s
  · exact ite (incSat _ _ _) (refl s)
  · exact ite (trans (trans (incSat _ _ _) (incSat _ _ _)) (poisonLines _ _)) (ite (trans (incSat _ _ _) (poisonLines _ _)) (refl s))

theorem homeRead (s : State) (q : StkReq) : s.stockOnly (s.homeRead q).2 := by
  unfold State.homeRead
  dsimp only
  split
  · exact stkWait _ _ _
  · have h : s.stockOnly (if stkTier q.addr = 1 then (leavesOf (stkOff q.addr) (accLen q.op)).foldl State.readLeaf ((s.eccRead q).stkDone q)
        else (s.eccRead q).stkDone q) := by
      have h₁ := trans (eccRead s q) (stkDone _ q)
      exact ite (trans h₁ (foldl _ readLeaf _ _)) h₁
    generalize (if stkTier q.addr = 1 then (leavesOf (stkOff q.addr) (accLen q.op)).foldl State.readLeaf ((s.eccRead q).stkDone q)
        else (s.eccRead q).stkDone q) = t at h
    split <;> exact h

theorem homeStore (s : State) (q : StkReq) (bs : List Byte) : s.stockOnly (s.homeStore q bs).2 := by
  unfold State.homeStore
  dsimp only
  split
  · exact setStk _ _
  · exact flashWrite _ _ _ _ _
  · exact setBus _ _

theorem homeWrite (s : State) (q : StkReq) (bs : List Byte) : s.stockOnly (s.homeWrite q bs).2 := by
  unfold State.homeWrite
  split
  · exact stkWait _ _ _
  split
  · exact stkWait _ _ _
  split
  · exact stkWait _ _ _
  · have h := homeStore s q bs
    split
    · rename_i e; rw [e] at h; exact h
    · rename_i t e
      rw [e] at h
      have h₁ := trans h (trans (cleanse t q.addr bs.length) (stkDone _ q))
      dsimp only
      split
      · exact h₁
      · exact trans h₁ (pptMark _ _ _ _)

theorem homeAtomic (s : State) (q : StkReq) : s.stockOnly (s.homeAtomic q).2 := by
  unfold State.homeAtomic
  split
  · exact stkWait _ _ _
  · dsimp only
    refine trans (eccRead s q) ?_
    generalize s.eccRead q = t
    split
    · exact stkDone _ _
    · split
      · rename_i e; have h := congrArg Prod.snd e; dsimp only at h; exact h ▸ homeStore _ _ _
      · rename_i e; have h := congrArg Prod.snd e; dsimp only at h; exact trans (h ▸ homeStore _ _ _) (stkDone _ _)

theorem homeDo (s : State) (q : StkReq) : s.stockOnly (s.homeDo q).2 := by
  unfold State.homeDo
  split
  · exact deny _ _ _ _
  split
  · exact stkWait _ _ _
  split
  · exact homeRead _ _
  · exact homeWrite _ _ _
  · exact homeAtomic _ _

/-! ### Other units -/

theorem sendReq (s : State) (agent : Nat) (m : Msg) : s.stockOnly (s.sendReq agent m) := ⟨_, _, _, _, rfl⟩

theorem askAll (s : State) (agent : Nat) (ms : List Msg) : s.stockOnly (s.askAll agent ms).2 := by
  unfold State.askAll
  dsimp only
  split
  · exact setChn _ _
  · exact foldl _ (fun s m => sendReq s agent m) _ _

theorem writeLost (s : State) (o : Outstanding) (a : StkAns) : s.stockOnly (s.writeLost o a) := by
  unfold State.writeLost
  exact ite (incSat _ _ _) (ite (refl s) (setChn _ _))

theorem wcLeave (s : State) (x : WcLine) : s.stockOnly (s.wcLeave x) := by
  unfold State.wcLeave
  dsimp only
  refine trans (setStk s _) (foldl _ (fun s r => ?_) _ _)
  exact ite (setBus _ _) (ite (sendReq _ _ _) (trans (incSat _ _ _) (writeLost _ _ _)))

theorem wcFlush (s : State) (p : WcLine → Bool) : s.stockOnly (s.wcFlush p) := foldl _ wcLeave _ _

theorem wcLine (s : State) (q : StkReq) (line o : Nat) (bs : List Byte) : s.stockOnly (s.wcLine q line o bs) := by
  unfold State.wcLine
  dsimp only
  refine trans (wcFlush s _) (ite (setStk _ _) (trans (ite (refl _) (foldl _ wcLeave _ _)) (setStk _ _)))

theorem wcWrite (s : State) (q : StkReq) (bs : List Byte) : s.stockOnly (s.wcWrite q bs) :=
  foldl _ (fun s l => wcLine s q l _ _) _ _

/-- One stock access, whatever it is and wherever it goes. -/
theorem stkDo (s : State) (q : StkReq) : s.stockOnly (s.stkDo q).2 := by
  have home := homeDo s q
  unfold State.stkDo
  dsimp only
  split
  · exact refl s
  split
  · split
    · split
      · split
        · exact deny _ _ _ _
        · split
          · exact stkWait _ _ _
          · exact trans (trans (wcWrite _ _ _) (noteStore _ _)) (stkDone _ _)
      · split
        · exact trans home (noteStore _ _)
        · exact home
    · split
      · exact trans home (noteStore _ _)
      · exact home
  split
  · exact deny _ _ _ _
  split
  · exact incSat _ _ _
  split
  · exact stkWait _ _ _
  split
  · exact stkWait _ _ _
  split
  · exact trans (trans (wcWrite _ _ _) (noteStore _ _)) (stkDone _ _)
  · exact askAll _ _ _
  · have h := askAll s q.agent [atomicMsg q]
    split
    · exact trans h (noteStore _ _)
    · exact h

theorem ownRead (s : State) (a n cls : Nat) : s.stockOnly (s.ownRead a n cls).2 := stkDo _ _
theorem ownWrite (s : State) (a : Nat) (bs : List Byte) (cls : Nat) : s.stockOnly (s.ownWrite a bs cls).2 := stkDo _ _
theorem ownAccess (s : State) (a : Nat) (op : AccessOp) : s.stockOnly (s.ownAccess a op).2 := stkDo _ _

/-! ### Parts of an agent's step -/

theorem agentDo (s : State) (a : Nat) (op : AccessOp) : s.stockOnly (s.agentDo a op).2 := by
  have h := ownAccess s a op
  unfold State.agentDo
  split
  rename_i e
  rw [e] at h
  split
  · exact h
  · exact refl s
  · exact refl s

theorem agentGet (s : State) (a n : Nat) : s.stockOnly (s.agentGet a n).2 := agentDo _ _ _

/-- A step goes on from a part that only the stock knows of. -/
theorem gotThen {α β : Type} {s : State} (r : Got α × State) (k : α → State → Got β × State) (hr : s.stockOnly r.2)
    (hk : ∀ x (t : State), s.stockOnly t → s.stockOnly (k x t).2) : s.stockOnly (Machine.gotThen r k).2 := by
  obtain ⟨g, t⟩ := r
  cases g with
  | ok x => exact hk x t hr
  | held a op => exact hr
  | bad a op => exact hr

theorem agentPut (s : State) (a : Nat) (bs : List Byte) : s.stockOnly (s.agentPut a bs).2 :=
  gotThen _ _ (agentDo _ _ _) (fun _ _ h => h)

theorem agentTry (s : State) (a : Nat) (bs : List Byte) : s.stockOnly (s.agentTry a bs).2 := by
  have h := agentPut s a bs
  unfold State.agentTry
  split
  · rename_i e
    rw [e] at h
    exact trans h (ownAccess _ _ _)
  · exact h

end StockOnly

/-! ### What follows for each other part of the state -/

/-- The parts of the state that no stock access touches. -/
theorem State.stockOnly_same {s t : State} (h : s.stockOnly t) :
    t.pending = s.pending ∧ t.free = s.free ∧ t.gals = s.gals ∧ t.dtl = s.dtl ∧ t.epochs = s.epochs ∧ t.pkg = s.pkg ∧ t.mkr = s.mkr ∧
    t.dbg = s.dbg ∧ t.ing = s.ing ∧ t.rgs = s.rgs ∧ t.presses = s.presses ∧ t.launches = s.launches ∧ t.rings = s.rings ∧
    t.scn = s.scn ∧ t.grd = s.grd ∧ t.rep = s.rep ∧ t.board = s.board ∧ t.otp = s.otp ∧ t.qspi = s.qspi := by
  obtain ⟨_, _, _, _, rfl⟩ := h
  exact ⟨rfl, rfl, rfl, rfl, rfl, rfl, rfl, rfl, rfl, rfl, rfl, rfl, rfl, rfl, rfl, rfl, rfl, rfl, rfl⟩

end Sys2Proof.Machine
end

