-- ==== Sys2Proof/Tests/Slice0.lean ====
section
/-!
SUPPORT. Tests: well-formedness, what commands do on small states, with values from the spec's tables and worked examples, and for each
statement with hypotheses states and operands that meet them, clause by clause where the clauses exclude each other.
-/

namespace Sys2Proof.Tests

open Sys2Proof Sys2Proof.Machine

set_option maxRecDepth 8000
-- One test is checked after another, so that few threads run at once.
set_option Elab.async false

/-! ### Small states -/

/-- A state with some fields set. -/
def withs (s : State) (fs : List (Fld × Nat)) : State := fs.foldl (fun s f => s.setF f.1 f.2) s

/-- An engine that has reached READY. -/
def up : State := withs State.reset [(MKR_STATUS.READY, 1), (MKR_STATUS.PHASE, phReady)]

/-- The same with some fields set. -/
def upWith (fs : List (Fld × Nat)) : State := withs up fs

/-- An engine in a phase of makeready. -/
def inPhase (p : Nat) : State := State.reset.setF MKR_STATUS.PHASE p

/-- A running engine whose ring 0 is as given. -/
def ringed (fs : List (Fld × Nat)) (x : Ring64) : State :=
  { upWith ([(HST_RING_CFG.SQ_LOG2 0, 4), (HST_RING_CFG.CQ_LOG2 0, 4)] ++ fs) with rings := State.reset.rings.set 0 x }

/-- A descriptor: its opcode, tag 5 and bytes from offset 8 on. -/
def descOf (op : Nat) (body : List Byte) : List Byte := slice (leBytes 4 op ++ leBytes 4 5 ++ body) 0 64

/-- An engine with one descriptor in flight on ring 0. -/
def flying (fs : List (Fld × Nat)) (f : Flight) : State := ringed fs { state := .active, flights := [f] }

/-- The flight of a descriptor. -/
def flightOf (op : Nat) (body : List Byte) : Flight := { slot := 0, tag := 5, desc := descOf op body }

/-- Press 0 as given, holding launch l. -/
def pressed (l : Launch) (p : PressSt) : State :=
  { up with presses := State.reset.presses.set 0 { p with mode := .running, launch := some (l.ring, l.tag) }, launches := [l] }

/-- A launch of ring 0 on press 0, outside the GUARD class. -/
def aLaunch : Launch :=
  { ring := 0, tag := 5, slot := 0, cls := 1, epoch := 7, mask := 1, presses := [(0, 0)], net := 0, started := true, hdr := { count := 4 } }

/-- What a command leads to. -/
def after (c : Instr) (s : State) : State := match exec c s with | .next t => t | _ => s

/-- MSI-X on and every vector open. -/
def messaging (s : State) : State := { s with bus := { s.bus with msixOn := true, vecMask := 0 } }

/-- A page of provisional lines of unit 3. -/
def held (s : State) (page : Nat) : State := { s with stk := { s.stk with ppt := [(page, { unit := 3, pid := 9, mask := 0xFFFFFFFFFFFFFFFF })] } }

/-- An engine with the default partition table, as makeready leaves it. -/
def home : State := up.partInit

/-! ### Witnesses: the block, makeready, resets -/

theorem witness_StepTakesTheFrontCommand :
    ({ State.reset with pending := [.aonPowerOn] } : State).pending = [.aonPowerOn] ∧ State.reset.pending = [] := by decide +kernel

theorem witness_EveryRunGoesOnInQueueOrder :
    ∀ c ∈ ({ State.reset with pending := [.aonPowerOn, .registerWrite 0 0x2000 .full 1] } : State).pending, c.wellFormed = true := by decide +kernel

theorem witness_RestingEngineDoesNothing :
    actsAtRest (.romPhase 1) = false ∧ ({ up with dbg := { freeze := .frozen } } : State).halted = true ∧
    ({ up with pkg := { tripped := true } } : State).halted = true ∧ ({ up with pkg := { resetLow := true } } : State).halted = true := by decide +kernel

theorem witness_HostWritesWaitForReady :
    State.reset.ready = false ∧ State.reset.halted = false ∧ inMkr 0x2000 = false ∧ inPcie 0x2000 = false := by decide +kernel

theorem witness_MakereadyLeadsToReady :
    (∀ p ∈ [phRom, phOtp, phFwLoad, phFwVerify, phConfig, phBist, phDram, phFlash, phJournal, phSerdes, phEnum],
      (inPhase p).halted = false ∧ (inPhase p).phase = p) ∧
    (inPhase phFwLoad).slotTried = 0 ∧
    (withs (inPhase phFwLoad) [(MKR_FW_STATUS.SLOT0_RESULT, 1)]).slotTried ≠ 0 ∧
    (let s := inPhase phEnum
     s.bitF MKR_STATUS.ENUM_DONE = false ∧ s.chn.walk.walking = false ∧ s.bitF CHN_ID.ROOT = false ∧ s.portUp 0 = false ∧ s.portUp 1 = false) ∧
    (withs (inPhase phEnum) [(CHN_ID.ROOT, 1)]).bitF CHN_ID.ROOT = true ∧
    (withs (inPhase phEnum) [(CHN_PORT_STAT.STATE 0, psUp)]).portUp 0 = true ∧
    1000 * (inPhase phEnum).getF MKR_BOOT_CFG.ENUM_WAIT_MS ≤ 10000000 ∧
    (withs (inPhase phEnum) [(MKR_STATUS.ENUM_DONE, 1)]).bitF MKR_STATUS.ENUM_DONE = true := by decide +kernel

theorem witness_MakereadyLeadsToReady_image :
    (let s := withs (inPhase phFwVerify) [(MKR_FW_STATUS.SLOT0_RESULT, 1)]
     fwCheck s.otp (s.image s.slotTried).1 (s.image s.slotTried).2 ≠ 0 ∧ s.slotTried ≠ 0) ∧
    (let s := upWith [(CHN_ID.ID_VALID, 1), (CHN_ID.UNIT_ID, 3)]
     s.ready = true ∧ s.bitF CHN_ID.ID_VALID = true ∧ s.sticky ≠ some s.unit) := by decide +kernel

theorem witness_RecoveryMailboxOperates :
    up.recTakes = true ∧ (inPhase phHalt).recTakes = true ∧
    (∀ o ∈ [({ op := 1, addr := 8, data := 0 } : RecOp), { op := 2, addr := 16, data := 1 }, { op := 3, addr := 65536, data := 0 }],
      o.aligned = true ∧ ({ up with mkr := { op := some o } } : State).mkr.op = some o) ∧
    ({ op := 3, addr := 4096, data := 0 } : RecOp).aligned = false := by decide +kernel

theorem witness_ResetsClearAndKeep :
    up.belowReset { at_ := 1000, mv := 100, since := 0, coarse := 1 } = true ∧
    up.bitF PKG_PFAIL_STATUS.PFAIL = false ∧ (upWith [(PKG_PFAIL_STATUS.PFAIL, 1)]).bitF PKG_PFAIL_STATUS.PFAIL = true ∧
    MKR_RESET_CTRL.WARM.get (0x1A501#64) = 1 ∧ MKR_RESET_CTRL.KEY.get (0x1A501#64) = 0xA5 ∧
    (let s := withs (inPhase phConfig) [(MKR_BOOT_CFG.WDOG_EN, 1)]
     s.bitF MKR_BOOT_CFG.WDOG_EN = true ∧ s.mkr.wdogOff = false ∧ phFwVerify < s.phase ∧ s.phase ≠ phHalt) ∧
    (inPhase phHalt).phase = phHalt ∧ up.phase ≠ phRom ∧ up.bus.perst = true ∧ (after .perstNRise up).bus.perst = false ∧
    (let s : State := { State.reset with pkg := { resetLow := true } }
     s.pkg.resetLow = true ∧ s.bitF PKG_PFAIL_STATUS.PFAIL = false) ∧
    (let s : State := { State.reset.setF PKG_PFAIL_STATUS.PFAIL 1 with pkg := { resetLow := true } }
     s.pkg.resetLow = true ∧ s.bitF PKG_PFAIL_STATUS.PFAIL = true ∧ s.bitF PKG_PFAIL_STATUS.FLUSH_ACTIVE = false ∧
     s.bitF PKG_PFAIL_STATUS.FLUSH_DONE = false ∧ s.ready = false ∧ s.bitF MKR_STATUS.RETAINED = false) := by decide +kernel

/-! ### Witnesses: registers, notices, BAR2, proxy control -/

theorem witness_RegisterWritesByTypeAndHalf :
    up.halted = false ∧ up.ready = true ∧ (regAt 0x2000).isSome = true ∧ (regAt 0x2048).isSome = true ∧ PKG_DVFS_CTRL ≠ 0x2000 ∧
    inPcie 0x2000 = false ∧ inPcie 0x3FFF8 = false ∧ 0x2004 % 8 ≠ 0 ∧ regAt 0x3FFF8 = none ∧ State.reset.ready = false ∧ inMkr 0x2000 = false ∧
    State.reset.halted = false := by decide +kernel

theorem witness_NoticesAndTheirMessages :
    (up.getF ARC_NOTICE_STATUS.NOTICE).testBit 0 = false ∧ (up.getF ARC_NOTICE_MASK.MASK).testBit 0 = true ∧
    (let s := messaging (upWith [(ARC_NOTICE_MASK.MASK, 0)])
     s.halted = false ∧ s.ready = true ∧ (s.getF ARC_NOTICE_MASK.MASK).testBit 17 = false ∧ s.bitF CHN_CFG.MASTER = false ∧
     s.bus.msixOn = true ∧ (s.bus.fnMask || s.bus.vecMask.getLsbD (s.getF ARC_NOTICE_VECTOR.VECTOR)) = false) ∧
    (up.bus.fnMask || up.bus.vecMask.getLsbD (up.getF ARC_NOTICE_VECTOR.VECTOR)) = true ∧ up.bus.msixOn = false ∧
    (upWith [(CHN_CFG.MASTER, 1)]).bitF CHN_CFG.MASTER = true ∧
    ((up.raise .supplyWarn).getF ARC_NOTICE_STATUS.NOTICE).testBit 0 = true := by decide +kernel

theorem witness_Bar2ReachesTheStock :
    home.halted = false ∧ home.ready = true ∧ State.reset.ready = false ∧ home.pptHolders none (home.bar2Addr 64) 8 = [] ∧
    (home.stkDo (home.bar2Req 64 (.read 8))).1.status = .ok ∧
    (held home 0).pptHolders none ((held home 0).bar2Addr 64) 8 ≠ [] ∧
    ((held home 0).at 5).pptForeign none ((held home 0).bar2Addr 64) 8 = true ∧ (home.at 5).pptForeign none (home.bar2Addr 64) 8 = false ∧
    ((home.at 5).stkDo ((home.at 5).bar2Req 64 (.write [1, 2, 3, 4, 5, 6, 7, 8]))).1.status = .ok ∧
    (∀ v ∈ [10, 18], bitsOf ((BitVec.ofNat 64 (v * 256)).setWidth 32 : BitVec 32).toNat 13 8 = v) := by decide +kernel

theorem witness_ProxyControlSendsOneRequest :
    (let s := upWith [(CHN_ID.ROOT, 1)]
     s.halted = false ∧ s.ready = true ∧ s.bitF CHN_PROXY_CMD.BUSY = false ∧ s.bitF CHN_ID.ROOT = true ∧
     s.reachable (s.getF CHN_PROXY_TARGET.UNIT) = true) ∧
    (upWith [(CHN_ID.ROOT, 1), (CHN_PROXY_TARGET.UNIT, 4)]).reachable 4 = false ∧
    ({ up with chn := { up.chn with proxy := some { op := 1 } } } : State).chn.proxy ≠ none ∧
    (messaging up).bus.msixOn = true ∧ (messaging up).bus.fnMask = false ∧
    (messaging up).bus.vecMask.getLsbD ((messaging up).getF CHN_PROXY_VEC.PROXY_VEC) = false := by decide +kernel

/-! ### Witnesses: package and power -/

theorem witness_OperatingPointSteps :
    (let s := upWith [(PKG_DVFS_STATUS.POINT, 4), (PKG_DVFS_CFG.PMB_EN, 1), (PKG_DVFS_CTRL.CEIL, 3)]
     s.halted = false ∧ 3 < s.getF PKG_DVFS_STATUS.POINT ∧ s.bitF PKG_SMON_STATUS.OPEN = false ∧ s.bitF PKG_DVFS_STATUS.STEPPING = false ∧
     s.bitF PKG_DVFS_CFG.PMB_EN = true ∧ s.getF PKG_DVFS_CTRL.CEIL ≤ 3) ∧
    (let s := upWith [(PKG_DVFS_STATUS.POINT, 3), (PKG_DVFS_CFG.PMB_EN, 0)]
     2 < s.getF PKG_DVFS_STATUS.POINT ∧ s.bitF PKG_DVFS_CFG.PMB_EN = false ∧ max 2 (s.getF PKG_DVFS_CTRL.CEIL) ≤ 2) ∧
    (upWith [(PKG_SMON_STATUS.OPEN, 1)]).bitF PKG_SMON_STATUS.OPEN = true ∧
    (let s : State := { upWith [(PKG_DVFS_CFG.PMB_EN, 0)] with pkg := { stepTo := some 2 } }
     s.halted = false ∧ s.pkg.stepTo = some 2 ∧ s.fastest ≤ 2) ∧
    (let s : State := { upWith [(PKG_DVFS_CFG.PMB_EN, 0)] with pkg := { stepTo := some 1 } }
     s.pkg.stepTo = some 1 ∧ 1 < s.fastest) ∧
    (upWith [(PKG_DVFS_STATUS.POINT, 3)]).getF PKG_DVFS_STATUS.POINT < 4 := by decide +kernel

theorem witness_SupplyWarningsFilterAndOpenWindows :
    (let lv := up.getF PKG_SMON_CFG.WARN_LEVEL * up.setMv
     200 * ((lv - 1) / 200) < lv ∧ lv ≤ 200 * ((lv + 199) / 200)) ∧
    (let s : State := { up with pkg := { warn := true } }
     (s.getF PKG_SMON_CFG.WARN_LEVEL + 4) * s.setMv ≤ 200 * 2000 ∧ s.pkg.warn = true ∧ s.pkg.clearAt = none) ∧
    200 * 1 < (up.getF PKG_SMON_CFG.WARN_LEVEL + 4) * up.setMv ∧
    (let s : State := { up with pkg := { filter := some (50, 700) } }
     s.halted = false ∧ s.pkg.filter = some (50, 700) ∧ 50 + 100 ≤ max s.dtl.count 150 ∧ s.bitF PKG_SMON_STATUS.OPEN = false ∧
     max s.dtl.count 149 < 50 + 100) ∧
    (let s : State := { up with pkg := { warn := true, clearAt := some 50 } }
     s.halted = false ∧ s.pkg.clearAt = some 50 ∧ 50 + 50000 ≤ max s.dtl.count 50050 ∧ s.pkg.stepTo = none) := by decide +kernel

theorem witness_PfailFlushes :
    (let s : State := { up with dbg := { freeze := .frozen } }
     s.halted = true ∧ s.bitF PKG_PFAIL_STATUS.PFAIL = false) ∧
    (upWith [(PKG_PFAIL_STATUS.PFAIL, 1)]).bitF PKG_PFAIL_STATUS.PFAIL = true ∧
    (let s := inPhase phConfig
     s.halted = false ∧ s.bitF PKG_PFAIL_STATUS.PFAIL = false ∧ s.ready = false ∧ (s.bitF MKR_STATUS.RETAINED && s.mkr.journalOk) = false) ∧
    up.halted = false ∧ up.bitF PKG_PFAIL_STATUS.PFAIL = false ∧ up.ready = true ∧
    (let s := upWith [(PKG_PFAIL_STATUS.PFAIL, 1), (PKG_PFAIL_STATUS.FLUSH_ACTIVE, 1)]
     s.halted = false ∧ s.bitF PKG_PFAIL_STATUS.FLUSH_ACTIVE = true ∧ s.pressesQuiet = true) ∧
    up.bitF PKG_PFAIL_STATUS.FLUSH_ACTIVE = false := by decide +kernel

theorem witness_ThermalLoop :
    ({ up with pkg := { resetLow := true } } : State).halted = true ∧
    (((List.replicate 19 (40 : Int)) ++ [115]).take 20).any (fun t => decide (115 ≤ t)) = true ∧
    (let temps := List.replicate 19 (40 : Int) ++ [114]
     (temps.take 20).any (fun t => decide (115 ≤ t)) = false ∧ hottest (temps.take 20) = some (114, 19)) ∧
    (let temps := List.replicate 20 (-128 : Int)
     hottest (temps.take 20) = some (-128, 0)) ∧
    up.bitF PKG_THERM_STATUS.ABOVE_WARN = false ∧ (up.getF PKG_THERM_CFG.WARN_C : Int) < 114 ∧
    (let s := upWith [(PKG_THERM_CFG.TARGET_C, 10), (PKG_DVFS_STATUS.POINT, 3), (PKG_DVFS_CTRL.FLOOR, 4), (PKG_THERM_STATUS.HOTTEST, 11)]
     s.halted = false ∧ (s.getF PKG_THERM_CFG.TARGET_C : Int) < s.hot ∧ s.getF PKG_DVFS_STATUS.POINT < 4 ∧
     s.getF PKG_DVFS_STATUS.POINT < max (s.getF PKG_DVFS_CTRL.FLOOR) (s.getF PKG_DVFS_CTRL.CEIL)) ∧
    (let s := upWith [(PKG_DVFS_CFG.PMB_EN, 0), (PKG_DVFS_STATUS.POINT, 3), (PKG_THERM_CFG.TARGET_C, 90), (PKG_THERM_STATUS.HOTTEST, 86)]
     s.hot < (s.getF PKG_THERM_CFG.TARGET_C : Int) - 3 ∧ s.bitF PKG_DVFS_CFG.PMB_EN = false ∧ s.bitF PKG_SMON_STATUS.OPEN = false ∧
     s.bitF PKG_DVFS_STATUS.STEPPING = false ∧ max 2 (s.getF PKG_DVFS_CTRL.CEIL) < s.getF PKG_DVFS_STATUS.POINT) := by decide +kernel

/-! ### Witnesses: rings and descriptors -/

/-- A flight that has not started. -/
def nopFlight : Flight := flightOf 0 []

theorem witness_RingsEnableAndDrain :
    (let s := ringed [] {}
     s.halted = false ∧ s.ready = true ∧ (s.ring 0).state = .disabled ∧ s.ringCfgOk 0 = true) ∧
    (ringed [(HST_RING_CFG.SQ_LOG2 0, 0)] {}).ringCfgOk 0 = false ∧
    (∀ st ∈ [RingState.active, .error], ((ringed [] { state := st }).ring 0).state = st ∧ ((ringed [] { state := st }).ring 0).flights = [] ∧
      (ringed [] { state := st }).launches = []) ∧
    (let s := ringed [] { state := .draining }
     (s.ring 0).state = .draining ∧ (s.ring 0).flights = [] ∧ (s.ring 0).results = []) ∧
    ((flying [] nopFlight).ring 0).flights = [nopFlight] ∧ ((flying [] nopFlight).ring 0).flights ≠ [] ∧ nopFlight.done = false ∧
    nopFlight.started = false ∧ ({ nopFlight with started := true } : Flight).done = false := by decide +kernel

theorem witness_DoorbellsMoveTheQueues :
    (let s := ringed [] { state := .active, cqHead := 0 }
     s.halted = false ∧ s.ready = true ∧ (s.ring 0).state = .active ∧ (HST_SQ_DB.TAIL 0).get (15#64) < s.sqSize 0 ∧
     s.sqSize 0 ≤ (HST_SQ_DB.TAIL 0).get (16#64) ∧ (HST_CQ_DB.HEAD 0).get (0#64) < s.cqSize 0 ∧
     ((HST_CQ_DB.HEAD 0).get (0#64) + s.cqSize 0 - (s.ring 0).cqHead % s.cqSize 0) % s.cqSize 0 ≤ s.cqUsed 0 ∧
     s.cqSize 0 ≤ (HST_CQ_DB.HEAD 0).get (16#64) ∧
     s.cqUsed 0 < ((HST_CQ_DB.HEAD 0).get (1#64) + s.cqSize 0 - (s.ring 0).cqHead % s.cqSize 0) % s.cqSize 0) ∧
    ((ringed [] {}).ring 0).state ≠ .active ∧ ((ringed [] {}).ring 0).state = .disabled ∧
    ((ringed [] { state := .error }).ring 0).state = .error ∧ ((ringed [] { state := .draining }).ring 0).state = .draining := by decide +kernel

/-- Ring 0 with one result that waits for the completion queue. -/
def owing (fs : List (Fld × Nat)) : State := ringed fs { state := .active, results := [{ tag := 5, slot := 0, status := stOk }], timerOn := true }

theorem witness_CompletionsReachTheQueue :
    (let s := owing []
     s.halted = false ∧ s.bitF CHN_CFG.MASTER = false ∧ (s.ring 0).results ≠ [] ∧ (s.ring 0).state ≠ .disabled ∧ s.cqRoom 0 = true) ∧
    (let s := owing [(HST_RING_STATUS.CQ_TAIL 0, 15)]
     s.cqTail 0 + 1 = s.cqSize 0 ∧ s.cqRoom 0 = false) ∧
    (let s := messaging (owing [(HST_COAL.TIMER_US 0, 1), (HST_RING_CFG.IRQ_EN 0, 1)])
     (s.ring 0).timerOn = true ∧ s.getF (HST_COAL.TIMER_US 0) ≠ 0 ∧ s.bitF (HST_RING_CFG.IRQ_EN 0) = true ∧ s.bus.msixOn = true ∧
     s.bus.fnMask = false ∧ s.bus.vecMask.getLsbD (s.getF (HST_RING_CFG.VECTOR 0)) = false) ∧
    (owing []).bitF (HST_RING_CFG.IRQ_EN 0) = false := by decide +kernel

/-- Ring 0 with one descriptor in host memory that the engine has still to fetch. -/
def offering (d : List Byte) (seen : List Nat) : State :=
  let s := ringed [(HST_SQ_BASE.BASE 0, 1)] { state := .active, sqTail := 1, window := seen }
  { s with bus := { s.bus with linkUp := true, hostMem := Mem.write {} 4096 d } }

theorem witness_DescriptorsAreFetched :
    (∀ op ∈ [0, 0x0D], let s := offering (descOf op []) []
      s.halted = false ∧ s.bitF CHN_CFG.MASTER = false ∧ (s.ring 0).fetched = none ∧ s.arbNext = some 0 ∧
      s.bus.hostMem.read (s.getF (HST_SQ_BASE.BASE 0) * 4096 + 64 * s.sqHead 0) 64 = descOf op [] ∧ (s.ring 0).knows (dTag (descOf op [])) = false ∧
      dOp (descOf op []) = op ∧ (s.ring 0).state = .active) ∧
    ((offering (descOf 0 []) [5]).ring 0).knows (dTag (descOf 0 [])) = true ∧ up.arbNext ≠ some 0 := by decide +kernel

/-- What a waiting descriptor meets: an engine with its partitions, and the descriptor in flight on ring 0. -/
def offered (op : Nat) (body : List Byte) (f : Flight → Flight) : State :=
  { home with rings := State.reset.rings.set 0 { state := .active, flights := [f (flightOf op body)] } }

/-- A flight that has been taken up on an engine, as the pool meanings take it. -/
def begun (s : State) (f : Flight) (t : Tick) : State := (s.at t).begin 0 f

theorem witness_PoolTriggerAndMarkDescriptors :
    (let s := offered 0x00 [] id
     s.halted = false ∧ s.bitF CHN_CFG.MASTER = false ∧ s.flightAt 0 0 0x00 = some (flightOf 0 []) ∧ s.flightAt 0 1 0x00 = none) ∧
    (let f := flightOf 0x07 (leBytes 8 64 ++ leBytes 8 4096 ++ leBytes 4 8)
     let s := offered 0x07 (leBytes 8 64 ++ leBytes 8 4096 ++ leBytes 4 8) id
     let r := (begun s f 5).stkDo (s.ringReq 0 (.read (leAt f.desc 0x18 4)) (leAt f.desc 8 8))
     s.flightAt 0 0 0x07 = some f ∧ leAt f.desc 0x18 4 = 8 ∧ r.1.status = .ok ∧ r.2.rings = (s.begin 0 f).rings ∧ r.2.bitF CHN_CFG.MASTER = false) ∧
    (let body := leBytes 8 64 ++ leBytes 8 4096 ++ leBytes 4 8
     let f : Flight := { flightOf 0x08 body with wrote := some 8 }
     let s := offered 0x08 body (fun f => { f with wrote := some 8 })
     let r := (begun s f 5).fence .visible (s.ringCls 0) [agentRing 0]
     s.flightAt 0 0 0x08 = some f ∧ f.wrote = some 8 ∧ r.1 = {} ∧ r.2.rings = (s.begin 0 f).rings) ∧
    (let body := leBytes 8 64 ++ leBytes 8 4096 ++ leBytes 4 8
     let f := flightOf 0x08 body
     let s := offered 0x08 body id
     let r := (begun s f 5).stkDo (s.ringReq 0 (.write (s.bus.hostMem.read (leAt f.desc 0x10 8) (leAt f.desc 0x18 4))) (leAt f.desc 8 8))
     let m := r.2.modFlight 0 f.tag (fun f => { f with wrote := some (leAt f.desc 0x18 4) })
     let v := m.fence .visible (m.ringCls 0) [agentRing 0]
     s.flightAt 0 0 0x08 = some f ∧ f.wrote = none ∧ r.1.status = .ok ∧ r.2.rings = (s.begin 0 f).rings ∧ v.1 = {} ∧ v.2.rings = m.rings) ∧
    (let body := leBytes 8 64 ++ [0] ++ List.replicate 7 (0 : Byte) ++ leBytes 8 1
     let f := flightOf 0x09 body
     let s := offered 0x09 body id
     let r := (begun s f 5).stkDo (s.ringReq 0 (Machine.poolAtomic f.desc) (leAt f.desc 8 8))
     s.flightAt 0 0 0x09 = some f ∧ r.1.status = .ok ∧ r.2.rings = (s.begin 0 f).rings) := by decide +kernel

theorem witness_PoolTriggerAndMarkDescriptors_copy :
    (let f : Flight := { flightOf 0x02 [] with wrote := some 8 }
     let s := offered 0x02 [] (fun f => { f with wrote := some 8 })
     let r := (begun s f 5).fence .visible (s.ringCls 0) [agentRing 0]
     s.flightAt 0 0 0x02 = some f ∧ r.1 = {} ∧ r.2.rings = (s.begin 0 f).rings) ∧
    (let f : Flight := { flightOf 0x02 [] with extra := [[], [], [], [7]] }
     let s := offered 0x02 [] (fun f => { f with extra := [[], [], [], [7]] })
     let p := copyParts f
     let o := copyDo p.1 p.2.1 (fun i => [(7 : Byte)].getD i 0)
     let r := (begun s f 5).copyWrite 0 (copyOut p.2.2.2 o.1)
     let m := r.2.2.modFlight 0 f.tag (fun f => { f with wrote := some o.2 })
     let v := m.fence .visible (m.ringCls 0) [agentRing 0]
     s.flightAt 0 0 0x02 = some f ∧ f.wrote = none ∧ f.extra.getD 3 [] = [7] ∧ r.1 = .ok ∧ r.2.1 = [] ∧ r.2.2.rings = (s.begin 0 f).rings ∧
     v.1 = {} ∧ v.2.rings = m.rings) ∧
    (let f := flightOf 0x02 []
     let s := offered 0x02 [] id
     let p := copyParts f
     let r := (begun s f 5).copyRead 0 (if copyNoop p.1 p.2.1 then [] else p.2.2.1.spans (p.2.1.extent p.1.srcImp))
     let o := copyDo p.1 p.2.1 (fun i => r.1.data.getD i 0)
     let k := r.2.modFlight 0 f.tag (fun f => { f with extra := f.extra.take 3 ++ [r.1.data] })
     let w := k.copyWrite 0 (copyOut p.2.2.2 o.1)
     let m := w.2.2.modFlight 0 f.tag (fun f => { f with wrote := some o.2 })
     let v := m.fence .visible (m.ringCls 0) [agentRing 0]
     s.flightAt 0 0 0x02 = some f ∧ f.wrote = none ∧ f.extra.getD 3 [] = [] ∧ r.1.status = .ok ∧ r.2.rings = (s.begin 0 f).rings ∧ w.1 = .ok ∧
     w.2.1 = [] ∧ w.2.2.rings = k.rings ∧ v.1 = {} ∧ v.2.rings = m.rings) := by decide +kernel

/-- A TRG_SCHED of one pulse at a time in ns. -/
def trgBody (startNs : Nat) : List Byte := [0, 0, 0, 0] ++ leBytes 4 1 ++ leBytes 8 0 ++ leBytes 4 startNs ++ leBytes 4 1000 ++ leBytes 4 100

/-- Trigger 0 holding k schedules of a pulse each, far apart. -/
def armed (s : State) (k : Nat) : State :=
  { s with dtl := { s.dtl with trgs := s.dtl.trgs.set 0 { scheds := (List.range k).map (fun i =>
      { low := false, count := 1, startNs := 100000 * i, periodNs := 1000, widthNs := 100 }) } } }

/-- An epoch that opened at count 2 and closed at count c. -/
def anEpoch (num c : Nat) : EpochRec := { num := num, openAt := 2, refTime := 0, closeAt := some c }

theorem witness_PoolTriggerAndMarkDescriptors_triggers :
    (∀ c ∈ [(20002, 0, TrgPlace.placed), (20001, 0, .late), (1000000, 4, .full)],
      let f := flightOf 0x0A (trgBody c.1)
      let s := armed (offered 0x0A (trgBody c.1) id) c.2.1
      s.flightAt 0 0 0x0A = some f ∧ f.placing = false ∧ (schedOf f.desc).count ≠ 0 ∧ (s.at 1).trgCheck (trgOf f.desc) (schedOf f.desc) = c.2.2) ∧
    (let f : Flight := { flightOf 0x0A (trgBody 20002) with placing := true }
     let s := offered 0x0A (trgBody 20002) (fun f => { f with placing := true })
     s.flightAt 0 0 0x0A = some f ∧ f.placing = true ∧ (schedOf f.desc).count ≠ 0 ∧ (s.at 1).trgCheck (trgOf f.desc) (schedOf f.desc) = .placed) ∧
    (let f := flightOf 0x0B (leBytes 4 7)
     let s : State := { offered 0x0B (leBytes 4 7) id with epochs := [anEpoch 7 100] }
     s.flightAt 0 0 0x0B = some f ∧ f.mark = none ∧ leAt f.desc 8 4 = 7 ∧ s.epochRec 7 = some (anEpoch 7 100) ∧ byteAt f.desc 0x0C = 0) ∧
    (let f := flightOf 0x0C []
     let s := offered 0x0C [] id
     let r := (s.begin 0 f).fence .order (s.ringCls 0) ((fenceRings 0 (byteAt f.desc 9)).map agentRing)
     s.flightAt 0 0 0x0C = some f ∧ s.launches = [] ∧ byteAt f.desc 8 = 0 ∧ r.1 = {} ∧ r.2.rings = (s.begin 0 f).rings) := by decide +kernel

/-- A folio descriptor in flight, with grains of 128 bytes and sequence 0 as given. -/
def scened (op : Nat) (body : List Byte) (x : Sequence) : State :=
  let s := withs (offered op body id) [(SCN_POOL_CFG.GRAINS, 64), (SCN_POOL_BASE.BASE, 0x100000), (SCN_LIST_BASE.BASE, 0x200000),
    (SCN_GEOM.D16, 1), (SCN_GEOM.A, 2), (SCN_GEOM.HEADS_M1, 0)]
  { s with scn := { s.scn with seqs := [(0, x)] }, bus := { s.bus with linkUp := true } }

/-- The engine once a folio descriptor has begun there. -/
def folioBegun (s : State) (f : Flight) : State := (s.setScn { s.scn with busy := some (0, f.tag) }).begin 0 f

theorem witness_FolioDescriptorsAndSwaps :
    (let body := leBytes 2 0 ++ [4, 3] ++ leBytes 4 1
     let f := flightOf 0x03 body
     let s := scened 0x03 body {}
     let fs := takeFolios (folioGrains (byteAt f.desc 0x0A)) (s.getF SCN_POOL_CFG.GRAINS) (leAt f.desc 0x0C 4) s.grainsUsed
     let b := folioBegun s f
     let w := b.writeList 0 0 (b.ringCls 0) [0]
     s.halted = false ∧ s.scn.busy = none ∧ s.flightAt 0 0 0x03 = some f ∧ leAt f.desc 8 2 = 0 ∧ (s.seq 0).state = .free ∧ (s.seq 0).folios = [] ∧
     leAt f.desc 0x0C 4 ≤ 4096 ∧ s.preempting = false ∧ fs = some [0] ∧ w.1 = true ∧ w.2.rings = b.rings ∧ w.2.scn = b.scn) ∧
    (let f := flightOf 0x03 (leBytes 2 0)
     let s := scened 0x03 (leBytes 2 0) { state := .swapped }
     s.flightAt 0 0 0x03 = some f ∧ (s.seq 0).state = .swapped) ∧
    (let f := flightOf 0x04 (leBytes 2 0)
     let s := scened 0x04 (leBytes 2 0) { state := .resident, folios := [0], kLog2 := 4 }
     s.flightAt 0 0 0x04 = some f ∧ (s.seq 0).state = .resident ∧ (s.seq 0).parts = [] ∧ leAt f.desc 0x0C 4 = 0 ∧ leAt f.desc 0x10 4 = 0 ∧
     (s.seq 0).folios ≠ [] ∧ s.holders 0 = []) ∧
    (let body := leBytes 8 0 ++ leBytes 8 4096 ++ leBytes 8 128
     let f := flightOf 0x05 body
     let s := scened 0x05 body { state := .resident, folios := [0], kLog2 := 4 }
     s.flightAt 0 0 0x05 = some f ∧ (s.seq 0).state = .resident ∧ (s.seq 0).folios.length * s.folioBytes (s.seq 0).kLog2 ≤ leAt f.desc 0x18 8) ∧
    (let f := flightOf 0x06 (leBytes 8 0)
     let s := scened 0x06 (leBytes 8 0) { state := .swapped, kLog2 := 4, parts := [(0, 7)], hostAddr := 4096 }
     let b := folioBegun s f
     let w := b.writeList 0 0 (b.ringCls 0) [0]
     s.flightAt 0 0 0x06 = some f ∧ (s.seq 0).state = .swapped ∧ s.preempting = false ∧
     takeFolios (folioGrains (s.seq 0).kLog2) (s.getF SCN_POOL_CFG.GRAINS) (s.seq 0).parts.length s.grainsUsed = some [0] ∧ w.1 = true ∧
     w.2.scn = b.scn) ∧
    (∀ st ∈ [SeqState.free, .swapped], ((scened 0x05 (leBytes 2 0) { state := st }).seq 0).state = st ∧
      ((scened 0x05 (leBytes 2 0) { state := st }).flightAt 0 0 0x05).isSome = true) ∧
    (∀ st ∈ [SeqState.free, .resident], ((scened 0x06 (leBytes 2 0) { state := st }).seq 0).state = st ∧
      ((scened 0x06 (leBytes 2 0) { state := st }).flightAt 0 0 0x06).isSome = true) := by decide +kernel

/-- Sequence 0 while a swap is under way, for descriptor tag 5 or for none. -/
def swapping (x : Sequence) : State := scened 0x05 (leBytes 2 0) x

/-- The part that a folio of 128 bytes of zeros becomes. -/
def zeroPart : Nat × Nat := (0, crc32 (List.replicate 128 0))

/-- The DRAM-flat tier all zeros, so that what it holds is known. -/
def zeroed (s : State) : State := { s with stk := { s.stk with dram := {} } }

theorem witness_FolioDescriptorsAndSwaps_ends :
    (∀ cause ∈ [none, some (0, 5)],
      let s := zeroed (swapping { state := .preempting, folios := [0], kLog2 := 4, hostAddr := 4096, cause := cause })
      let r := s.swapOutData 0 0 (s.ringCls 0)
      s.halted = false ∧ s.scn.busy = none ∧ (s.seq 0).cause = cause ∧ (s.flight 0 5).isSome = true ∧ (s.seq 0).state = .preempting ∧
      r.1 = some [zeroPart] ∧ r.2.scn = s.scn ∧ r.2.rings = s.rings) ∧
    (∀ cause ∈ [none, some (0, 5)], ∀ c ∈ [(zeroPart, true), ((0, 7), false)],
      let s := zeroed (swapping { state := .swappingIn, folios := [0], kLog2 := 4, parts := [c.1], readAt := 4096, cause := cause })
      let r := s.swapInData 0 0 (s.ringCls 0)
      (s.seq 0).state = .swappingIn ∧ r.1 = some c.2 ∧ r.2.scn = s.scn ∧ r.2.rings = s.rings) := by decide +kernel

/-! ### Witnesses: launches -/

/-- A NET_LAUNCH for press 0 on epoch 7. -/
def launchBody : List Byte := leBytes 8 0x4000 ++ leBytes 8 0x5000 ++ leBytes 8 0x6000 ++ leBytes 4 7 ++ leBytes 2 1 ++ [0, 0] ++ leBytes 4 64 ++ leBytes 4 0

/-- A NET_LAUNCH in flight on ring 0 of a class. -/
def launching (cls : Nat) (fs : List (Fld × Nat)) : State := withs (offered 0x01 launchBody id) ((HST_RING_CFG.CLASS 0, cls) :: fs)

theorem witness_LaunchesAreDispatchedAndStart :
    (let f := flightOf 0x01 launchBody
     let s := launching 1 []
     s.halted = false ∧ s.flightAt 0 0 0x01 = some f ∧ f.started = false ∧ s.launch (0, f.tag) = none ∧ s.ringCls 0 ≠ 0) ∧
    (let s := launching 0 []
     (s.flightAt 0 0 0x01).isSome = true ∧ s.ringCls 0 = 0 ∧ s.bitF GRD_CFG.EN = false) ∧
    (let s : State := { launching 0 [(GRD_CFG.EN, 1)] with epochs := [{ anEpoch 7 100 with published := true }] }
     (s.flightAt 0 0 0x01).isSome = true ∧ s.ringCls 0 = 0 ∧ s.bitF GRD_CFG.EN = true ∧
     s.guardOver (s.launchEpoch (NetDesc.of (flightOf 0x01 launchBody).desc).epoch) = true) := by decide +kernel

/-- The launch of that descriptor, held until its epoch is finalised. -/
def heldLaunch : Launch := { aLaunch with started := false, net := 0x4000, hdr := { count := 1, slugOfs := 256, crc := 77 } }

/-- An engine on which it may start: its epoch is finalised, and press 0 holds its image. -/
def starting : State :=
  { launching 1 [] with launches := [heldLaunch], epochs := [{ anEpoch 7 100 with isSealed := true, closed := true }],
                        presses := State.reset.presses.set 0 { image := some { addr := 0x4000, crc := 77 } } }

theorem witness_LaunchesAreDispatchedAndStart_start :
    (let f := flightOf 0x01 launchBody
     let s := starting
     let e : EpochRec := { anEpoch 7 100 with isSealed := true, closed := true }
     let r := (s.at 200).stkDo (s.ringReq 0 (.read 0) (heldLaunch.net + heldLaunch.hdr.slugOfs))
     s.halted = false ∧ s.flightAt 0 0 0x01 = some f ∧ s.launch (0, f.tag) = some heldLaunch ∧ heldLaunch.started = false ∧
     heldLaunch.single = false ∧ heldLaunch.cls ≠ 0 ∧ s.epochRec heldLaunch.epoch = some e ∧ e.closed = true ∧ s.launchBroken heldLaunch = false ∧
     heldLaunch.presses.all (fun p => s.pressFree p.1) = true ∧ (s.at 200).slotAllows heldLaunch = true ∧
     heldLaunch.presses.all (fun p => s.hasImage heldLaunch p.1) = true ∧ r.1.status = .ok ∧ r.2.presses = s.presses ∧
     r.2.launches = s.launches) := by decide +kernel

theorem witness_LaunchesStopAndEnd :
    (∀ timeout ∈ [0, 1],
      let l : Launch := { aLaunch with timeout := timeout }
      let s := pressed l {}
      s.halted = false ∧ s.launches.find? (fun l => decide (l.ring = 0 ∧ l.slot = 0) && l.started && !l.done) = some l ∧ l.stop = none ∧
      s.launch l.key = some l ∧ (∀ p ∈ l.presses, (s.press (pressOf p.1)).mode ≠ .idle) ∧ l.timeout = timeout) ∧
    (let l : Launch := { aLaunch with stop := some { status := stTimeout } }
     let s : State := { up with launches := [l], presses := State.reset.presses.set 0 { mode := .stopping, launch := some (0, 5) } }
     s.launches.find? (fun l => decide (l.ring = 0 ∧ l.slot = 0) && l.started && !l.done) = some l ∧
     l.presses.all (fun p => s.pressOver p.1) = true ∧ l.stop ≠ none) ∧
    aLaunch.presses.all (fun p => (pressed aLaunch {}).pressOver p.1) = false := by decide +kernel

theorem witness_DecisionsFreeProvisionalPages :
    (let l : Launch := { aLaunch with deps := [(3, 9)] }
     let s := pressed l {}
     s.halted = false ∧ (3 : Nat) ≠ s.unit ∧ s.launches = [l] ∧ (3, 9) ∈ l.deps ∧ l.verdict = none ∧ l.started = true ∧ l.done = false ∧
     l.stop = none) ∧
    ((0 : Nat) = up.unit ∧ (held up 0).stk.ppt ≠ []) := by decide +kernel

/-! ### Witnesses: galleys and crossings -/

/-- A stored word without an error. -/
def aWord (d : Nat) (e : Bool) : CWord := CWord.make (BitVec.ofNat 64 d) e

/-- A running engine with a galley as given. -/
def galled (g : GalleyId) (x : Galley) : State := up.setGal g x

theorem witness_GalleysTakeGiveAndLoseWords_pushes :
    (let s := galled 32 {}
     s.halted = false ∧ (s.gal 32).state = .normal ∧ (s.gal 32).dropping = false ∧ galCommit 32 = false ∧ (s.gal 32).words.length < galDepth 32) ∧
    (let s := galled 32 { words := List.replicate (galDepth 32) (aWord 1 false) }
     galDepth 32 ≤ (s.gal 32).words.length ∧ (s.gal 32).pktIn < 2 ^ 32 ∧ (s.gal 32).pktOut < 2 ^ 32 ∧ (s.gal 32).pktDrop < 2 ^ 32) ∧
    (let s := galled 0 {}
     (s.gal 0).state = .normal ∧ (s.gal 0).dropping = false ∧ galCommit 0 = true ∧ (s.gal 0).partialIn = false ∧ (s.gal 0).itemWords = 0 ∧
     0 < s.getF (GAL_CFG.MAX_ITEM 0) ∧ s.getF (GAL_CFG.MAX_ITEM 0) ≤ galDepth 0 - (s.gal 0).words.length ∧ (s.gal 0).words.length < galDepth 0) ∧
    (let s := (galled 16 {}).setF (GAL_CFG.MAX_ITEM 16) (galDepth 16 + 1)
     galCommit 16 = true ∧ (s.gal 16).partialIn = false ∧ galDepth 16 - (s.gal 16).words.length < s.getF (GAL_CFG.MAX_ITEM 16)) ∧
    (let s := galled 0 { words := [aWord 1 false], uncommitted := 1, partialIn := true, itemWords := 1, itemMax := 1 }
     (s.gal 0).state = .normal ∧ (s.gal 0).dropping = false ∧ (s.gal 0).partialIn = true ∧ (s.gal 0).itemMax < (s.gal 0).itemWords + 1) := by decide +kernel

theorem witness_GalleysTakeGiveAndLoseWords_pops :
    (∀ g ∈ [(0 : GalleyId), 32, 48], ∀ w ∈ [aWord 7 true, (aWord 7 true).flip { data := 1 }, (aWord 7 true).flip { data := 3 }],
      let s := galled g { words := [w], midOut := true }
      galDepth g ≠ 0 ∧ (∀ p : CamPort, s.ing.cams[p].inj = none) ∧ (s.gal g).synth = false ∧ 0 < (s.gal g).visible ∧ g ≠ 49 ∧
      (galCrossing g).all (fun x => !(s.gutter x).full) = true) ∧
    (let w := aWord 7 true
     (w.flip (eccUpset .clean)).found = .clean ∧ (w.flip (eccUpset .single)).found = .single ∧ (w.flip (eccUpset .double)).found = .double) ∧
    ((galled 32 {}).gal 32).words = [] ∧
    (let s := galled 0 { words := [aWord 1 false], uncommitted := 1, partialIn := true }
     s.halted = false ∧ galDepth 0 ≠ 0 ∧ galCommit 0 = true ∧ (s.gal 0).state = .normal ∧ (s.gal 0).partialIn = true) ∧
    up.ready = true := by decide +kernel

theorem witness_GalleysTakeGiveAndLoseWords_host :
    (let s := galled 48 {}
     s.halted = false ∧ s.ready = true ∧ (s.gal 48).state = .normal ∧ (s.gal 48).dropping = false ∧ (s.gal 48).words.length < 512 ∧
     (s.gal 48).partialIn = false ∧ (s.gal 48).itemWords = 0 ∧ 0 < s.getF (GAL_CFG.MAX_ITEM 48) ∧
     s.getF (GAL_CFG.MAX_ITEM 48) ≤ 512 - (s.gal 48).words.length) ∧
    (let s := galled 48 { words := List.replicate 511 (aWord 1 false), uncommitted := 511, partialIn := true, itemWords := 511, itemMax := 512 }
     (s.gal 48).words.length < 512 ∧ (s.gal 48).partialIn = true ∧ (s.gal 48).itemWords < (s.gal 48).itemMax) ∧
    512 ≤ ((galled 48 { words := List.replicate 512 (aWord 1 false) }).gal 48).words.length ∧
    laneGutter { x := 7 } = true ∧ (up.gutter { x := 7 }).full = false ∧
    (let s := up.setGutter { x := 7 } { words := List.replicate 16 { word := { data := 1 } } }
     16 ≤ (s.gutter { x := 7 }).words.length) := by decide +kernel

theorem witness_GalleysStaySound : State.reset.galleysSound := by
  unfold State.galleysSound Galley.sound
  decide +kernel

theorem witness_HostReadsTakeGalley49 :
    (let s := galled 49 { words := [aWord 7 true] }
     s.halted = false ∧ s.ready = true ∧ (s.gal 49).synth = false ∧ (s.gal 49).words = [aWord 7 true] ∧ 0 < (s.gal 49).visible) ∧
    (up.gal 49).available = false ∧
    (let s : State := { galled 49 {} with bus := { up.bus with rxWait := some .full } }
     s.bus.rxWait = some .full ∧ (s.gal 49).state = .normal ∧ (s.gal 49).dropping = false ∧ (s.gal 49).synth = false ∧ (s.gal 49).words = []) ∧
    up.bus.rxWait = none := by decide +kernel

theorem witness_PulsesAreHeldAndMerged :
    laneToggle { x := 3 } = true ∧ up.halted = false ∧ (up.gutter { x := 3 }).held = false ∧ (up.gutter { x := 3 }).busy = false ∧
    (let s := up.setGutter { x := 3 } { busy := true }
     (s.gutter { x := 3 }).busy = true ∧ (s.gutter { x := 3 }).held = false) ∧
    (let s := up.setGutter { x := 3 } { busy := true, held := true }
     (s.gutter { x := 3 }).busy = true ∧ (s.gutter { x := 3 }).held = true) := by decide +kernel

/-! ### Witnesses: the Dateline and its epochs -/

theorem witness_RateWritesKeepTime :
    (let s := upWith [(DTL_SLEW_CFG.SERVO_EN, 0)]
     s.halted = false ∧ s.ready = true ∧ s.bitF DTL_SLEW_CFG.SERVO_EN = false ∧ s.dtl.seg.start ≤ max s.dtl.count 9 ∧ s.dtl.segs ≠ [] ∧
     s.dtl.seg.remain (max s.dtl.count 9 - 1) = 0 ∧ s.dtl.seg.pieces = []) ∧
    (let s : State := { upWith [(DTL_SLEW_CFG.SERVO_EN, 0)] with dtl := { up.dtl with segs := [{ pieces := [⟨1, 0, 5, 5⟩] }] } }
     s.dtl.seg.remain (max s.dtl.count 3 - 1) = 0 ∧ s.dtl.seg.pieces.head?.all (fun p => decide (p.s0 + 1 < max s.dtl.count 3)) = true) ∧
    rateMin ≤ (BitVec.ofNat 64 rateMin).toNat ∧ (BitVec.ofNat 64 rateMax).toNat ≤ rateMax ∧ (BitVec.ofNat 64 (rateMin - 1)).toNat < rateMin ∧
    rateMax < (BitVec.ofNat 64 (rateMax + 1)).toNat ∧ (upWith [(DTL_SLEW_CFG.SERVO_EN, 1)]).bitF DTL_SLEW_CFG.SERVO_EN = true := by decide +kernel

theorem witness_SlewsApplyStepByStep :
    (let s := upWith [(DTL_SLEW_CFG.SERVO_EN, 0)]
     s.halted = false ∧ s.ready = true ∧ s.bitF DTL_SLEW_CFG.SERVO_EN = false ∧ 0 < max s.dtl.count 1) ∧ (0 : Nat) < 1 := by decide +kernel

theorem witness_TimeIsSetAndTold :
    up.halted = false ∧ up.ready = true ∧ (1#64).getLsbD 0 = true ∧ (0#64).getLsbD 0 = false ∧ 0 ≤ (up.at 0).time ∧
    (up.at 1000000).time < 2 ^ 48 * unitSec ∧
    (let g := (up.at 9).dtl.segAt 9
     g.isSome = true ∧ (9#64).toNat ≤ max up.dtl.count 9 ∧ (g.map (fun g => decide (0 ≤ g.time 9 ∧ g.time 9 < 2 ^ 48 * unitSec))) = some true) ∧
    (let s : State := { up with dtl := { up.dtl with segs := [{ start := 5 }] } }
     (s.at 9).dtl.segAt 4 = none) ∧ max up.dtl.count 9 < (10#64).toNat ∧
    (∀ a ∈ [0, 1], let s := upWith [(DTL_STATE.STATE, stUnset), (DTL_STATE.TARGET, refNone), (DTL_STATE.ARMED, a)]
      s.getF DTL_STATE.STATE = stUnset ∧ s.getF DTL_STATE.TARGET = refNone ∧ s.bitF DTL_STATE.ARMED = decide (a = 1) ∧
      s.dtl.seg.remain (max s.dtl.count 9 - 1) = 0 ∧ s.bitF DTL_EPOCH_CFG.EN = false) ∧
    (upWith [(DTL_STATE.STATE, stLocked)]).getF DTL_STATE.STATE ≠ stUnset ∧ (upWith [(DTL_EPOCH_CFG.EN, 1)]).bitF DTL_EPOCH_CFG.EN = true := by decide +kernel

/-- An engine with reference 0 enabled, fed by a SLAVE port, in a state, and last heard and held at count 10. -/
def referred (st : Nat) (fs : List (Fld × Nat)) (prev : Option (Int × Tick)) : State :=
  let s := upWith ([(DTL_SEL_CFG.REF_EN, 1), (PTP_PORT_CFG.PORT_EN 0, 1), (PTP_PORT_CFG.ROLE 0, 1), (DTL_REF_STAT.RSTATE 0, st)] ++ fs)
  { s with dtl := { s.dtl with refs := s.dtl.refs.set 0 { prev := prev, heldAt := 10 } } }

theorem witness_ReferencesQualifyAndSwitch :
    (upWith [(DTL_SEL_CFG.REF_EN, 0)]).refEn 0 = false ∧ up.refFed 0 = false ∧
    (let s := referred rsAbsent [(DTL_REF_CFG.QUAL_N 0, 2)] none
     s.halted = false ∧ s.refFed 0 = true ∧ s.refEn 0 = true ∧ s.refState 0 = rsAbsent ∧ (s.refX 0).prev = none ∧ 1 < s.getF (DTL_REF_CFG.QUAL_N 0)) ∧
    (let s := referred rsQualifying [(DTL_REF_CFG.LOSS_MS 0, 1), (DTL_STATE.STATE, stLocked), (DTL_STATE.SELECTED, 1)] (some (0, 10))
     s.refState 0 ≠ rsAbsent ∧ (s.at (10 + 499999)).refSilent 0 = false ∧ (s.at (10 + 500000)).refSilent 0 = true ∧
     s.getF DTL_STATE.STATE = stLocked ∧ s.getF DTL_STATE.SELECTED ≠ 0) ∧
    (let s := referred rsHoldoff [(DTL_SEL_CFG.REF_HOLDOFF, 1), (DTL_STATE.STATE, stLocked), (DTL_STATE.SELECTED, 0)] none
     s.refState 0 = rsHoldoff ∧ (s.at (10 + 499999)).refHeld 0 = false ∧ (s.at (10 + 500000)).refHeld 0 = true ∧
     s.getF DTL_STATE.STATE = stLocked ∧ s.getF DTL_STATE.SELECTED = 0) ∧
    (let s : State := { upWith [(DTL_STATE.TARGET, 2), (DTL_SEL_CFG.SWITCH_MEAS, 1)] with dtl := { up.dtl with reqAt := 10 } }
     s.getF DTL_STATE.TARGET < 3 ∧ s.dtl.reqAt + 500000 * s.getF DTL_SEL_CFG.SWITCH_MEAS ≤ max s.dtl.count 500010 ∧
     max s.dtl.count 500009 < s.dtl.reqAt + 500000 * s.getF DTL_SEL_CFG.SWITCH_MEAS) ∧
    (upWith [(DTL_STATE.TARGET, refNone)]).getF DTL_STATE.TARGET = refNone := by decide +kernel

theorem witness_EventsAndTriggers :
    (let s := upWith [(DTL_PPS_OUT.EN, 1), (DTL_STATE.STATE, stLocked)]
     s.halted = false ∧ s.ready = true ∧ s.bitF DTL_PPS_OUT.EN = true ∧ s.getF DTL_STATE.STATE = stLocked ∧ (s.at 500000000).onSecond = true ∧
     (s.at 249999999).onSecond = false) ∧
    up.bitF DTL_PPS_OUT.EN = false ∧
    (let s : State := { up with dtl := { up.dtl with ppsOut := some 50 } }
     s.dtl.ppsOut = some 50 ∧ 50 ≤ max s.dtl.count 50 ∧ max s.dtl.count 49 < 50) ∧ up.dtl.ppsOut = none ∧
    (∀ c ∈ [(3, true), (3, false), (1, true), (2, false)], let s := upWith [(DTL_EVT_CFG.EDGE 15, c.1)]
      s.getF (DTL_EVT_CFG.EDGE 15) = 3 ∨ s.getF (DTL_EVT_CFG.EDGE 15) = (if c.2 then 1 else 2)) ∧
    (∀ n ∈ [31, 32], let s : State := { upWith [(DTL_EVT_CFG.EDGE 15, 3)] with dtl := { up.dtl with evts := up.dtl.evts.set 15 ({ fifo := List.replicate n ⟨1, 0, true, false⟩ } : EvtIn) } }
      (s.dtl.evts[(15 : Fin 16)]).fifo.length = n) ∧
    up.getF (DTL_EVT_CFG.EDGE 15) = 0 ∧ (up.dtl.evts[(15 : Fin 16)]).fifo = [] ∧
    (let s := armed up 1
     s.dtl.trgs[(0 : Fin 8)].scheds.head?.map (fun c => decide ((c.edgeNs c.edge : Int) * unitNs ≤ (s.at 0).time + s.tickSlack)) = some true) ∧
    (let s : State := { up with dtl := { up.dtl with trgs := up.dtl.trgs.set 0 { scheds :=
        [{ low := false, count := 1, startNs := 4, periodNs := 1000, widthNs := 100 }] } } }
     s.dtl.trgs[(0 : Fin 8)].scheds.head?.map (fun c => decide ((s.at 0).time + s.tickSlack < (c.edgeNs c.edge : Int) * unitNs)) = some true) := by decide +kernel

/-- An engine whose epoch clock runs, with epochs as given. -/
def ticking (fs : List (Fld × Nat)) (es : List EpochRec) : State := { upWith ([(DTL_EPOCH_CFG.EN, 1), (DTL_STATE.STATE, stLocked)] ++ fs) with epochs := es }

theorem witness_EpochsOpenSealAndFinalise :
    (let s := upWith [(DTL_STATE.STATE, stLocked)]
     s.halted = false ∧ s.ready = true ∧ s.bitF DTL_EPOCH_CFG.EN = false ∧ s.getF DTL_STATE.STATE ≠ stUnset ∧
     (0x8000000000000000#64).getLsbD 63 = true ∧ (0#64).getLsbD 63 = false) ∧
    up.getF DTL_STATE.STATE = stUnset ∧
    (let s := ticking [] [{ anEpoch 6 0 with closeAt := none }]
     s.bitF DTL_EPOCH_CFG.EN = true ∧ s.epochOpen ≠ none ∧ s.epochTime s.dtl.epochK ≤ (s.at 9).time ∧ s.bitF GRD_CFG.EN = false) ∧
    (let s := ticking [(DTL_EPOCH_START_S.SEC, 1)] []
     (s.at 499999999).time < s.epochTime s.dtl.epochK) ∧
    ((upWith [(DTL_STATE.STATE, stLocked)]).at 500000000).onSecond = true ∧ (up.at 249999999).onSecond = false := by decide +kernel

theorem witness_EpochsOpenSealAndFinalise_ends :
    (let s := ticking [(RGS_CLOSE_CFG.GRACE_US, 1)] [anEpoch 6 100]
     s.halted = false ∧ (∀ p : CamPort, s.ing.cams[p].inj = none) ∧ s.epochRec 6 = some (anEpoch 6 100) ∧
     (s.at 600).sealDue (anEpoch 6 100) = true ∧ (s.at 599).sealDue (anEpoch 6 100) = false) ∧
    (let f : EpochRec := { anEpoch 6 100 with isSealed := true }
     let s := ticking [(ING_COV_CFG.EN, 0), (RGS_GRID_CFG.GRID_EN, 0)] [f]
     s.epochRec 6 = some f ∧ (s.at 600).finalDue f = true ∧ s.bitF ING_COV_CFG.EN = false ∧ s.bitF RGS_GRID_CFG.GRID_EN = false ∧
     f.waited = false) ∧
    ((ticking [] []).at 600).finalDue (anEpoch 6 100) = false := by decide +kernel

/-! ### Witnesses: precision time and ingress -/

/-- A PTP message of 44 bytes over layer 2: its type, a flag byte, and the MAC address it goes to. -/
def ptpMsg (dst mtype flags : Nat) : List Byte :=
  beBytes 6 dst ++ beBytes 6 7 ++ beBytes 2 0x88F7 ++ [BitVec.ofNat 8 mtype, 2] ++ beBytes 2 44 ++ [0, 0, BitVec.ofNat 8 flags] ++ List.replicate 37 0

/-- The group address of layer 2. -/
def ptpGroup : Nat := 0x011B19000000

/-- A Sync over UDP and IPv6. -/
def ptpSix : List Byte :=
  beBytes 6 ptpGroup ++ beBytes 6 7 ++ beBytes 2 0x86DD ++ List.replicate 6 0 ++ [17, 1] ++ List.replicate 32 0 ++ beBytes 2 319 ++ beBytes 2 319 ++
  beBytes 4 0 ++ [0, 2] ++ beBytes 2 44 ++ List.replicate 40 0

/-- Port 0 enabled, with its galley in use. -/
def ptpOn (fs : List (Fld × Nat)) : State :=
  (upWith ([(PTP_PORT_CFG.PORT_EN 0, 1), (PTP_PORT_CFG.L2_EN 0, 1), (PTP_PORT_CFG.IPV6_EN 0, 1)] ++ fs)).setGal 20 {}

theorem witness_PtpMessagesArriveDepartAndPassOn_rx :
    up.halted = false ∧ up.bitF (PTP_PORT_CFG.PORT_EN 0) = false ∧ (ptpOn []).ptpFindOn 0 [] = none ∧
    (∀ c ∈ [(ptpGroup, 0, true), (ptpGroup, 1, true), (5, 0, false)], let s := ptpOn []
      let f := ptpMsg c.1 c.2.1 0
      s.bitF (PTP_PORT_CFG.PORT_EN 0) = true ∧ (s.ptpFindOn 0 f).map (fun l => (decide (ptpType f l ≤ 1), s.ptpMine 0 f l)) = some (true, c.2.2) ∧
      s.galRoom 20 = true) ∧
    (let s := (ptpOn []).setGal 20 { words := List.replicate 64 (aWord 1 true) }
     (s.gal 20).state = .normal ∧ s.galRoom 20 = false ∧ (s.gal 20).partialIn = false ∧ (s.gal 20).dropping = false) ∧
    (let s := ptpOn [(GAL_CFG.MAX_ITEM 20, 7)]
     s.galRoom 20 = true ∧ s.getF (GAL_CFG.MAX_ITEM 20) < 8) := by decide +kernel

theorem witness_PtpMessagesArriveDepartAndPassOn_tx :
    (∀ m ∈ [0, 1], let s := ptpOn []
      let f := ptpMsg ptpGroup m 0
      s.bitF (PTP_PORT_CFG.PORT_EN 0) = true ∧ s.ptpMuted 0 m = false ∧
      (s.ptpFindOn 0 f).map (fun l => (ptpType f l, ptpTwoStep f l, decide (l.tr ≠ .ipv6))) = some (m, false, true)) ∧
    (∀ n ∈ [15, 16], let s : State := (ptpOn []).setPtp 0 { txFifo := List.replicate n ⟨1, 0, 0⟩ }
      (s.ptpPort 0).txFifo.length = n) ∧
    (let s : State := (ptpOn [(PTP_PORT_CFG.ROLE 0, 2), (DTL_STATE.STATE, stLocked), (PTP_PORT_CFG.SYNC_LOG 0, 0), (PTP_PORT_CFG.ANN_LOG 0, 0)]).setPtp 0
       { syncAt := some 10, annAt := some 10 }
     s.ptpMaster 0 = true ∧
     (s.at 500000010).masterDue (s.ptpPort 0).syncAt (s.getF (PTP_PORT_CFG.SYNC_LOG 0)) = true ∧
     (s.at 500000009).masterDue (s.ptpPort 0).syncAt (s.getF (PTP_PORT_CFG.SYNC_LOG 0)) = false ∧
     (s.at 500000010).masterDue (s.ptpPort 0).annAt (s.getF (PTP_PORT_CFG.ANN_LOG 0)) = true) ∧
    up.ptpMaster 0 = false ∧ up.ready = true ∧ up.ptpCfgOk 0 = true ∧ (upWith [(PTP_PORT_CFG.ROLE 1, 1)]).ptpCfgOk 1 = false := by decide +kernel

theorem witness_PtpMessagesArriveDepartAndPassOn_tc :
    (∀ c ∈ [(ptpMsg ptpGroup 0 0, true, true), (ptpMsg ptpGroup 1 0, true, true), (ptpSix, true, true), (List.replicate 60 1, true, true),
        (List.replicate 60 1, false, true), (List.replicate 60 1, true, false)],
      let s := ptpOn [(PTP_PAIR_CFG.TC_EN 0, 1)]
      let f : Forward := { inCount := 1, inSub := 0, outSub := 0, frame := c.1, fcsOk := c.2.1, linkUp := c.2.2 }
      s.bitF (PTP_PAIR_CFG.TC_EN 0) = true ∧ beAt f.frame 0 6 ≠ s.getF (ING_ETH_MAC.MAC 0) ∧ s.tcRoom 0 f = true) ∧
    (ptpOn []).ptpFindOn 0 (List.replicate 60 1) = none ∧
    ((ptpOn []).ptpFindOn 0 ptpSix).map (fun l => (l.tr, ptpType ptpSix l)) = some (.ipv6, 0) ∧
    (let s : State := (ptpOn [(PTP_PAIR_CFG.TC_EN 0, 1)]).setPtp 0 { buffer := [(50, 65536)] }
     s.tcRoom 0 { inCount := 1, inSub := 0, outSub := 0, frame := [], fcsOk := true, linkUp := true } = false) ∧
    up.bitF (PTP_PAIR_CFG.TC_EN 0) = false ∧
    (let s : State := up.setPtp 0 { resid := [(⟨0, 1, 2⟩, 5)] }
     (s.ptpPort 0).resid = [(⟨0, 1, 2⟩, 5)]) := by decide +kernel

/-- Camera 0 switched on, its virtual channel 0 for RAW8, with its receiver as given. -/
def camOn (x : Cam) : State :=
  ((upWith [(ING_CAM_CFG.EN 0, 1), (ING_CAM_VC.EN 0 0, 1), (ING_CAM_VC.DT 0 0, 0x2A)]).setGal 0 {}).setCam 0 x

theorem witness_CameraPacketsAndFrames :
    (let s := camOn {}
     s.halted = false ∧ (s.cam 0).inj = none ∧ s.bitF (ING_CAM_CFG.EN 0) = true ∧ (s.cam 0).skip = false ∧ (s.cam 0).cur = none ∧
     s.bitF (ING_CAM_VC.EN 0 0) = true ∧ s.getF (ING_CAM_VC.DT 0 0) = 0x2A ∧ 16368 ≤ s.camLimit 0 ∧ s.galAdmits (camGalley 0) = true ∧
     0x2B ≠ s.getF (ING_CAM_VC.DT 0 0) ∧ s.camHears 0 = true ∧ (s.cam 0).vcs[(0 : Fin 4)].isOpen = false ∧ s.bitF (ING_CAM_VC.EN 0 1) = false) ∧
    up.bitF (ING_CAM_CFG.EN 0) = false ∧
    (∀ fixed ∈ [false, true], let s := camOn { cur := some { stamp := 4, vc := 0, wc := 8, idx := 0, seq := 1, first := true, fixed := fixed } }
      (s.cam 0).inj = none ∧ (s.cam 0).cur.map (fun c => (c.wc, c.fixed)) = some (8, fixed)) ∧
    (let s := camOn { vcs := Vector.replicate 4 { isOpen := true, number := 3 } }
     (s.cam 0).cur = none ∧ s.camHears 0 = true ∧ (s.cam 0).vcs[(0 : Fin 4)].isOpen = true ∧ s.bitF (ING_CAM_VC.PAT_EN 0 0) = false) := by decide +kernel

/-- Scanner port 0 on, with template 0 taking Ethertype 0x88B5: one record, a range of two bytes, the stamp of its arrival. -/
def scanOn : State :=
  { ((upWith [(ING_ETH_CFG.EN 0, 1)]).setReg (ING_TPL 0 0) 0x88B50001#64 |>.setReg (ING_TPL 0 2) 0x100000008#64 |>.setReg (ING_TPL 0 8) 0x101#64).setGal 16 {}
    with dtl := { up.dtl with count := 5000 } }

/-- A frame of n bytes of an Ethertype. -/
def etherFrame (ty n : Nat) : List Byte := beBytes 6 0x010000000000 ++ beBytes 6 7 ++ beBytes 2 ty ++ List.replicate (n - 14) 0

theorem witness_ScannerFramesAreChecked :
    up.halted = false ∧ up.bitF (ING_ETH_CFG.EN 0) = false ∧ scanOn.bitF (ING_ETH_CFG.EN 0) = true ∧
    (etherFrame 0x88B5 59).length + 4 < 64 ∧ 9216 < (etherFrame 0x88B5 9213).length + 4 ∧
    (let f := etherFrame 0x1234 60
     64 ≤ f.length + 4 ∧ f.length + 4 ≤ 9216 ∧ scanOn.tplMatch 0 f = none ∧ scanOn.ethIsPtp 0 f = false ∧ scanOn.ethLocal 0 f = true) ∧
    (let f := etherFrame 0x88B5 60
     64 ≤ f.length + 4 ∧ scanOn.ethIsPtp 0 f = false ∧ scanOn.ethLocal 0 f = true ∧ scanOn.tplMatch 0 f = some (0, f.drop 14) ∧
     ((scanOn.at 6000).tplStamp 0 (f.drop 14)).isSome = true ∧ (scanOn.tplWord 0 0).testBit 4 = false ∧
     2 + 2 * ((List.range (scanOn.tplCount 0 (f.drop 14))).filterMap (scanOn.tplPoint 0 (f.drop 14))).length ≤ scanOn.getF (GAL_CFG.MAX_ITEM (ethGalley 0)) ∧
     scanOn.galRoom (ethGalley 0) = true) := by decide +kernel

theorem witness_EncodersImuPortsAndMdio :
    (∀ ab ∈ [(true, false), (false, true), (false, false)], let s := upWith [(ING_ENC_CFG.EN 0, 1)]
      s.halted = false ∧ s.bitF (ING_ENC_CFG.EN 0) = true ∧
      (quadPhase ab.1 ab.2 + 4 - quadPhase (s.enc 0).a (s.enc 0).b) % 4 ≠ 0) ∧
    (upWith [(ING_ENC_CFG.EN 0, 1)]).bitF (ING_ENC_CFG.Z_GATE 0) = false ∧ up.bitF (ING_ENC_CFG.EN 0) = false ∧
    (let s := (upWith [(ING_ENC_CFG.EN 0, 1)]).setGal (encGalley 0) { words := List.replicate 256 (aWord 1 true) }
     (s.gal (encGalley 0)).state = .normal ∧ s.galRoom (encGalley 0) = false) ∧
    (∀ c ∈ [(0, false), (1, true)], let s := upWith [(ING_IMU_CFG.EN 0, 1), (ING_IMU_CFG.TRIG 0, 0), (ING_IMU_CFG.DRDY_FALL 0, 0), (ING_IMU_STAT.BUSY 0, c.1)]
      s.bitF (ING_IMU_CFG.EN 0) = true ∧ s.bitF (ING_IMU_CFG.TRIG 0) = false ∧ s.bitF (ING_IMU_CFG.DRDY_FALL 0) = !true ∧
      s.bitF (ING_IMU_STAT.BUSY 0) = c.2) ∧
    up.bitF (ING_IMU_CFG.EN 0) = false ∧
    (let s := upWith [(ING_IMU_CFG.EN 0, 1), (ING_IMU_CFG.TRIG 0, 1)]
     s.bitF (ING_IMU_CFG.EN 0) = true ∧ s.bitF (ING_IMU_CFG.TRIG 0) = true ∧ s.bitF (ING_IMU_STAT.BUSY 0) = false) ∧
    (let s := (upWith [(ING_IMU_STAT.BUSY 0, 1)]).setGal (imuGalley 0) { words := List.replicate 256 (aWord 1 true) }
     s.bitF (ING_IMU_STAT.BUSY 0) = true ∧ (s.gal (imuGalley 0)).state = .normal ∧ s.galRoom (imuGalley 0) = false) ∧
    (let s : State := { (upWith [(ING_IMU_STAT.BUSY 0, 1)]).setGal (imuGalley 0) {} with ing := { up.ing with imus := up.ing.imus.set 0 { acts := [.xfer [1] 240] } } }
     ((s.imu 0).acts.map spiGot).sum = 240 ∧ s.bitF (ING_IMU_STAT.BUSY 0) = true ∧ s.galRoom (imuGalley 0) = true ∧
     2 + (240 + 7) / 8 ≤ s.getF (GAL_CFG.MAX_ITEM (imuGalley 0))) ∧
    up.ready = true ∧ up.bitF (ingEn (.cam 0)) = false ∧ (up.gal (ingGalley (.cam 0))).partialIn = false ∧ (camOn {}).bitF (ingEn (.cam 0)) = true ∧
    up.bitF ING_MDIO.BUSY = false ∧
    (let s : State := { upWith [(ING_MDIO.BUSY, 1)] with ing := { up.ing with mdio := some ⟨3, 1, 1, 0⟩ } }
     s.bitF ING_MDIO.BUSY = true ∧ s.ing.mdio = some ⟨3, 1, 1, 0⟩) := by decide +kernel

/-! ### Witnesses: registration and the stipple unit -/

/-- Galley g with an item of the given words, on an engine with an open epoch. -/
def itemed (g : GalleyId) (grid : Nat) (ws : List Nat) (bad : Upset) : State :=
  { (upWith [(RGS_GRID_CFG.GRID_EN, grid)]).setGal g { words := ws.zipIdx.map (fun w =>
      if w.2 + 1 = ws.length then (aWord w.1 true).flip bad else aWord w.1 false) } with epochs := [{ anEpoch 6 0 with closeAt := none }] }

/-- The item that registration takes there. -/
def taken (g : GalleyId) (s : State) : Option (List GWord) × State := (s.at 50).galTake g

theorem witness_ItemsAreTakenAndChecked :
    (let s := itemed 12 1 [5, 52] {}
     s.halted = false ∧ (∀ p : CamPort, s.ing.cams[p].inj = none) ∧ s.rgs.work = none ∧ s.rgs.clear = none ∧ s.rgs.planes = []) ∧
    feedsRegistration 32 = false ∧ feedsRegistration 12 = true ∧
    (let s := up.setGal 12 {}
     (s.gal 12).synth = false ∧ (s.gal 12).complete = 0 ∧ s.rgs.inbox = [] ∧ (s.gutter { x := 7 }).words = []) ∧
    (let s := up.setGal 12 { synth := true }
     (taken 12 s).1.map (fun ws => ws.getLast?.map (·.isAbort)) = some (some true)) ∧
    (∀ grid ∈ [0, 1], let r := taken 12 (itemed 12 grid [5, 52, 9] {})
      r.1.map (fun ws => (ws.length, ws.getLast?.map (·.isAbort), ((ws.getD 1 { data := 0 }).data).toNat.testBit 9, ws.any (·.isPoison))) =
        some (3, some false, false, false) ∧
      r.2.bitF RGS_GRID_CFG.GRID_EN = decide (grid = 1) ∧ r.2.epochs.map (fun e => (e.holds 5, e.isSealed, e.final.isNone)) = [(true, false, true)]) ∧
    (let r := taken 12 (itemed 12 1 [5, 52, 9] { data := 3 })
     r.1.map (fun ws => (ws.any (·.isPoison), (ws.take 2).any (fun w => w.isPoison || w.isAbort))) = some (true, false)) ∧
    (let r := taken 0 (itemed 0 0 [5, 512 + 65536, 65535] {})
     r.1.map (fun ws => (((ws.getD 1 { data := 0 }).data).toNat.testBit 9, (r.2.setF ING_PAT_CFG.PAT_WORDS 1).patternKind 0 (512 % 64) ws,
       (r.2.setF ING_PAT_CFG.PAT_WORDS 2).patternKind 0 (512 % 64) ws)) = some (true, none, some 2)) ∧
    (up.getF GRD_SENSORS.MASK).testBit 0 = false := by decide +kernel

theorem witness_CalibrationGridAndSeeds :
    up.halted = false ∧ up.ready = true ∧ up.bitF RGS_CAL_CTRL.BUSY = false ∧
    (let s := home.setF RGS_CAL_CTRL.BUSY 1
     let r := s.agentGet (s.reg RGS_CAL_BASE).toNat 15360
     (match r.1 with | .ok _ => true | _ => false) = true ∧ r.2.regs = s.regs) ∧
    (upWith [(RGS_CAL_CTRL.BUSY, 1)]).bitF RGS_CAL_CTRL.BUSY = true ∧ up.calBad [] = none ∧ up.calBad [1] = some (0, 1) ∧
    up.rgs.calLoad = none ∧
    ({ up with rgs := { up.rgs with calLoad := some [1] } } : State).rgs.calLoad = some [1] := by decide +kernel

theorem witness_StippleProductsAndScreens :
    (255 : Nat) < 256 ∧ State.reset.rgs.screens[(63 : Fin 64)].draws ≤ 2 ^ 52 ∧
    (let s : State := { up with rgs := { up.rgs with screens := up.rgs.screens.set 63 { draws := 2 ^ 52 } } }
     s.rgs.screens[(63 : Fin 64)].draws = 2 ^ 52) := by decide +kernel

/-! ### Witnesses: the press -/

/-- Press 0 of an engine with its partitions and memory of zeros, holding a launch. -/
def onPress (l : Launch) (p : PressSt) : State :=
  { zeroed home with presses := State.reset.presses.set 0 { p with mode := .running, launch := some (l.ring, l.tag) }, launches := [l] }

/-- A press whose g registers hold the given values from g1 on. -/
def gprs (vs : List Nat) : PressSt := { g := Vector.ofFn (fun (i : Fin 32) => BitVec.ofNat 64 (((0 :: vs)[i.val]?).getD 0)) }

theorem witness_ScalarOperations :
    (let s := pressed aLaunch {}
     s.halted = false ∧ (s.press 0).issues = true ∧ s.launchOn 0 = some aLaunch) ∧ (31 : Reg) ≠ 0 ∧ (7 : Pred) ≠ 0 ∧ (1 : Reg) ≠ 31 := by decide +kernel

theorem witness_ControlFlow :
    (let s := pressed aLaunch {}
     let o := s.press 0
     s.halted = false ∧ o.issues = true ∧ s.launchOn 0 = some aLaunch ∧ branchTo o.pc 3 = some 3 ∧ 3 < aLaunch.hdr.count ∧ o.getG 1 ≠ 1 ∧
     branchTo o.pc (-1) = none ∧ branchTo o.pc 4 = some 4 ∧ aLaunch.hdr.count ≤ 4 ∧ (o.getG 1).toNat % 2048 < aLaunch.hdr.count ∧
     o.mode ≠ .handler ∧ s.proofPair 0 = none ∧ o.handled = none ∧ aLaunch.hdr.handler = 0xFFFF ∧ aLaunch.started = true ∧
     aLaunch.done = false ∧ aLaunch.stop = none) ∧
    (let s := pressed { aLaunch with hdr := { count := 4, handler := 2 } } (gprs [1, 4])
     let o := s.press 0
     o.getG 1 = 1 ∧ 4 ≤ (o.getG 2).toNat % 2048 ∧ o.handled = none ∧ (2 : Nat) ≠ 0xFFFF) ∧
    (let s : State := { pressed aLaunch {} with presses := State.reset.presses.set 0 { mode := .handler, launch := some (0, 5) } }
     (s.press 0).mode = .handler ∧ (s.press 0).issues = true ∧ ((s.press 0).getG 1).toNat % 2048 < aLaunch.hdr.count) := by decide +kernel

theorem witness_HoldsAndFences :
    (∀ w ∈ [aWord 7 true, (aWord 7 true).flip { data := 1 }, (aWord 7 true).flip { data := 3 }],
      let s := (pressed aLaunch {}).setGal (inboundOf 0) { words := [w] }
      s.halted = false ∧ (s.press 0).issues = true ∧ 0 < (s.gal (inboundOf 0)).visible ∧ (s.gal (inboundOf 0)).synth = false ∧
      (s.press 0).streams = []) ∧
    (aWord 7 true).found = .clean ∧ ((aWord 7 true).flip { data := 1 }).found = .single ∧ ((aWord 7 true).flip { data := 3 }).found = .double ∧
    (let s := (pressed aLaunch {}).setGal (inboundOf 0) { synth := true }
     (s.gal (inboundOf 0)).synth = true) ∧
    ((pressed aLaunch {}).gal (inboundOf 0)).available = false ∧
    (let o := (pressed aLaunch {}).press 0
     o.fence = none ∧ aLaunch.prov = false ∧ o.sb = [] ∧ o.streams = [] ∧ (pressed aLaunch {}).stk.wc = [] ∧ (pressed aLaunch {}).chn.outs = []) ∧
    ((pressed aLaunch { sb := [{ addr := 0, op := .write [1], cls := 1, epoch := 7 }] }).press 0).sb ≠ [] ∧
    ((pressed aLaunch { fence := some .order }).press 0).fence ≠ none := by decide +kernel

theorem witness_FtnOperations :
    (let s := pressed aLaunch {}
     let o := s.press 0
     s.halted = false ∧ o.issues = true ∧ s.launchOn 0 = some aLaunch ∧ aLaunch.cls ≠ 0 ∧ (47 : Nat) ≤ 47 ∧ (47 : Nat) < 48 ∧ o.bankBad = [] ∧
     o.streams = [] ∧ o.drainQ = [] ∧ (1 : VReg) ≠ 2) ∧
    (let o := (pressed aLaunch {}).press 0
     let at_ (a : BitVec 24) := (BitVec.ofNat 64 a.toNat + o.getG 0).toNat
     at_ 0x5FFC00 + 1024 ≤ 0x600000 ∧ at_ 0x5FFC00 % 64 = 0 ∧ at_ 0x5FFFE0 + 32 * 1 ≤ 0x600000 ∧ at_ 0x5FFFC0 + 32 * aLaunch.hdr.act ≤ 0x600000 ∧
     at_ 0x5FFFC0 < 0x600000 ∧ at_ 0x5FFFC0 % 32 = 0 ∧ at_ 0x5FFFF8 + 8 ≤ 0x600000 ∧ at_ 0x5FFFF8 % 8 = 0 ∧ 0x600000 < at_ 0x5FFC40 + 1024 ∧
     at_ 32 + 1024 ≤ 0x600000 ∧ at_ 32 % 64 ≠ 0) ∧
    (let s := pressed { aLaunch with cls := 0 } {}
     s.launchOn 0 = some { aLaunch with cls := 0 } ∧ (s.press 0).issues = true) ∧
    ((pressed aLaunch { drainQ := [{ set := {} }] }).press 0).drainQ = [{ set := {} }] := by decide +kernel

/-- The fields of an ARY operation of a mode. -/
def aryOf (mode : AryMode) : AryFields := { mode := mode, wslot := 0, addrA := 0x1000, addrD := 0x2000, m := 1 }

/-- A BUILD of one token. -/
def buildOf : BuildFields := { addr := 0x3000, groups := 128, m := 1 }

theorem witness_ArrayAndHandOperations :
    (∀ mode ∈ [AryMode.direct, .case, .planePair], let s := onPress aLaunch { wmode := some mode }
      s.launchOn 0 = some aLaunch ∧ (s.press 0).streams = [] ∧ (s.press 0).bankBad = [] ∧ s.canIssue 0 (.wload (aryOf mode)) ∧
      (s.press 0).wmode = some mode ∧ s.canIssue 0 (.run (aryOf mode)) ∧ (aryOf mode).drain = false ∧ (aryOf mode).m = buildOf.m ∧
      s.opFault 0 (s.press 0) (.build buildOf) = none) := by
  unfold State.canIssue
  decide +kernel

theorem witness_ArrayAndHandOperations_drains :
    (∀ mode ∈ [AryMode.direct, .planePair], let s := onPress aLaunch { wmode := some mode, drainQ := List.replicate 3 { set := {} } }
      let f : AryFields := { aryOf mode with drain := true }
      s.canIssue 0 (.run f) ∧ f.mode ≠ .case ∧ (s.press 0).wmode = some f.mode ∧ f.satEn = false ∧ f.start = false ∧ f.m = 1 ∧
      (s.press 0).drainQ.length < 4) ∧
    (aryOf .case).mode = .case ∧ ({ aryOf .case with m := 2 } : AryFields).m ≠ buildOf.m ∧
    (let s := onPress aLaunch {}
     s.canIssue 0 (.build buildOf) ∧ s.canIssue 0 (.peek 127 1 0x4000) ∧
     (∀ w ∈ [false, true], s.canIssue 0 (.hload { int8 := w, addrB := 0x1000 }) ∧ s.canIssue 0 (.hrun { int8 := w, addrA := 0x1000, m := 256 }))) := by
  unfold State.canIssue
  decide +kernel

/-- MOV fields: Bank address 0x1000, stock address 64 + g[GS], as many bytes as given, RD = g1, RA = g2, RB = g3. -/
def movOf (len : Nat) : MovFields := { rd := 1, bank := 0x1000, stock := 64, len := len, ra := 2, rb := 3 }

theorem witness_MovOperations :
    (let s := onPress aLaunch (gprs [])
     s.launchOn 0 = some aLaunch ∧ (s.press 0).streams = [] ∧ (s.press 0).bankBad = [] ∧ (s.press 0).sb = [] ∧
     stkUnit (movStockAddr (s.press 0) (movOf 64)) = s.unit ∧ stkTier (movStockAddr (s.press 0) (movOf 64)) = 0 ∧ s.proofPair 0 = none ∧
     aLaunch.prov = false ∧ aLaunch.deps = [] ∧
     s.canIssue 0 (.mov .sload (movOf 64)) ∧ s.refusal { src := s.unit, agent := 0, cls := aLaunch.cls, op := .read 64, addr := 64 } = none ∧
     s.inInit 64 64 = false ∧ s.pptHolders none 64 64 = [] ∧ s.poisoned 64 64 = false ∧
     s.canIssue 0 (.mov .sstore (movOf 64)) ∧ s.sbShort 0 1 = false) ∧
    (∀ aop ∈ [0, 1, 2], let s := onPress aLaunch (gprs [])
      let f : MovFields := { movOf 0 with aop := aop }
      let q : StkReq := { src := s.unit, agent := 0, cls := aLaunch.cls, op := satomOp aop 0 0, addr := 64, epoch := 7 }
      s.canIssue 0 (.mov .satom f) ∧ s.refusal q = none ∧ s.inInit 64 8 = false ∧ s.pptForeign none 64 8 = false ∧ s.poisoned 64 8 = false) ∧
    (let s := onPress aLaunch (gprs [0, 0x2000])
     s.canIssue 0 (.mov .gsend { movOf 16 with dest := 1 }) ∧ (s.gal (inboundOf 1)).state = .normal ∧ (s.gal (inboundOf 1)).dropping = false ∧
     (s.gal (inboundOf 1)).partialIn = false ∧ (s.gal (inboundOf 1)).words.length + 16 / 8 ≤ galDepth (inboundOf 1) ∧
     s.canIssue 0 (.mov .bcopy (movOf 64))) ∧
    (let s := (onPress aLaunch (gprs [])).setGal (inboundOf 0) { words := [aWord 7 true] }
     s.canIssue 0 (.mov .grecv (movOf 8)) ∧ (s.gal (inboundOf 0)).words = [aWord 7 true] ∧ (s.gal (inboundOf 0)).visible = 1 ∧
     (s.gal (inboundOf 0)).synth = false ∧ (aWord 7 true).isEnd = true ∧ (aWord 7 true).found ≠ .double) := by
  unfold State.canIssue
  decide +kernel

/-- Key 0 of the directory, of a brick whose LIVE version is of an epoch. -/
def dirLive (e : Nat) : DirEnt :=
  { key := 0, valid := true, tomb := false, liveLate := false, priorLate := false, liveE := e, live := 0, priorE := 0, prior := noBrick, guardE := 0,
    guard := noBrick }

/-- A press about to BRICK key 0 for epoch 7, with the directory and the pool in the stock. -/
def bricking (d : List Byte) : State :=
  let s := withs (onPress aLaunch (gprs [])) [(RGS_DIR_BASE.BASE, 0x100000), (RGS_POOL_BASE.BASE, 0x200000)]
  { s with stk := { s.stk with dram := Mem.write {} 0x100000 d } }

/-- That press once its BRICK has begun. -/
def brickBegun (s : State) : State :=
  s.modPress 0 (fun p => { p with nextSid := 1, streams :=
    [{ sid := 0, unit := 2, kind := 2, rd := 1, todo := some (.brick 0 0x1000 7), was := p.bank, left := lineRuns [(0x1000, 4096, 64)] }] })

theorem witness_MovOperations_brick :
    (let s : State := { bricking [] with rgs := { up.rgs with clear := some (0, 32) } }
     s.canIssue 0 (.mov .brick (movOf 0)) ∧ s.rgs.clear.isSome = true) ∧
    (∀ c ∈ [([], BrickSeen.absent), ((dirLive 8).bytes, .fresh), ((dirLive 7).bytes, .version 0 7 false false)], let s := bricking c.1
      let r := (brickBegun s).brickSee 0 7 false
      s.canIssue 0 (.mov .brick (movOf 0)) ∧ r.1 = .ok c.2 ∧ r.2.presses = (brickBegun s).presses) ∧
    (let b := brickBegun (bricking (dirLive 7).bytes)
     let r := b.agentGet (b.brickAddr 0) 4096
     (match r.1 with | .ok _ => true | _ => false) = true ∧ r.2.presses = b.presses) := by
  unfold State.canIssue
  decide +kernel

/-- A press about to FWALK sequence 0, with RA and RB as given and sequence 0 in a state. -/
def walking (ra rb : Nat) (x : Sequence) : State :=
  let s := withs (onPress aLaunch (gprs [0, ra, rb])) [(SCN_POOL_CFG.GRAINS, 64), (SCN_POOL_BASE.BASE, 0x100000), (SCN_GEOM.D16, 1), (SCN_GEOM.A, 2),
    (SCN_GEOM.HEADS_M1, 0)]
  { s with scn := { s.scn with seqs := [(0, x)] } }

theorem witness_MovOperations_fwalk :
    (∀ c ∈ [(0x10000, 2 ^ 32, SeqState.free), (0x30000, 0, .resident), (0x10000, 2 ^ 32, .resident), (0x10000, 2 ^ 32, .swapped)],
      let s := walking c.1 c.2.1 { state := c.2.2, kLog2 := 4, folios := [0] }
      let w := WalkArgs.of ((s.press 0).getG 2) ((s.press 0).getG 3)
      s.canIssue 0 (.mov .fwalk (movOf 0)) ∧ w.seq = 0 ∧ (s.seq 0).state = c.2.2 ∧ w.v = true ∧ w.indexed = decide (c.1 = 0x30000) ∧
      (s.press 0).walks = []) ∧
    (let s := walking 0x10000 (2 ^ 32) { state := .resident, kLog2 := 4, folios := [0] }
     let w := WalkArgs.of ((s.press 0).getG 2) ((s.press 0).getG 3)
     let a := s.folioAddr 0
     w.replay = false ∧ w.hi = 1 ∧ w.lo < (s.seq 0).folios.length ∧ w.shareR = 0 ∧ w.shareN = 1 ∧ w.tokens = 0 ∧
     0x1000 + s.walkBytes w (2 ^ 4) ≤ 0x600000 ∧ stkUnit a = s.unit ∧ stkTier a = 0 ∧
     s.refusal { src := s.unit, agent := agentOwn, own := true, op := .read (s.folioBytes 4), addr := a } = none ∧
     s.inInit a (s.folioBytes 4) = false ∧ s.pptHolders none a (s.folioBytes 4) = [] ∧ s.poisoned a (s.folioBytes 4) = false) ∧
    aLaunch.started = true ∧ aLaunch.done = false ∧ aLaunch.stop = none := by
  unfold State.canIssue
  decide +kernel

/-! ### Witnesses: slugs, streams and stores -/

/-- A press whose slug memory starts with the slug of a number. -/
def slugged (w : Nat) : PressSt := { slugs := Mem.write {} 0 (leBytes 128 w) }

/-- A slug with one CTL operation. -/
def ctlSlug (o : CtlOp) : Nat := ((encodeCtl o).getD 0) * 2 ^ 96 + 1

/-- Slugs of one CTL operation: one that goes on, one held, one that faults. -/
theorem witness_SlugsStreamsAndStores :
    (∀ c ∈ [(0, false, none), (ctlSlug (.gwait false 1), true, none), (ctlSlug .trap, false, some (0, 6, 0))],
      let s := pressed aLaunch (slugged c.1)
      let o := s.press 0
      let s1 := (s.at 10).modPress 0 (fun p => { p with cycle := p.cycle + 1 })
      let g := decodeSlug (leNat (o.slugs.read (128 * o.pc) 128))
      s.halted = false ∧ s.launchOn 0 = some aLaunch ∧ o.issues = true ∧ o.streams = [] ∧ o.sb = [] ∧ o.bubble = 0 ∧ o.settle = false ∧
      o.fence = none ∧ o.stopAt = none ∧ o.slugBad = [] ∧ s1.slugHeld 0 g (g.running (s1.press 0)) = c.2.1 ∧
      (c.2.1 = false → s1.slugFault 0 (s1.press 0) g = c.2.2) ∧ (c.1 = 0 → g.running (s1.press 0) = [] ∧ o.pc + 1 < aLaunch.hdr.count)) ∧
    (let o := (pressed aLaunch { slugBad := [(0, 2)] }).press 0
     o.issues = true ∧ o.streams = [] ∧ (badWords o.slugBad (128 * o.pc) 128).any (fun e => decide (e.2 ≠ 1)) = true) ∧
    (let s := { pressed aLaunch {} with presses := State.reset.presses.set 0 { mode := .stopping, launch := some (0, 5) } }
     s.launchOn 0 = some aLaunch ∧ (s.press 0).issues = false ∧ (s.press 0).stopAt = none) := by decide +kernel

/-- A store of one byte in the store buffer. -/
def aStore : SbEntry := { addr := 64, op := .write [1], cls := 1, epoch := 7 }

/-- Pair 0 enabled: presses 0 and 4. -/
def paired (l : Launch) (p : PressSt) (x : ProofPair) : State :=
  let s := withs (pressed l p) [(GRD_PAIR.EN 0, 1), (GRD_PAIR.PRIMARY 0, 0), (GRD_PAIR.SHADOW 0, 4)]
  { s with grd := { s.grd with pairs := s.grd.pairs.set 0 x } }

theorem witness_SlugsStreamsAndStores_stores :
    (let s := onPress aLaunch { sb := [aStore] }
     let q : StkReq := { src := s.unit, agent := 0, cls := 1, op := .write [1], addr := 64, epoch := 7, owner := aStore.ownerNow aLaunch s.unit }
     s.halted = false ∧ s.launchOn 0 = some aLaunch ∧ (s.press 0).sb = [aStore] ∧ (s.press 0).streams = [] ∧ s.proofPair 0 = none ∧
     aLaunch.verdict = none ∧ stkUnit 64 = s.unit ∧ stkTier 64 = 0 ∧ s.refusal q = none ∧ s.inInit 64 1 = false ∧
     s.pptForeign q.owner 64 1 = false ∧ s.pptFull 64 1 = false) ∧
    (let s := paired { aLaunch with cls := 0 } { sb := [aStore] } {}
     s.proofPair 0 = some (0, false) ∧ (s.proof 0).stopped = false ∧ (s.proof 0).a.length < 64 ∧ (s.proof 0).b = []) ∧
    (let x : PStream := { sid := 3, unit := 2, kind := 2, rd := 1, val := some 5, was := {} }
     let s := pressed aLaunch { streams := [x] }
     (s.press 0).streams = [x] ∧ x.todo = none ∧ (4 : Nat) ≠ x.sid) ∧
    (upWith [(SCP_ID.PRESS_MAP, 2)]).ready = true ∧ ((upWith [(SCP_ID.PRESS_MAP, 2)]).getF SCP_ID.PRESS_MAP).testBit 1 = true ∧
    ((upWith [(SCP_ID.PRESS_MAP, 2)]).getF SCP_ID.PRESS_MAP).testBit 0 = false ∧
    (∀ e ∈ [(some (1, 2), none), (some (1, 2), some (1, 2))],
      let s := paired { aLaunch with cls := 0 } {} { endA := e.1, endB := e.2, endAt := 1000 }
      s.launchOn 0 = some { aLaunch with cls := 0 } ∧ (s.pairPresses 0).1 = 0 ∧ s.proofPair 0 ≠ none ∧ (s.proof 0).stopped = false ∧
      (s.proof 0).endA = e.1 ∧ (s.proof 0).endB = e.2 ∧ max s.dtl.count 32999 < (s.proof 0).endAt + 64 * 500 ∧
      (s.proof 0).endAt + 64 * 500 ≤ max s.dtl.count 33000) := by decide +kernel

/-- Each slot has an operation with a word, and a word with an operation. -/
theorem witness_SlotOperationsReadBack :
    (∀ op ∈ [SlotOp.ctl .trap, .run (aryOf .case), .build buildOf, .hload { int8 := true }, .mov .sload (movOf 64), .nop 4],
      op.encode ≠ none ∧ op.slot < 6 ∧ op.encode.any (fun w => decide (w < 2 ^ slotBits op.slot) && decide (decodeSlot op.slot w = some op)) = true) :=
  by decide +kernel

/-! ### Witnesses: the chain -/

/-- An engine whose west port is in a state, and as given. -/
def ported (st : Nat) (x : ChnPort) : State :=
  let s := upWith [(CHN_PORT_STAT.STATE 0, st), (CHN_ID.ID_VALID, 1)]
  { s with chn := { s.chn with ports := s.chn.ports.set 0 x } }

/-- A request of unit 3 to this unit, and one to unit 3. -/
def toHere : Msg := { op := opRead, src := 3, dst := 0, tag := 9, len := 8, addr := 64 }
def toThere : Msg := { toHere with src := 0, dst := 3 }

/-- The map of a ring of this unit and unit 3. -/
def ring2 : ChainMap := { mode := 1, ids := [0, 3], cuts := [] }

theorem witness_PortsExchangeMessages :
    (ported psDown {}).halted = false ∧ (ported psDown {}).portUp 0 = false ∧ (ported psUp {}).portUp 0 = true ∧
    (ported psUp {}).msgPasses 0 toHere = false ∧ (ported psUp {}).msgPasses 0 toThere = true ∧
    (let x := (ported psUp {}).port 0
     (0 : Nat) = x.rxSeq ∧ (5 : Nat) ≠ x.rxSeq ∧ x.held = false ∧ x.nak = none ∧ x.owed = ⟨0, 0, 0, 0⟩ ∧ x.heldFlits + msgFlits toThere ≤ 512) ∧
    (∀ n ∈ [0, 8], let x := (ported psUp { replay := [⟨0, n, toThere⟩] }).port 0
      x.replay.any (fun e => decide (e.from 0 ≠ 0) && decide (8 ≤ e.resends)) = decide (n = 8)) ∧
    ((ported psUp { held := true }).port 0).held = true ∧
    ((ported psUp { nak := some 4 }).port 0).nak.isSome = true ∧ ((ported psUp { nak := some 4 }).port 0).held = false ∧
    ((ported psUp { owed := { ctrl := 1, req := 0, wdata := 0, resp := 0 } }).port 0).owed ≠ ⟨0, 0, 0, 0⟩ ∧
    (∀ came ∈ [false, true], let x := (ported psUp { passing := [⟨toThere, came⟩] }).port 0
      x.passing = [⟨toThere, came⟩] ∧ (ported psUp { passing := [⟨toThere, came⟩] }).chn.inject = [] ∧
      msgFlits toThere + (if came then 0 else 33) ≤ x.credits.of (msgVc toThere)) ∧
    (∀ c ∈ [({} : Credits), ⟨0, 33, 0, 0⟩], let s := ported psUp { credits := c }
      let s : State := { s with chn := { s.chn with inject := [toThere], map := { ring2 with mode := 2, cuts := [0] } } }
      s.chn.inject = [toThere] ∧ (s.port 0).passing = [] ∧ s.routeTo toThere.dst = some 0 ∧
      (msgFlits toThere + 33 ≤ (s.port 0).credits.of (msgVc toThere) ∨ (s.port 0).credits.of (msgVc toThere) < msgFlits toThere + 33)) := by
  decide +kernel

/-- The small states have no undecided identity. -/
theorem witness_settled : (ported psUp {}).settled ∧ (ported psUp { replay := [⟨0, 8, toThere⟩] }).settled := by
  unfold State.settled
  decide +kernel

/-- A unit that takes part in a walk, root or not. -/
def walker (root : Nat) (w : EnumWalk) : State :=
  let s := withs (ported psUp {}) [(MKR_STATUS.PHASE, 0x0B), (CHN_ID.ROOT, root)]
  { s with chn := { s.chn with walk := w } }

/-- A probe of serial n with some IDs taken. -/
def probeOf (used n : Nat) : EnumBody := { used := BitVec.ofNat 16 used, pos := 1, serial := n, ids := [(0, n)] }

theorem witness_UnitsJoinAndLeaveTheChain :
    ((inPhase phRom).enumOn = false ∧ (inPhase phRom).halted = false) ∧
    (let s := walker 0 {}
     s.halted = false ∧ s.enumOn = true ∧ s.bitF CHN_ID.ROOT = false ∧ s.chn.walk.lowest = none ∧ idChoice s.sticky 1 = some 1 ∧
     (probeOf 1 7).pos < 16 ∧ s.portUp (otherPort 1) = true ∧ s.portUp (otherPort 0) = false ∧ idChoice s.sticky 65535 = none) ∧
    (let s := walker 0 { lowest := some 7 }
     s.enumOn = true ∧ s.bitF CHN_ID.ROOT = false ∧ s.chn.walk.lowest = some (probeOf 1 7).serial ∧ (7 : Nat) < (probeOf 1 8).serial ∧
     s.chn.walk.lowest ≠ some 8) ∧
    (let s := walker 1 { walking := true }
     s.bitF CHN_ID.ROOT = true ∧ s.enumOn = true ∧ s.otp.serial = (probeOf 1 s.otp.serial).serial ∧ s.chn.walk.walking = true ∧
     s.chn.walk.west = none ∧ s.portUp 0 = true ∧ s.otp.serial < (probeOf 1 (s.otp.serial + 1)).serial) ∧
    (let s := walker 1 {}
     let s : State := { s with otp := { s.otp with serial := 9 } }
     s.enumOn = true ∧ (probeOf 1 8).serial < s.otp.serial ∧ idChoice s.sticky (probeOf 1 8).used.toNat = some 1) ∧
    (let s := (walker 1 {}).setF MKR_STATUS.ENUM_DONE 1
     let s : State := { s with chn := { s.chn with map := ring2 } }
     s.bitF CHN_ID.ROOT = true ∧ s.chn.walk.walking = false ∧ s.bitF MKR_STATUS.ENUM_DONE = true ∧ s.chn.heldIds = [] ∧
     lowestFree (s.chn.map.ids.foldl (fun a u => a ||| 2 ^ u) 0) = some 1 ∧ (3 : Nat) ∈ s.chn.map.ids ∧ (2 : Nat) ∉ s.chn.map.ids) ∧
    (let s : State := { walker 1 {} with chn := { (walker 1 {}).chn with heldIds := [(3, 44)] } }
     tabHas s.chn.heldIds 3 = true) ∧
    (let s := walker 0 { held := some (1, probeOf 1 7) }
     s.chn.walk.held = some (1, probeOf 1 7) ∧ s.chn.walk.walking = false) ∧
    (walker 0 {}).chn.walk.held = none := by decide +kernel

/-- A unit of the ring of two, with links cut as given and its west port in a state. -/
def linked (st : Nat) (fs : List (Fld × Nat)) (cuts : List Nat) (x : ChnPort) : State :=
  let s := withs (ported st x) fs
  { s with chn := { s.chn with map := { ring2 with cuts := cuts } } }

theorem witness_LinksFoldHealAndRetrain :
    ((linked psUp [] [] {}).halted = false ∧ (linked psUp [] [] {}).portUp 0 = true ∧ (linked psDown [] [] {}).portUp 0 = false ∧
      (linked psDown [] [] {}).getF (CHN_PORT_STAT.STATE 0) = psDown ∧ (1 : Port) ≠ 0) ∧
    (let s := linked psUp [] [] { replay := [⟨0, 0, toThere⟩] }
     s.portUp 0 = true ∧ (s.port 0).replay ≠ []) ∧
    (linkAt (linked psUp [] [] {}).chn.map 3 0 = some 0 ∧ (linked psUp [] [] {}).chn.map.cuts.contains 0 = false ∧
      (linked psUp [] [0] {}).chn.map.cuts.contains 0 = true) ∧
    (let s := linked psUp [(CHN_PORT_STAT.FOLDED 0, 1)] [] {}
     s.portUp 0 = true ∧ s.bitF (CHN_PORT_STAT.FOLDED 0) = true ∧ (linked psUp [] [] {}).bitF (CHN_PORT_STAT.FOLDED 0) = false) ∧
    (∀ r ∈ [({ lane := 3, lost := true } : LaneReport), { lane := 3, symbols := 2 ^ 32 }], let s := linked psUp [] [] {}
      (r.lost = true ∨ s.getF (CHN_PORT_CFG.LANE_LIMIT 0) < r.symbols) ∧ s.bitF (CHN_PORT_STAT.SPARE_USED 0) = false ∧ r.lane < 32) ∧
    (linked psUp [(CHN_PORT_STAT.SPARE_USED 0, 1)] [] {}).bitF (CHN_PORT_STAT.SPARE_USED 0) = true ∧
    ((0 : Nat) ≤ (linked psUp [] [] {}).getF (CHN_PORT_CFG.LANE_LIMIT 0)) ∧
    ((linked psRetrain [] [] {}).getF (CHN_PORT_STAT.STATE 0) = psRetrain ∧ (linked psUp [] [] {}).getF (CHN_PORT_STAT.STATE 0) ≠ psRetrain) ∧
    (∀ w ∈ [0, 1], let s := linked psUp [] [] { overWindows := w }
      s.getF (CHN_PORT_CFG.FORCE_RATE 0) = 0 ∧ s.getF (CHN_PORT_STAT.RATE 0) = 0 ∧ s.getF (CHN_PORT_CFG.REPLAY_LIMIT 0) < 2 ^ 32 ∧
      0 ≤ s.getF (CHN_PORT_CFG.REPLAY_LIMIT 0) ∧ (s.port 0).overWindows = w ∧ (s.port 0).sinceUp = none) ∧
    (∀ x ∈ [false, true], let s := linked psUp [(CHN_PORT_STAT.RATE 0, 1)] [] { dirty := x }
      s.getF (CHN_PORT_STAT.RATE 0) = 1 ∧ (s.port 0).dirty = x ∧ s.portUp 0 = true) := by decide +kernel

/-- A unit of that ring with its partitions, a memory of zeros, and requests under way. -/
def asked (outs : List Outstanding) : State :=
  let s := (zeroed home).setF (STK_PART_CFG.OWNERS 0) 0xFFFF
  { s with chn := { s.chn with map := ring2, outs := outs } }

theorem witness_RemoteRequestsAreAnswered :
    (let s := asked []
     s.halted = false ∧ s.bitF PKG_PFAIL_STATUS.PFAIL = false ∧
     (let r := (s.at 10).homeDo (msgReq toHere (.read 8))
      r.1.status = .ok ∧ r.1.deps = [] ∧ r.2.unit = s.unit) ∧
     (let r := (s.at 10).homeDo (msgReq { toHere with data := [1] } (.write [1]))
      r.1.status = .ok ∧ r.1.deps = [] ∧ r.2.unit = s.unit) ∧
     (let m : Msg := { toHere with op := opAtomic, stat := 0, inline := leBytes 8 5 }
      let r := (s.at 10).homeDo (msgReq m (.fetchAdd 5))
      (s.chn.atomics[Fin.ofNat 16 m.src]).find? (fun e => decide (e.1 = m.tag)) = none ∧ msgAtomic m = some (.fetchAdd 5) ∧ r.1.status = .ok ∧
      r.1.deps = [] ∧ r.2.chn = s.chn) ∧
     (s.duraFlush 3).1 = true) ∧
    (let s := held (asked []) 0
     let r := (s.at 10).homeDo (msgReq toHere (.read 8))
     r.1.status = .wait ∧ r.2.unit = s.unit) ∧
    (let s : State := { asked [] with stk := { (asked []).stk with poison := [(1, true)] } }
     let r := (s.at 10).homeDo (msgReq toHere (.read 8))
     r.1.status = .poison ∧ r.2.unit = s.unit) ∧
    (let s : State := { asked [] with chn := { (asked []).chn with atomics := (asked []).chn.atomics.set 3 [(9, 77)] } }
     (s.chn.atomics[Fin.ofNat 16 toHere.src]).find? (fun e => decide (e.1 = toHere.tag)) = some (toHere.tag, 77)) ∧
    (let s : State := { asked [] with pkg := { up.pkg with suspended := true }, stk := { (asked []).stk with leaves := [(0, { dirty := true, dura := 8 })] } }
     (s.duraFlush 3).1 = false) ∧
    (upWith [(PKG_PFAIL_STATUS.PFAIL, 1)]).bitF PKG_PFAIL_STATUS.PFAIL = true := by decide +kernel

theorem witness_RemoteRequestsAreAnswered_answers :
    (∀ op ∈ [opRead, opAtomic, opWrite, opFlush], let q : Outstanding := { msg := { toThere with op := op, tag := 9, dst := 3 }, agent := 0, folds := 0 }
      let m : Msg := { op := opRdata, src := 3, tag := 9 }
      let s := asked [q]
      s.chn.outs = [q] ∧ q.answer = none ∧ q.msg.tag = m.tag ∧ q.msg.dst = m.src ∧ m.prov = false ∧ q.agent ≠ agentGone ∧ q.agent ≠ agentHost ∧
      s.rep.ckpt = none ∧ q.msg.op ∈ [opRead, opWrite, opAtomic, opFlush]) ∧
    (∀ c ∈ [(agentHost, opWrite), (agentGone, opRead)],
      let q : Outstanding := { msg := { toThere with op := c.2 }, agent := c.1, folds := 0 }
      (asked [q]).chn.outs = [q] ∧ q.agent = c.1 ∧ q.msg.op = c.2) ∧
    ((asked []).chn.outs = [] ∧ (asked []).rep.ckpt = none) ∧
    (∀ n ∈ [0, 1], let q : Outstanding := { msg := toThere, agent := 0, folds := 0 }
      let s := (asked [q]).setF CHN_FOLD_STAT.FOLDS n
      s.chn.outs = [q] ∧ s.folds = n ∧ q.resent = false ∧ s.reachable q.msg.dst = true) ∧
    (let m : Msg := { op := opRegResult, src := 3, tag := 9 }
     let s : State := { asked [] with chn := { (asked []).chn with proxy := some { op := opRegRead, dst := 3, tag := 9 } } }
     s.chn.proxy.map (fun q => decide (q.tag = m.tag ∧ q.dst = m.src)) = some true ∧ (asked []).chn.proxy = none) ∧
    (∀ root ∈ [0, 1], let s := messaging (upWith [(CHN_ID.ROOT, root)])
      s.bus.msixOn = true ∧ s.bus.fnMask = false ∧ s.bus.vecMask.getLsbD (s.getF CHN_PROXY_VEC.PROXY_VEC) = false ∧
      s.bitF CHN_ID.ROOT = decide (root = 1)) := by decide +kernel

/-! ### Witnesses: the stock -/

/-- An access of unit 3, turned away or performed. -/
theorem witness_StockAccessesArePerformed :
    (let s := upWith [(PKG_PFAIL_STATUS.PFAIL, 1)]
     s.halted = false ∧ s.bitF PKG_PFAIL_STATUS.PFAIL = true ∧ (3 : Nat) ≠ s.unit) ∧
    (let s := zeroed home
     let a : Access := { src := 3, op := .write [1], addr := 64 }
     stkUnit a.addr = s.unit ∧ s.refusal (accessReq a) = some (false, false)) ∧
    (∀ op ∈ [AccessOp.read 8, .write [1], .fetchAdd 1, .compareSwap 0 1, .swap 1],
      let s := asked []
      let a : Access := { src := 3, op := op, addr := 64 }
      let q := accessReq a
      s.bitF PKG_PFAIL_STATUS.PFAIL = false ∧ a.host = false ∧ stkUnit a.addr = s.unit ∧ s.refusal q = none ∧
      s.inInit a.addr (accLen a.op) = false ∧ stkTier a.addr = 0 ∧ a.ecc = .clean ∧ s.pptHolders q.owner a.addr 8 = [] ∧
      s.poisoned a.addr 8 = false ∧ s.pptForeign q.owner a.addr 8 = false ∧ s.pptFull a.addr 1 = false ∧ a.pid = none) ∧
    (let s : State := { asked [] with stk := { (asked []).stk with poison := [(1, true)] } }
     s.poisoned 64 8 = true) ∧
    (let s := held (asked []) 0
     let q := accessReq { src := 3, op := .read 8, addr := 64 }
     s.pptHolders q.owner 64 8 ≠ [] ∧ s.stk.waiting.contains (agentRemote, 64) = false ∧ s.refusal q = none ∧
     s.pptForeign (accessReq { src := 3, op := .write [1], addr := 64 }).owner 64 1 = true) ∧
    (let a : Access := { src := 3, op := .write [1], addr := 64, pid := some 9 }
     a.pid = some 9 ∧ (asked []).pptForeign (accessReq a).owner 64 1 = false ∧ tabHas (asked []).stk.ppt 0 = false) ∧
    ((held (asked []) 0).pptHolders none 64 1 ≠ [] ∧ (held (asked []) 0).stk.waiting.contains (0, 64) = false ∧ (asked []).pptHolders none 64 1 = []) ∧
    (let x : WcLine := { line := 1, first := 500, bytes := [(0, 7), (1, 8), (9, 9)], owner := none, epoch := 0, agent := agentHost, cls := 1 }
     let s : State := { asked [] with stk := { (asked []).stk with wc := [x] } }
     s.stk.wc = [x] ∧ x.first + 1000 ≤ max s.dtl.count 1500 ∧ max s.dtl.count 1499 < x.first + 1000 ∧
     (runsOf x.bytes).all (fun r => decide (stkUnit (64 * 1 + r.1) = s.unit)) = true) := by decide +kernel

/-- An engine with a cache of an eighth of the board's DRAM, and its stock as given. -/
def cached (fs : List (Fld × Nat)) (f : Stk → Stk) : State :=
  let s := withs (zeroed home) ((STK_CFG.CACHE_EIGHTHS, 1) :: fs)
  { s with stk := f s.stk }

theorem witness_LeavesMoveBetweenCacheAndFlash :
    (let s := cached [] (fun k => { k with fills := [5] })
     s.halted = false ∧ s.resident 5 = false ∧ s.cold 5 = false ∧ s.stk.fills.contains 5 = true ∧ (s.setOf 5).length < 8) ∧
    (let s := cached [] (fun k => { k with leaves := [(5, {})] })
     s.resident 5 = true) ∧
    (let w : WriteBack := { leaf := 5, data := {}, dura := 0 }
     let s := cached [] (fun k => { k with leaves := [(5, {})], wbs := [w] })
     s.stk.wbs.find? (fun w => decide (w.leaf = 5)) = some w ∧ s.pkg.suspended = false ∧ s.cold 5 = false ∧ (s.leaf 5).again = false ∧
     ({ s with pkg := { s.pkg with suspended := true } } : State).pkg.suspended = true) ∧
    (∀ d ∈ [false, true], let x : Leaf := { dirty := d, dirtyAt := 0 }
      let s := cached [] (fun k => { k with leaves := [(5, x)] })
      let s : State := { s with dtl := { s.dtl with count := 500000000 } }
      s.stk.leaves = [(5, x)] ∧ s.stk.wbs = [] ∧ s.leafProv 5 = false ∧ s.pkg.suspended = false ∧ x.dirty = d ∧
      x.dirtyAt + 500000000 ≤ s.dtl.count ∧ s.ready = true) ∧
    (cached [] id).stk.leaves = [] ∧ (cached [] id).dtl.count < 0 + 500000000 ∧
    (∀ kind ∈ [0, 1], let s := cached [(STK_PIN_CFG.LEAVES 0, 16), (STK_PIN_CFG.KIND 0, kind)] id
      ((s.setF (STK_PIN_CFG.EN 0) 1).setF (STK_PIN_CFG.PARTIAL 0) 0).pinOf 5 = some (0, decide (kind = 1))) ∧
    (cached [] id).hotWanted 5 = false ∧
    (let s := cached [(STK_PIN_CFG.LEAVES 0, 16), (STK_PIN_CFG.EN 0, 1), (STK_PIN_CFG.LEAVES 1, 16), (STK_PIN_CFG.EN 1, 1)] id
     (s.setF (STK_PIN_CFG.EN 0) 0).hotWanted 5 = true) ∧
    (upWith [(LIM_CFG.BUSY_PCT, 80)]).getF LIM_CFG.BUSY_PCT ≤ 80 ∧ 79 < (upWith [(LIM_CFG.BUSY_PCT, 80)]).getF LIM_CFG.BUSY_PCT := by decide +kernel

/-! ### Witnesses: guard, repair, failover -/

/-- A guard launch of epoch 7 that ran to END, or stopped. -/
def guardLaunch (st : Option Stop) : Launch := { aLaunch with cls := 0, done := true, out := 0x6000, stop := st }

/-- The record of epoch 7 with nothing published yet, and the engine that holds it with a verdict in the stock. -/
def guardEpoch : EpochRec := { anEpoch 7 100 with closed := true }
def guarded (magic : Nat) (st : Option Stop) : State :=
  let s := withs (zeroed home) [(GRD_CFG.EN, 1), (GRD_STATUS.ARMED, 1), (GRD_CFG.VALID_N, 1), (GRD_TIME.DEADLINE_US, 10), (DTL_EPOCH_CFG.PERIOD_US, 100)]
  { s with launches := [guardLaunch st], epochs := [guardEpoch],
           stk := { s.stk with dram := Mem.write {} 0x6000 (leBytes 4 7 ++ leBytes 4 magic) } }

theorem witness_GuardPublishesAndMisses :
    (let s := upWith [(SCP_ID.PRESS_MAP, 0xFFFF)]
     let v : BitVec 64 := ((GRD_PAIR.EN 0).put 0 1) ||| ((GRD_PAIR.SHADOW 0).put 0 4)
     s.halted = false ∧ s.ready = true ∧ s.pairRuns 0 = false ∧ (GRD_PAIR.EN 0).get v = 1 ∧ s.pairOk 0 ((GRD_PAIR.PRIMARY 0).get v) ((GRD_PAIR.SHADOW 0).get v) = true ∧
     s.pairOk 0 0 1 = false ∧ s.bitF (GRD_PAIR.EN 0) = false ∧ (GRD_PAIR.EN 0).get (0#64) = 0) ∧
    (upWith [(GRD_PAIR.EN 0, 1)]).bitF (GRD_PAIR.EN 0) = true ∧ (paired { aLaunch with cls := 0 } {} {}).pairRuns 0 = true ∧
    (0xC301#64).getLsbD 0 = true ∧ GRD_CTRL.KEY.get (0xC301#64) = 0xC3 ∧ GRD_CTRL.KEY.get (1#64) ≠ 0xC3 ∧
    ({ home with stk := { home.stk with initMask := 1 } } : State).stk.initMask = 2 ^ (0 : Fin 4).val ∧
    (∀ c ∈ [(0x5A5A0F0F, none), (0, none), (0x5A5A0F0F, some { status := stTimeout })],
      let s := guarded c.1 c.2
      let l := guardLaunch c.2
      s.epochRec 7 = some guardEpoch ∧ s.guardLaunches 7 = [l] ∧ s.rgs.guards = [] ∧ s.rgs.freeing = [] ∧ s.bitF GRD_CFG.EN = true ∧
      guardEpoch.closed = true ∧ guardEpoch.published = false ∧ guardEpoch.missed = false ∧ l.done = true ∧ l.single = false ∧ l.stop = c.2) ∧
    (∀ m ∈ [0x5A5A0F0F, 0], let s := (guarded m none).at 200
      let r := s.ownRead 0x6000 64
      r.2 = s ∧ r.1.status = .ok ∧ leAt r.1.data 0 4 = guardEpoch.num ∧ leAt r.1.data 4 4 = m ∧ byteAt r.1.data 8 % 2 = 0 ∧
      s.causesOf guardEpoch [guardLaunch none] [{ epoch := 7, clear := true, katFail := false }] = 0 ∧ s.bitF GRD_STATUS.LATCHED = false ∧
      max 1 (s.getF GRD_CFG.VALID_N) ≤ s.grd.run + 1) ∧
    (up.guardLaunches 7 = [] ∧
     (let s : State := { guarded 0 none with launches := [] }
      s.epochRec 7 = some guardEpoch ∧ s.rgs.guards = [] ∧ (s.at 5100).deadlineDue guardEpoch (max s.dtl.count 5100) = true ∧
      (s.at 5099).deadlineDue guardEpoch (max s.dtl.count 5099) = false)) := by decide +kernel

/-- An engine with press 0 in its map and in self-test as given. -/
def testing (fs : List (Fld × Nat)) (x : Bist) : State :=
  let s := upWith ((SCP_ID.PRESS_MAP, 0xFFFF) :: fs)
  { s with rep := { s.rep with bist := s.rep.bist.set 0 x } }

theorem witness_RepairAndFencing :
    ((testing [] {}).halted = false ∧ (testing [] {}).ready = true ∧ (testing [] {}).pressOn 0 = true) ∧
    (let v := REP_CTRL.KEY.put 0 0x5C ||| REP_CTRL.FENCE_NOW.put 0 1 ||| REP_CTRL.CLEAR_SOFT.put 0 1
     REP_CTRL.KEY.get v = 0x5C ∧ REP_CTRL.FENCE_NOW.get v = 1 ∧ REP_CTRL.FENCE_PRESS.get v = 0 ∧ REP_CTRL.CLEAR_SOFT.get v = 1 ∧
     REP_CTRL.KEY.get (0#64) ≠ 0x5C) ∧
    (testing [] {}).bitF (REP_PRESS.FENCED 0) = false ∧ (testing [(REP_PRESS.FENCED 0, 1)] {}).bitF (REP_PRESS.FENCED 0) = true ∧
    ((testing [(REP_BIST_CFG.PERIODIC_EN, 1)] {}).bitF REP_BIST_CFG.PERIODIC_EN = true ∧
      (testing [(REP_BIST_CFG.PERIODIC_EN, 0)] {}).bitF REP_BIST_CFG.PERIODIC_EN = false) ∧
    (∀ c ∈ [(({ forced := true } : Bist), some true), ({ host := true }, some false), ({}, none)], let s := testing [(REP_PRESS.SEGMENT 0, 0xFF)] c.1
      s.idleWindow 0 = true ∧ s.rep.bist[(0 : Press)].next = 0 ∧ s.passWanted 0 = c.2 ∧ s.getF (REP_PRESS.SEGMENT 0) = 0xFF) ∧
    (∀ n ∈ [1, 255], let s := testing [(REP_PRESS.SEGMENT 0, 0xFF)] { next := n }
      s.idleWindow 0 = true ∧ 0 < s.rep.bist[(0 : Press)].next ∧ s.rep.bist[(0 : Press)].next < 256) ∧
    (pressed aLaunch {}).idleWindow 0 = false ∧
    (∀ c ∈ [0, 16], (testing [(REP_PRESS.SEGMENT 0, c)] {}).getF (REP_PRESS.SEGMENT 0) + 1 < 18 ∧
      (testing [(REP_PRESS.SEGMENT 0, c)] {}).spareFor { kind := rkColumn, unit := 0, a := 3 } = some 0) ∧
    (let s := testing [(REP_PRESS.SEGMENT 0, 0)] {}
     let s : State := { s with rep := { s.rep with repairs := (List.range 8).map (fun k => { kind := rkColumn, unit := 0, spare := k }) } }
     s.spareFor { kind := rkColumn, unit := 0, a := 3 } = none) ∧
    (let s := testing [(REP_PRESS.SEGMENT 0, 17)] {}
     s.getF (REP_PRESS.SEGMENT 0) = 17 ∧ s.bitF (REP_PRESS.FENCED 0) = false ∧ s.rep.bist[(0 : Press)].ofSuspect = false) ∧
    ((testing [(REP_STATUS.SOFT_PENDING, 1)] {}).bitF REP_STATUS.SOFT_PENDING = true ∧ (testing [] {}).rep.soft.length < 4095 ∧
      (testing [] {}).bitF REP_STATUS.SOFT_PENDING = false) := by decide +kernel

/-- A unit of a failover pair with unit 3, in a role. -/
def mated (role : Nat) (fs : List (Fld × Nat)) : State :=
  withs (zeroed home) ([(REP_PAIR_CFG.EN, 1), (REP_PAIR_CFG.ROLE, role), (REP_PAIR_CFG.PEER, 3), (REP_PAIR_CFG.HB_LOSS_US, 2)] ++ fs)

/-- That unit, and the count at which it heard its peer. -/
def heardAt (role : Nat) (fs : List (Fld × Nat)) (h : Option Tick) : State :=
  let s := mated role fs
  { s with rep := { s.rep with heard := h } }

theorem witness_FailoverPair :
    ((mated roleActive []).halted = false ∧ (mated roleActive []).role = roleActive ∧ (mated roleStandby []).role = roleStandby ∧
      (mated roleTaken []).role = roleTaken ∧ home.role = 0) ∧
    ((3 : Nat) = (mated roleActive []).getF REP_PAIR_CFG.PEER ∧ (2 : Nat) ≠ (mated roleActive []).getF REP_PAIR_CFG.PEER) ∧
    (let s := heardAt roleActive [] (some 100)
     s.rep.heard = some 100 ∧ max s.dtl.count 1099 < 100 + usTicks (s.getF REP_PAIR_CFG.HB_LOSS_US) ∧
     100 + usTicks (s.getF REP_PAIR_CFG.HB_LOSS_US) ≤ max s.dtl.count 1100) ∧
    (let s := heardAt roleStandby [] none
     let s0 := (s.at 2000).setRep { s.rep with taking := some 5 }
     let r := s0.slotComplete (s.reg REP_SLOT_A).toNat
     s.rep.heard = none ∧ s.role = roleStandby ∧ (match r.1 with | .ok _ => true | _ => false) = true ∧
     (match (r.2.slotComplete (r.2.reg REP_SLOT_B).toNat).1 with | .ok _ => true | _ => false) = true) ∧
    (bestSlot (some 4) (some 5) = some (1, 5) ∧ bestSlot none none = none) ∧
    (∀ b ∈ [0, 1], (mated roleActive [(REP_PAIR_CFG.SELF_DEMOTE, b)]).bitF REP_PAIR_CFG.SELF_DEMOTE = decide (b = 1)) ∧
    (let s := mated roleActive []
     let x := s.slotAddr (s.getF REP_CKPT_STAT.LAST_N + 1)
     s.ready = true ∧ s.bitF REP_PAIR_CFG.PEER_ACTIVE = false ∧ s.rep.ckpt = none ∧ s.bitF PKG_PFAIL_STATUS.FLUSH_ACTIVE = false ∧
     stkUnit x = s.unit ∧ stkTier x = 0 ∧ s.refusal (s.ckptReq (.write (List.replicate 64 0)) x) = none ∧ s.inInit x 64 = false ∧
     s.pptForeign none x 64 = false) ∧
    (({ mated roleActive [] with rep := { up.rep with ckpt := some { n := 1 } } } : State).rep.ckpt.isSome = true) ∧
    ((mated roleActive [(REP_CKPT_CTRL.PERIOD_MS, 5)]).getF REP_CKPT_CTRL.PERIOD_MS ≠ 0 ∧ (mated roleActive []).getF REP_CKPT_CTRL.PERIOD_MS = 0) ∧
    (∀ b ∈ [0, 1], let s := mated roleTaken [(REP_TAKEOVER.NONE, b)]
      s.getF REP_PAIR_CFG.ROLE = roleTaken ∧ s.bitF DTL_EPOCH_CFG.EN = false ∧ s.bitF REP_ADOPT.BUSY = false ∧
      s.bitF REP_TAKEOVER.NONE = decide (b = 1)) ∧
    ((mated roleActive []).getF REP_PAIR_CFG.ROLE ≠ roleTaken ∧ (mated roleActive []).rep.adopt = none) ∧
    (∀ ok ∈ [false, true], ({ up with rep := { up.rep with adopt := some { ended := some ok } } } : State).rep.adopt = some { ended := some ok }) := by
  decide +kernel

theorem witness_FailoverPair_adopts :
    (∀ len ∈ [0, 64], let s := mated roleTaken []
      let s : State := { s with rep := { s.rep with adopt := some { sect := 15 } },
                                stk := { s.stk with dram := Mem.write {} (0x2000 + 32 * 15) (leBytes 8 0 ++ leBytes 8 (2 ^ 59) ++ leBytes 8 len) } }
      let r := s.adoptSection 15
      s.adoptedSlot = 0 ∧ s.rep.adopt = some { sect := 15 } ∧ r.1 = some (decide (len = 0)) ∧ r.2.rep = s.rep) := by decide +kernel

/-! ### Witnesses: stop-press and debug -/

/-- An engine that a freeze holds at a stage, with debug as given. -/
def froze (f : Freeze) (d : Dbg) : State := { up with dbg := { d with freeze := f } }

theorem witness_StopPressAndTap :
    (up.halted = false ∧ up.ready = true ∧ (upWith [(DBG_CFG.REG_EN, 1)]).bitF DBG_CFG.REG_EN = true ∧
      (upWith [(DBG_CFG.REG_EN, 0)]).bitF DBG_CFG.REG_EN = false) ∧
    (∀ go ∈ [0, 1], let v := DBG_FREEZE_CTRL.KEY.put 0 0x3D ||| DBG_FREEZE_CTRL.GO.put 0 go
      DBG_FREEZE_CTRL.KEY.get v = 0x3D ∧ DBG_FREEZE_CTRL.GO.get v = go) ∧
    (froze .stopping {}).dbg.freeze = .stopping ∧ up.dbg.freeze ≠ .stopping ∧
    (∀ b ∈ [false, true], ({ up with pkg := { up.pkg with resetLow := b } } : State).pkg.resetLow = b) ∧
    (∀ b ∈ [false, true], ({ up with dbg := { lockout := b } } : State).dbg.lockout = b) ∧
    up.responseOk (List.replicate 128 0) = false ∧
    (froze .frozen { unlocked := true }).dbg.readsOut = true ∧ (froze .frozen {}).dbg.readsOut = false ∧
    (∀ y ∈ [0, 0x5FFFF8], let a := 2 ^ 40 * 3 + y
      y < 0x600000 ∧ (froze .frozen { unlocked := true, sramAddr := a }).dbg.sramAddr = 2 ^ 40 * (3 : Press).val + y) ∧
    (froze .frozen {}).sramAt 0x600000 = none ∧
    (froze .frozen { unlocked := true }).dbg.mayThaw = true ∧ (froze .frozen { unlocked := true }).pkg.tripped = false ∧
    (froze .frozen { unlocked := true }).bitF PKG_PFAIL_STATUS.PFAIL = false ∧ (froze .frozen { unlocked := true, srFail := true }).dbg.mayThaw = false ∧
    (froze .frozen {}).dbg.isFrozen = true ∧ up.dbg.isFrozen = false := by decide +kernel

/-- A key, and the response that it makes to a challenge of bytes 1. The signature is one whose two factors are 1, so that it is quickly checked:
its r and s are the hash, and the key is the point of that x less the base point. -/
def keyX : Nat := 0xbf47096d3f1afe0a7b2afc9a54a8da923427fa92db1d7c9b6410d30fce983bcf
def keyY : Nat := 0x61c2bb49d1e407b94182ae6a16fd3583d64a454dc8bf895d401f3ecaf0377aaa
def sigR : Nat := 0x72cd6e8422c407fb6d098690f1130b7ded7ec2f7f5e1d30bd9d521f015363793

theorem witness_StopPressAndTap_response :
    ({ up with otp := { up.otp with debugHash := beBytes 32 0x19f8e866f13cc79807acd466ece41515fc620344b45ebab71575994afaca3011 },
               dbg := { up.dbg with challenge := some (List.replicate 32 1) } } : State).responseOk
      (leBytes 32 keyX ++ leBytes 32 keyY ++ leBytes 32 sigR ++ leBytes 32 sigR) = true := by decide +kernel

/-! ### Well-formedness: a term that each check refuses -/

theorem test_wf_registers :
    ∀ c ∈ ([.registerWrite 0 0x45000 .full 0, .registerWrite 0 0x2004 .full 0, .bar0BadAccess false 0x2000 8, .bar2Read 0 0, .bar2Write 0 0 [],
      .thermalSample [25], .bistRepairPhase 1 [.screen 64], .bistSegmentEnd 0 0 [.screen 64]] : List Instr), c.wellFormed = false := by decide +kernel

theorem test_wf_descriptors :
    ∀ c ∈ ([.nop 0 65536, .netLaunch 0 65536, .netLaunchStart 0 0 65536, .copy 0 0 65536, .folioAlloc 0 65536, .folioFree 0 65536,
      .folioSwapOut 0 65536, .folioSwapIn 0 65536, .poolRead 0 0 65536, .poolWrite 0 0 65536, .poolAtomic 0 0 65536, .trgSched 0 0 65536,
      .trgSchedPlace 0 0 65536, .epochMark 0 0 65536, .fence 0 65536, .launchTimeout 0 65536, .launchStop 0 0 65536 .timeout,
      .launchEnd 0 0 65536] : List Instr), c.wellFormed = false := by decide +kernel

theorem test_wf_sensors :
    ∀ c ∈ ([.csi2LongHeader 0 0 .clean 32 0 0, .csi2LongHeader 0 0 .clean 0 64 0, .csi2LongHeader 0 0 .clean 0 0 65536,
      .csi2FrameStart 0 0 32 0, .csi2FrameEnd 0 0 32 0, .imuScriptEnd 0 (List.replicate 241 0),
      .epochSeal 0 (2 ^ 32), .epochFinalise 0 (2 ^ 32), .guardPublish 0 (2 ^ 32), .guardDeadline 0 (2 ^ 32)] : List Instr),
      c.wellFormed = false := by decide +kernel

theorem test_wf_payload (l : List Byte) (h : l.length = 65536) : (Instr.csi2PacketEnd 0 0 l true).wellFormed = false := by
  simp [Instr.wellFormed, fitsBits, h]

theorem test_wf_slots :
    ∀ c ∈ ([.gwait 0 false 2048, .wload 0 { aryOf .direct with wslot := 16 }, .run 0 { aryOf .direct with m := 4096 } none,
      .run 0 (aryOf .case) (some { buildOf with groups := 256 }), .build 0 { buildOf with addr := 2 ^ 24 }, .peek 0 128 0 0, .peek 0 0 16 0,
      .peek 0 0 0 (2 ^ 24), .req 0 0 0 0 64 0 false false, .hload 0 { int8 := true, addrB := 2 ^ 24 }, .hrun 0 { int8 := true, m := 4096 },
      .sload 0 0 { movOf 0 with bank := 2 ^ 24 } false, .sstore 0 (movOf 0) (2 ^ 32), .satom 0 0 { movOf 0 with aop := 4 } 0,
      .satom 0 0 (movOf 0) (2 ^ 32), .gsend 0 (movOf (2 ^ 32)), .grecv 0 (movOf (2 ^ 32)), .bcopy 0 (movOf (2 ^ 32)),
      .icopy 0 { movOf 0 with stock := 2 ^ 64 }, .brick 0 (movOf 0) (2 ^ 32), .fwalk 0 0 (movOf (2 ^ 32))] : List Instr),
      c.wellFormed = false := by decide +kernel

theorem test_wf_chain :
    ∀ c ∈ ([.laneSpare 0 { lane := 17 }, .chainMessageRx 0 { seq := 1024, ackSeq := 0 } toHere true,
      .chainMessageRx 0 { seq := 0, ackSeq := 0 } { toHere with len := 2049 } true, .linkNak 0 1024, .linkCredit 0 65536 0 0 0,
      .enumDone 0 { map := { ids := [3, 3] }, serial := 0, conflict := false }, .grant 0 0 { ids := [16] }, .remoteTimeout 65536 0, .remoteTimeout 0 256,
      .read 0 { toHere with dst := 16 }, .write 0 { toHere with pid := 64 }, .atomic 0 { toHere with tag := 65536 }, .flush { toHere with op := 256 },
      .rdata { toHere with len := 0, data := [1] }, .ack { toHere with cls := 3 }, .atomResult { toHere with inline := List.replicate 33 0 },
      .nack { toHere with stat := 2 ^ 32 }, .regRead { toHere with addr := 2 ^ 64 }, .regWrite 0 { toHere with epoch := 2 ^ 32 } true,
      .regResult { toHere with src := 16 }, .decision 0 64 true 0] : List Instr), c.wellFormed = false := by decide +kernel

theorem test_wf_rest :
    ∀ c ∈ ([.stockAccess 0 { src := 0, op := .read 0, addr := 0 }, .stockAccess 0 { src := 0, op := .fetchAdd 1, addr := 4 },
      .provisionalLoadWait 0 (2 ^ 64), .dramBusyWindow 101, .flashBusyWindow 101, .guardBwWindow true 101, .heartbeat 0 4 0 0,
      .heartbeat 0 0 (2 ^ 32) 0, .dbgResponse [], .thaw (2 ^ 48)] : List Instr), c.wellFormed = false := by decide +kernel

theorem test_wf_bounds :
    ∀ c ∈ ([.registerWrite 0 0x44FF8 .upper 1, .bar0BadAccess true 0x2004 8, .bar0BadAccess false 0x2000 2, .bar2Read 0 1, .nop 63 65535,
      .csi2LongHeader 0 0 .single 31 63 65535, .imuScriptEnd 0 (List.replicate 240 0), .epochSeal 0 (2 ^ 32 - 1), .gwait 0 true 2047, .peek 0 127 15 (2 ^ 24 - 1),
      .laneSpare 0 { lane := 16 }, .chainMessageRx 0 { seq := 1023, ackSeq := 0 } toHere true, .decision 15 63 true 0,
      .stockAccess 0 { src := 0, op := .fetchAdd 1, addr := 8 }, .dramBusyWindow 100, .thaw (2 ^ 48 - 1)] : List Instr), c.wellFormed = true := by
  decide +kernel

/-! ### Worked examples and tables of the spec -/

/-- The rate change of +25 ppm (worked example of 06_dateline.md), after the write of DTL_RATE and after the capture. -/
def rated : State :=
  after (.dtlRateWrite 1250000000 0x2000346DC)
    { upWith [(DTL_SLEW_CFG.SERVO_EN, 0)] with
      dtl := { up.dtl with count := 1000000000, segs := [{ start := 1000000000, anchor := 1000000000, off := 1700000000 * 10 ^ 9 * 2 ^ 32 }] } }
def rateRead : State := after (.dtlCapture 1750000000 1) rated

theorem test_dateline_rate_example :
    (rated.readWord DTL_ANCHOR).1 = 1250000000 ∧ (rated.readWord DTL_RATE).1 = 0x2000346DC ∧ rateRead.getF DTL_CAP_COUNT.COUNT = 1750000000 ∧
    rateRead.getF DTL_CAP_S.SEC = 1700000001 ∧ rateRead.getF DTL_CAP_NS.NS = 500024999 ∧ rateRead.getF DTL_CAP_NS.FRAC = 0xF520 := by decide +kernel

/-- The residence of the Sync that crosses ETH0 and ETH1 (worked example of 07_ptp_ports.md). -/
theorem test_ptp_residence_example :
    ((upWith [(PTP_LAT.RX_LAT_PS 0, 2500), (PTP_LAT.TX_LAT_PS 1, 3125)]).at 5000004100).residence 0
      { inCount := 5000000000, inSub := 0x4000, outSub := 0xC000, frame := [], fcsOk := true, linkUp := true } = 0x200EA000 := by decide +kernel

/-- The warning, clearing and reset levels of the dip at 0.75 V (worked example of 02_package_power.md). -/
theorem test_supply_levels_example :
    let s := upWith [(PKG_SMON_CFG.WARN_LEVEL, 184)]
    s.belowWarn 690 = false ∧ s.belowWarn 689 = true ∧ s.aboveClear 705 = true ∧ s.aboveClear 704 = false ∧
    s.belowReset { at_ := 1000, mv := 637, since := 0, coarse := 0 } = true ∧ s.belowReset { at_ := 1000, mv := 638, since := 0, coarse := 0 } = false ∧
    s.belowReset { at_ := 999, mv := 637, since := 0, coarse := 0 } = false := by decide +kernel

/-- The voxel (1194, 964, 250), its key and its home bucket (worked example of 09_registration.md). -/
theorem test_brick_key_example :
    voxKey (1194, 964, 250) = 0x7CF095 ∧ (upWith [(RGS_GRID_CFG.HASH_LOG2, 18)]).dirHome 0x7CF095 = 10351 ∧ 10351 * 128 = 0x143780 := by decide +kernel

/-- IDs of the ring of five units (worked example of 15_perur_chain.md). -/
theorem test_enumeration_example :
    idChoice (some 5) 0x0004 = some 5 ∧ idChoice (some 2) 0x0024 = some 0 ∧ idChoice none 0x0025 = some 1 ∧ idChoice (some 5) 0x0027 = some 3 := by
  decide +kernel

/-- The weights of codes 41, 53 and 80 (worked example of the case-mode layer, 11_slug_isa.md). -/
theorem test_case_codes_example :
    (List.range 4).map (caseWeight 41) = [1, 0, 0, 0] ∧ (List.range 4).map (caseWeight 53) = [1, 1, 1, 0] ∧
    (List.range 4).map (caseWeight 80) = [1, 1, 1, 1] := by decide +kernel

/-- FIPS 180-4: the hash of "abc". -/
theorem test_sha256_abc :
    sha256 [0x61, 0x62, 0x63] = beBytes 32 0xba7816bf8f01cfea414140de5dae2223b00361a396177a9cb410ff61f20015ad := by decide +kernel

/-- The check values of the two CRCs, over the digits 1 to 9. -/
theorem test_crcs :
    crc32 ((List.range 9).map (fun i => BitVec.ofNat 8 (0x31 + i))) = 0xCBF43926 ∧
    crc32c ((List.range 9).map (fun i => BitVec.ofNat 8 (0x31 + i))) = 0xE3069283 := by decide +kernel

/-! ### Slugs, from the bits of Tables SLG-1, SLG-5 and SLG-6 -/

/-- OP in [7:0], RD in [12:8], RA in [17:13], IMM in [63:32]. -/
theorem test_slug_control_words :
    decodeSlot 0 (0x0B + 10 * 2 ^ 8 + 16 * 2 ^ 32) = some (.ctl (.movi 10 16)) ∧ decodeSlot 0 0x3C = some (.ctl .trap) ∧
    decodeSlot 0 0 = some (.ctl .nop) ∧ decodeSlot 0 (0x0B + 10 * 2 ^ 8 + 0xFFFFFFFD * 2 ^ 32) = some (.ctl (.movi 10 0xFFFFFFFD)) ∧
    decodeSlot 0 0xFF = none := by decide +kernel

theorem test_slug_valid_bits :
    (decodeSlug (ctlSlug .trap)).ops = [(0, some (.ctl .trap))] ∧ (decodeSlug (ctlSlug .trap - 1)).ops = [] := by decide +kernel

/-! ### Single commands -/

/-- g of press 0 after a command, on a press whose registers from g1 on hold the given values. -/
def scalar (c : Instr) (vs : List Nat) (r : Reg) : U64 := ((after c (pressed aLaunch (gprs vs))).press 0).getG r

theorem test_add_wraps : scalar (.add 0 3 1 2) [2 ^ 64 - 1, 1] 3 = 0 := by decide +kernel
theorem test_add_to_its_source : scalar (.add 0 1 1 2) [5, 7] 1 = 12 := by decide +kernel
theorem test_g0_discards : scalar (.add 0 0 1 2) [5, 7] 0 = 0 := by decide +kernel
theorem test_addi_extends : scalar (.addi 0 3 1 0xFFFFFFFF) [5] 3 = 4 := by decide +kernel
theorem test_sub_wraps : scalar (.sub 0 3 1 2) [0, 1] 3 = 0xFFFFFFFFFFFFFFFF := by decide +kernel
theorem test_sar_keeps_sign : scalar (.sar 0 3 1 (.imm 4)) [0x8000000000000000] 3 = 0xF800000000000000 := by decide +kernel
theorem test_mul_low_half : scalar (.mul 0 3 1 2) [2 ^ 63, 2] 3 = 0 := by decide +kernel
theorem test_movi_extends : scalar (.movi 0 3 0x80000000) [] 3 = 0xFFFFFFFF80000000 := by decide +kernel

theorem test_notice_write_clears_ones :
    (after (.arcNoticeStatusWrite 1) ((up.raise .supplyWarn).raise .pfail)).getF ARC_NOTICE_STATUS.NOTICE = 2 ^ Notice.pfail.bit := by decide +kernel

theorem test_halves_wait_for_the_upper :
    let s := after (.registerWrite 5 PKG_DVFS_CFG .lower 0) up
    s.reg PKG_DVFS_CFG = up.reg PKG_DVFS_CFG := by decide +kernel

theorem test_writes_wait_for_ready :
    (after (.registerWrite 5 DTL_RATE .full 0x200000001) State.reset).regs = State.reset.regs := by decide +kernel

theorem test_tap_bypass_and_reset : (after .bypass up).dbg.out = [0] ∧ (after .tapReset (after .bypass up)).dbg.ir = 0x01 := by decide +kernel

theorem test_frozen_engine_takes_no_work : after (.dtlRateWrite 9 0x200000001) (froze .frozen {}) = froze .frozen {} := by decide +kernel

theorem test_galley_gives_words_in_order :
    ((after (.galleyPop 35 .clean) (up.setGal 35 { words := [aWord 7 false, aWord 8 true] })).gal 35).words = [aWord 8 true] := by decide +kernel

theorem test_step_takes_the_front :
    step { State.reset with pending := [.aonPowerOn, .boardReset] } = exec .aonPowerOn { State.reset with pending := [.boardReset] } := rfl

/-- A firmware image without a body, signed with the key whose hash the fuses hold. -/
def signedImage : List Byte :=
  leBytes 4 0x57464C5A ++ leBytes 2 1 ++ List.replicate 26 0 ++
  beBytes 32 0x65de15fecb7ec3cdfb570fa87ab71ce1f18e89d5976b07057cdbbff5ff85b760 ++ beBytes 32 0x67d85098b6903bad82beb0c988f79f1f295e9c1285c580b199836120ed1bbf7e ++
  List.replicate 32 0 ++ beBytes 32 0x971581bdd1356ea1b317d7b29059611176788153b4d38f8d81155d60576d8c46 ++
  beBytes 32 0xaec961855fbae790526d6fc7e494638309275a5f133b08b0ee3e8fdfd4987655 ++ List.replicate 64 0

theorem witness_MakereadyLeadsToReady_accepted :
    fwCheck { keyHash := beBytes 32 0xbbd5cfde78d87b6f82b8cefbdb71ce83d338da6bf58b763d4924b7f8753472ba } signedImage [] = 0 := by
  decide +kernel

theorem witness_MakereadyLeadsToReady_read :
    (let s : State := { inPhase phFwVerify with qspi := Mem.write {} 0 signedImage }
     s.slotTried = 0 ∧ s.image s.slotTried = (signedImage, [])) := by decide +kernel

end Sys2Proof.Tests
end

section
/-!
SUPPORT. Writes of BAR0's registers (R12 to R16, R114): the gate of a host write, the halves of a register, and what a plain write leaves
in each field.
-/

namespace Sys2Proof.Machine

/-! ### The tick of a command changes no register -/

@[simp] theorem State.reg_at (s : State) (t : Tick) (o : Nat) : (s.at t).reg o = s.reg o := rfl
@[simp] theorem State.ready_at (s : State) (t : Tick) : (s.at t).ready = s.ready := rfl
@[simp] theorem State.halves_at (s : State) (t : Tick) : (s.at t).halves = s.halves := rfl

/-- A tick leaves the queue alone, so putting the queue back changes nothing. -/
@[simp] theorem State.setPending_at (s : State) (t : Tick) : (s.at t).setPending s.pending = s.at t := rfl

/-! ### Field masks -/

/-- Where a mask covers a field, a write through the mask gives the field its value in the written word. -/
theorem Fld.get_maskedWrite (f : Fld) (old v m : U64) (hm : ∀ i < f.w, m.getLsbD (f.lo + i) = true) :
    f.get ((old &&& ~~~ m) ||| (v &&& m)) = f.get v := by
  have hbits : BitVec.extractLsb' f.lo f.w ((old &&& ~~~ m) ||| (v &&& m)) = BitVec.extractLsb' f.lo f.w v := by
    apply BitVec.eq_of_getLsbD_eq
    intro i hi
    simp [hi, hm i hi]
  rw [Fld.get, Fld.get, hbits]

/-! ### The gate of a host write -/

/-- A write of BAR0 while the engine runs: the tick is taken, then the write. -/
theorem exec_registerWrite_bar0 (s : State) (t : Tick) (off : Nat) (h : Half) (v : U64) (hs : s.awake) (hp : inPcie off = false) :
    exec (.registerWrite t off h v) s = .next (((s.at t).hostWrite off h v 4 true).setPending s.pending) := by
  change s.live (if inPcie off then (s.at t).pcieWrite off h v else (s.at t).hostWrite off h v 4 true) = _
  rw [State.live_running s _ hs, hp]
  rfl

/-- What such a write leads to, of the state that the write itself gives. -/
theorem does_registerWrite_bar0 {s : State} {t : Tick} {off : Nat} {h : Half} {v : U64} {P : State → Prop} (hs : s.awake)
    (hp : inPcie off = false) (hP : P (((s.at t).hostWrite off h v 4 true).setPending s.pending)) :
    Does (.registerWrite t off h v) s P :=
  ⟨_, exec_registerWrite_bar0 s t off h v hs hp, hP⟩

/-- A misaligned write, one before READY outside the MKR block and one of a reserved offset are dropped (R12, R16, R114). -/
theorem State.hostWrite_dropped (s : State) (off : Nat) (h : Half) (v : U64) (cause : Nat) (srOk : Bool)
    (hd : off % 8 ≠ 0 ∨ (s.ready = false ∧ inMkr off = false) ∨ regAt off = none) : s.hostWrite off h v cause srOk = s := by
  simp only [State.hostWrite]
  rw [if_pos]
  simpa using hd

section Taken

variable (s : State) (off : Nat) (v : U64) (cause : Nat) (srOk : Bool)
  (ha : off % 8 = 0) (hr : s.ready = true ∨ inMkr off = true) (hd : (regAt off).isSome = true)

include ha hr hd

/-- The gate lets an aligned write through: of a register, and from READY on or in the MKR block. -/
theorem hostWrite_gate_open : ¬ (off % 8 ≠ 0 ∨ (!s.ready && !inMkr off) = true ∨ (regAt off).isNone = true) := by
  rcases hr with hr | hr <;> simp [ha, hr, Option.isSome_iff_ne_none.1 hd]

theorem State.hostWrite_full : s.hostWrite off .full v cause srOk = s.writeReg off v cause srOk :=
  if_neg (hostWrite_gate_open s off ha hr hd)

theorem State.hostWrite_lower : s.hostWrite off .lower v cause srOk = s.keepHalf off v :=
  if_neg (hostWrite_gate_open s off ha hr hd)

end Taken

/-- An upper half is written as the full word that it makes with the lower half kept, whether the gate is open or not (R13). -/
theorem State.hostWrite_upper (s : State) (off : Nat) (v : U64) (cause : Nat) (srOk : Bool) :
    s.hostWrite off .upper v cause srOk = s.hostWrite off .full
      (((v.setWidth 32 : U32).setWidth 64 <<< 32) ||| (FMap.get (fun _ => 0#32) s.halves off).setWidth 64) cause srOk := rfl

/-- BAR0 lies below BAR4. -/
theorem inPcie_of_lt (off : Nat) (h : off < 0x40000) : inPcie off = false := by
  have hlt : ¬ bar4Base ≤ off := by unfold bar4Base; omega
  simp [inPcie, hlt]

/-! ### Halves -/

/-- The lower half of a register last written is the one that is kept. -/
theorem State.half_keepHalf (s : State) (off : Nat) (v : U64) :
    FMap.get (fun _ => 0#32) (s.keepHalf off v).halves off = v.setWidth 32 :=
  FMap.get_set_same _ s.halves off _

/-! ### Plain writes -/

/-- The bits of a register that a plain write replaces: the RW fields, and the RWL fields until READY (R14, R115). -/
def State.takenMask (s : State) (fs : List FieldDef) : U64 :=
  kindMask (fun k => decide (k = .rw) || (decide (k = .rwl) && !s.ready)) fs

/-- From READY on only RW fields are replaced. -/
theorem State.takenMask_ready (s : State) (fs : List FieldDef) (h : s.ready = true) :
    s.takenMask fs = kindMask (fun k => decide (k = .rw)) fs := by
  simp [State.takenMask, h]

theorem State.plainWrite_eq (s : State) (off : Nat) (v : U64) (r : RegDef) (hr : regAt off = some r) :
    s.plainWrite off v = s.setReg off (storedWord off (((s.reg off &&& ~~~ s.takenMask r.fields) |||
      (v &&& s.takenMask r.fields)) &&& ~~~ (v &&& kindMask (fun k => decide (k = .w1c)) r.fields))) := by
  simp only [State.plainWrite, hr, State.takenMask]

theorem State.reg_plainWrite_other (s : State) (off o : Nat) (v : U64) (h : o ≠ off) : (s.plainWrite off v).reg o = s.reg o := by
  cases hr : regAt off with
  | none => simp only [State.plainWrite, hr]
  | some r => rw [State.plainWrite_eq s off v r hr, State.reg_setReg_other s off o _ h]

/-- In the package block every write but that of PKG_DVFS_CTRL is plain. -/
theorem State.writeReg_pkg (s : State) (off : Nat) (v : U64) (cause : Nat) (srOk : Bool) (hlo : 0x2000 ≤ off) (hhi : off < 0x4000)
    (hne : off ≠ PKG_DVFS_CTRL) : s.writeReg off v cause srOk = s.plainWrite off v := by
  have h₀ : ¬ off < 0x1000 := by omega
  have h₁ : ¬ off < 0x2000 := by omega
  simp only [State.writeReg, State.writePkg, h₀, h₁, hhi, hne, if_true, if_false]

/-! ### MKR_BOOT_CFG (R115) -/

theorem regAt_bootCfg : regAt MKR_BOOT_CFG = some ⟨"MKR_BOOT_CFG", 0x1020, [], [⟨7, 0, .rwl, 0x14⟩, ⟨8, 8, .rwl, 1⟩]⟩ := by
  decide +kernel

/-- Both fields are RWL: READY locks them. -/
theorem State.reg_plainWrite_bootCfg (s : State) (v : U64) :
    (s.plainWrite MKR_BOOT_CFG v).reg MKR_BOOT_CFG =
      if s.ready then s.reg MKR_BOOT_CFG else (s.reg MKR_BOOT_CFG &&& ~~~ 0x1FF#64) ||| (v &&& 0x1FF#64) := by
  have hstore (w : U64) : storedWord MKR_BOOT_CFG w = w := rfl
  have hw1c : kindMask (fun k => decide (k = .w1c)) [⟨7, 0, .rwl, 0x14⟩, ⟨8, 8, .rwl, 1⟩] = 0#64 := rfl
  have htaken : s.takenMask [⟨7, 0, .rwl, 0x14⟩, ⟨8, 8, .rwl, 1⟩] = if s.ready then 0#64 else 0x1FF#64 := by
    unfold State.takenMask
    cases s.ready <;> rfl
  have hones (w : U64) : w &&& ~~~ 0#64 = w := BitVec.and_allOnes
  rw [State.plainWrite_eq s _ v _ regAt_bootCfg, State.reg_setReg_same, hstore, hw1c, htaken, BitVec.and_zero, hones]
  cases s.ready with
  | true => simp only [if_true, BitVec.and_zero, BitVec.or_zero, hones]
  | false => rfl

theorem State.writeReg_bootCfg (s : State) (v : U64) (cause : Nat) (srOk : Bool) :
    s.writeReg MKR_BOOT_CFG v cause srOk = s.plainWrite MKR_BOOT_CFG v := rfl

/-! ### The clauses of RegisterWritesByTypeAndHalf -/

/-- A full write of a package register from READY on (R14). -/
theorem does_pkgWrite_full (s : State) (t : Tick) (off : Nat) (v : U64) (r : RegDef) (hs : s.awake) (hready : s.ready = true)
    (hlo : 0x2000 ≤ off) (hhi : off < 0x4000) (hne : off ≠ PKG_DVFS_CTRL) (ha : off % 8 = 0) (hr : regAt off = some r) :
    Does (.registerWrite t off .full v) s (fun u =>
      u.reg off = storedWord off (((s.reg off &&& ~~~ kindMask (fun k => decide (k = .rw)) r.fields) |||
        (v &&& kindMask (fun k => decide (k = .rw)) r.fields)) &&& ~~~ (v &&& kindMask (fun k => decide (k = .w1c)) r.fields)) ∧
      ∀ o, o ≠ off → u.reg o = s.reg o) := by
  have hp : inPcie off = false := inPcie_of_lt off (by omega)
  have hw : (s.at t).hostWrite off .full v 4 true = (s.at t).plainWrite off v := by
    rw [State.hostWrite_full (s.at t) off v 4 true ha (.inl hready) (by simp [hr])]
    exact State.writeReg_pkg _ off v 4 true hlo hhi hne
  apply does_registerWrite_bar0 hs hp
  rw [hw]
  constructor
  · rw [State.reg_setPending, State.plainWrite_eq _ off v r hr, State.reg_setReg_same, State.takenMask_ready (s.at t) _ hready, State.reg_at]
  · intro o ho
    rw [State.reg_setPending, State.reg_plainWrite_other _ off o v ho, State.reg_at]

/-- A lower half is kept and applies nothing yet (R13). -/
theorem does_registerWrite_lower (s : State) (t : Tick) (off : Nat) (v : U64) (hs : s.awake) (hready : s.ready = true)
    (ha : off % 8 = 0) (hp : inPcie off = false) (hd : (regAt off).isSome = true) :
    Does (.registerWrite t off .lower v) s (fun u => u.regs = s.regs ∧
      FMap.get (fun _ => 0#32) u.halves off = v.setWidth 32 ∧ u.presses = s.presses ∧ u.rings = s.rings) := by
  apply does_registerWrite_bar0 hs hp
  rw [State.hostWrite_lower (s.at t) off v 4 true ha (.inl hready) hd]
  exact ⟨rfl, State.half_keepHalf _ off v, rfl, rfl⟩

/-- An upper half does what the full write of it and the kept lower half does (R13). -/
theorem exec_registerWrite_upper (s : State) (t : Tick) (off : Nat) (v : U64) (hs : s.awake) (hp : inPcie off = false) :
    exec (.registerWrite t off .upper v) s = exec (.registerWrite t off .full
      (((v.setWidth 32 : U32).setWidth 64 <<< 32) ||| (FMap.get (fun _ => 0#32) s.halves off).setWidth 64)) s := by
  rw [exec_registerWrite_bar0 s t off .upper v hs hp, State.hostWrite_upper, exec_registerWrite_bar0 s t off .full _ hs hp,
    State.halves_at]

/-- A dropped write takes its tick and nothing else. -/
theorem does_registerWrite_dropped (s : State) (t : Tick) (off : Nat) (h : Half) (v : U64) (hs : s.awake)
    (hd : off % 8 ≠ 0 ∨ (s.ready = false ∧ inMkr off = false) ∨ regAt off = none) (hp : inPcie off = false) :
    Does (.registerWrite t off h v) s (fun u => u = s.at t) := by
  apply does_registerWrite_bar0 hs hp
  rw [State.hostWrite_dropped (s.at t) off h v 4 true hd, State.setPending_at]

/-- MKR_BOOT_CFG is set until READY and keeps its value afterwards (R115). -/
theorem does_bootCfgWrite (s : State) (t : Tick) (v : U64) (hs : s.awake) :
    Does (.registerWrite t MKR_BOOT_CFG .full v) s (fun u => if s.ready then u.reg MKR_BOOT_CFG = s.reg MKR_BOOT_CFG
      else u.getF MKR_BOOT_CFG.ENUM_WAIT_MS = MKR_BOOT_CFG.ENUM_WAIT_MS.get v ∧
        u.getF MKR_BOOT_CFG.WDOG_EN = MKR_BOOT_CFG.WDOG_EN.get v) := by
  have hw : (s.at t).hostWrite MKR_BOOT_CFG .full v 4 true = (s.at t).plainWrite MKR_BOOT_CFG v := by
    rw [State.hostWrite_full (s.at t) MKR_BOOT_CFG v 4 true rfl (.inr rfl) (by rw [regAt_bootCfg]; rfl)]
    exact State.writeReg_bootCfg _ v 4 true
  have hreg := State.reg_plainWrite_bootCfg (s.at t) v
  apply does_registerWrite_bar0 hs rfl
  rw [hw]
  cases hready : s.ready with
  | true => simpa [hready] using hreg
  | false =>
    have hword : ((s.at t).plainWrite MKR_BOOT_CFG v).reg MKR_BOOT_CFG = (s.reg MKR_BOOT_CFG &&& ~~~ 0x1FF#64) ||| (v &&& 0x1FF#64) := by
      simpa [hready] using hreg
    have hfield (f : Fld) (ho : f.off = MKR_BOOT_CFG) (hm : ∀ i < f.w, (0x1FF#64).getLsbD (f.lo + i) = true) :
        (((s.at t).plainWrite MKR_BOOT_CFG v).setPending s.pending).getF f = f.get v := by
      rw [State.getF, ho, State.reg_setPending, hword, Fld.get_maskedWrite f _ v _ hm]
    exact ⟨hfield MKR_BOOT_CFG.ENUM_WAIT_MS rfl (by decide), hfield MKR_BOOT_CFG.WDOG_EN rfl (by decide)⟩

/-- A bad write of BAR0 is ignored, a bad read returns all ones (R12). -/
theorem does_bar0BadAccess (s : State) (write : Bool) (off size : Nat) (hs : s.awake) :
    Does (.bar0BadAccess write off size) s (fun u => u = if write then s else s.readBack (allOnes size)) := by
  refine ⟨_, State.live_running s _ hs, ?_⟩
  cases write <;> rfl

end Sys2Proof.Machine

open Sys2Proof Sys2Proof.Machine

/-- Settles O9: one lemma for each clause. A full write of a package register is plain (`does_pkgWrite_full`), a half waits or completes the
word, a bad access is dropped by the gate of `State.hostWrite`, and the RWL fields of MKR_BOOT_CFG leave the taken mask at READY. -/
theorem registerWritesByTypeAndHalf : Obligations.RegisterWritesByTypeAndHalf := by
  refine ⟨fun s t off v hs => ⟨?_, ?_, ?_, does_bootCfgWrite s t v hs⟩, fun s off size hs => ⟨?_, ?_⟩⟩
  · intro hready hlo hhi hne ha r hr
    exact does_pkgWrite_full s t off v r hs hready hlo hhi hne ha hr
  · intro hready ha hp hd
    exact ⟨does_registerWrite_lower s t off v hs hready ha hp hd, exec_registerWrite_upper s t off v hs hp⟩
  · intro hd hp h
    exact does_registerWrite_dropped s t off h v hs hd hp
  · exact does_bar0BadAccess s true off size hs
  · exact does_bar0BadAccess s false off size hs

end

section
/-!
SUPPORT. Notices and their messages (R33, R34, R164 to R166, R654): where one message goes, when a raised notice sends it, and what the
writes of the status and of the mask leave.
-/

namespace Sys2Proof.Machine

/-! ### Where a message goes -/

theorem State.msixLocal_off (s : State) (vec : Nat) (hon : s.bus.msixOn = false) : s.msixLocal vec = s := by
  simp [State.msixLocal, hon]

theorem State.msixLocal_held (s : State) (vec : Nat) (hon : s.bus.msixOn = true) (hheld : (s.bus.fnMask || s.bus.vecMask.getLsbD vec) = true) :
    s.msixLocal vec = s.setBus { s.bus with pba := s.bus.pba ||| (1#64 <<< vec) } := by
  simp only [State.msixLocal, hon, hheld, Bool.not_true, Bool.false_eq_true, if_false, if_true]
  rfl

theorem State.msixLocal_sent (s : State) (vec : Nat) (hon : s.bus.msixOn = true) (hheld : (s.bus.fnMask || s.bus.vecMask.getLsbD vec) = false) :
    s.msixLocal vec = s.setBus { s.bus with msix := vec :: s.bus.msix } := by
  simp only [State.msixLocal, hon, hheld, Bool.not_true, Bool.false_eq_true, if_false]
  rfl

theorem State.msixSend_local (s : State) (vec : Nat) (hm : s.bitF CHN_CFG.MASTER = false) : s.msixSend vec = s.msixLocal vec := by
  simp [State.msixSend, hm]

/-- The root is the master: the message becomes an IRQ_FWD, and PCIe sees nothing of it (R654). -/
theorem State.msixSend_root (s : State) (vec : Nat) (hm : s.bitF CHN_CFG.MASTER = true) :
    s.msixSend vec = s.setChn { s.chn with inject := s.chn.inject ++
      [{ op := opIrqFwd, src := s.getF CHN_ID.UNIT_ID, dst := s.chn.map.ids.headD 0, inline := leBytes 32 vec }] } := by
  simp only [State.msixSend, hm, if_true]
  rfl

/-! ### The bits of the status and of the mask -/

theorem Notice.bit_lt (n : Notice) : n.bit < 18 := by cases n <;> decide

theorem noticeMask_singleton (n : Notice) : noticeMask [n] = 2 ^ n.bit := Nat.zero_or _

/-- What a field of 18 bits masks, taken from all ones, leaves unmasked. -/
theorem testBit_unmasked (m i : Nat) (hm : m < 2 ^ 18) : (0x3FFFF - m).testBit i = (decide (i < 18) && !m.testBit i) := by
  rw [← Nat.testBit_two_pow_sub_succ hm i]
  congr 1
  omega

/-- Numbers without a common bit are joined without a carry. -/
theorem or_eq_add_of_and_eq_zero (x y : Nat) (h : x &&& y = 0) : x ||| y = x + y := by
  have hlt : x + y < 2 ^ (x + y) := Nat.lt_two_pow_self
  have hx : x % 2 ^ (x + y) = x := Nat.mod_eq_of_lt (by omega)
  have hy : y % 2 ^ (x + y) = y := Nat.mod_eq_of_lt (by omega)
  have hand : BitVec.ofNat (x + y) x &&& BitVec.ofNat (x + y) y = 0#(x + y) := by
    apply BitVec.eq_of_toNat_eq
    rw [BitVec.toNat_and, BitVec.toNat_ofNat, BitVec.toNat_ofNat, hx, hy, h, BitVec.toNat_ofNat, Nat.zero_mod]
  have hadd := congrArg BitVec.toNat (BitVec.add_eq_or_of_and_eq_zero _ _ hand)
  rw [BitVec.toNat_add, BitVec.toNat_or, BitVec.toNat_ofNat, BitVec.toNat_ofNat, hx, hy, Nat.mod_eq_of_lt hlt] at hadd
  exact hadd.symm

/-- A single bit meets a number exactly where the number has it. -/
theorem two_pow_and_eq_zero_iff (b x : Nat) : 2 ^ b &&& x = 0 ↔ x.testBit b = false := by
  constructor
  · intro h
    have hbit : (2 ^ b &&& x).testBit b = false := by rw [h, Nat.zero_testBit]
    simpa only [Nat.testBit_and, Nat.testBit_two_pow_self, Bool.true_and] using hbit
  · intro h
    apply Nat.eq_of_testBit_eq
    intro i
    rw [Nat.testBit_and, Nat.testBit_two_pow, Nat.zero_testBit]
    by_cases hi : b = i
    · rw [← hi, h, Bool.and_false]
    · rw [decide_eq_false hi, Bool.false_and]

/-- The bits that setting bit b changes: b where it was 0, none where it was 1. -/
theorem two_pow_or_sub_self (b x : Nat) : (2 ^ b ||| x) - x = if x.testBit b then 0 else 2 ^ b := by
  cases hb : x.testBit b with
  | true =>
    have hsame : 2 ^ b ||| x = x := by
      apply Nat.eq_of_testBit_eq
      intro i
      rw [Nat.testBit_or, Nat.testBit_two_pow]
      by_cases hi : b = i
      · rw [← hi, hb, Bool.or_true]
      · rw [decide_eq_false hi, Bool.false_or]
    rw [hsame, Nat.sub_self, if_pos rfl]
  | false =>
    rw [or_eq_add_of_and_eq_zero _ _ ((two_pow_and_eq_zero_iff b x).2 hb), Nat.add_sub_cancel, if_neg Bool.false_ne_true]

/-! ### Raising one notice (R33) -/

/-- Its bit becomes 1 whatever the mask says, the others stay. -/
theorem State.testBit_raise (s : State) (n : Notice) (i : Nat) :
    ((s.raise n).getF ARC_NOTICE_STATUS.NOTICE).testBit i = (decide (n.bit = i) || (s.getF ARC_NOTICE_STATUS.NOTICE).testBit i) := by
  have hlt : 2 ^ n.bit ||| s.getF ARC_NOTICE_STATUS.NOTICE < 2 ^ 18 :=
    Nat.or_lt_two_pow (Nat.pow_lt_pow_right (by decide) n.bit_lt) (State.getF_lt s _)
  rw [State.raise, State.raiseAll_notice, noticeMask_singleton, Nat.mod_eq_of_lt hlt, Nat.testBit_or, Nat.testBit_two_pow]

/-- The state with a notice's bit set and no message sent. -/
def State.withNotice (s : State) (n : Notice) : State :=
  s.setF ARC_NOTICE_STATUS.NOTICE (noticeMask [n] ||| s.getF ARC_NOTICE_STATUS.NOTICE)

/-- The bits that change and are unmasked are none exactly when the notice stood already or is masked. -/
theorem State.raise_changes_iff (s : State) (n : Notice) :
    ((noticeMask [n] ||| s.getF ARC_NOTICE_STATUS.NOTICE) - s.getF ARC_NOTICE_STATUS.NOTICE) &&& (0x3FFFF - s.getF ARC_NOTICE_MASK.MASK) = 0 ↔
      (s.getF ARC_NOTICE_STATUS.NOTICE).testBit n.bit = true ∨ (s.getF ARC_NOTICE_MASK.MASK).testBit n.bit = true := by
  have hunmasked := testBit_unmasked (s.getF ARC_NOTICE_MASK.MASK) n.bit (State.getF_lt s _)
  rw [noticeMask_singleton, two_pow_or_sub_self]
  cases hb : (s.getF ARC_NOTICE_STATUS.NOTICE).testBit n.bit with
  | true => simp only [if_true, Nat.zero_and, true_or]
  | false =>
    rw [if_neg Bool.false_ne_true, two_pow_and_eq_zero_iff, hunmasked, decide_eq_true n.bit_lt]
    simp only [Bool.true_and, Bool.not_eq_false', Bool.false_eq_true, false_or]

theorem State.raise_quiet (s : State) (n : Notice)
    (h : (s.getF ARC_NOTICE_STATUS.NOTICE).testBit n.bit = true ∨ (s.getF ARC_NOTICE_MASK.MASK).testBit n.bit = true) :
    s.raise n = s.withNotice n :=
  State.raiseAll_quiet s [n] ((State.raise_changes_iff s n).2 h)

theorem State.raise_sends (s : State) (n : Notice) (hb : (s.getF ARC_NOTICE_STATUS.NOTICE).testBit n.bit = false)
    (hm : (s.getF ARC_NOTICE_MASK.MASK).testBit n.bit = false) :
    s.raise n = (s.withNotice n).msixSend (s.getF ARC_NOTICE_VECTOR.VECTOR) :=
  if_neg (by rw [State.raise_changes_iff, hb, hm]; decide)

theorem State.master_withNotice (s : State) (n : Notice) : (s.withNotice n).bitF CHN_CFG.MASTER = s.bitF CHN_CFG.MASTER :=
  State.bitF_setF_other s _ _ _ (by decide) (by decide) (by decide)

/-! ### Writes of the notice registers (R34) -/

@[simp] theorem State.bus_plainWrite (s : State) (off : Nat) (v : U64) : (s.plainWrite off v).bus = s.bus := by
  cases hr : regAt off with
  | none => simp only [State.plainWrite, hr]
  | some r => rw [State.plainWrite_eq s off v r hr, State.setReg_bus]

theorem State.getF_plainWrite_other (s : State) (off : Nat) (v : U64) (f : Fld) (h : f.off ≠ off) :
    (s.plainWrite off v).getF f = s.getF f := by
  rw [State.getF, State.reg_plainWrite_other s off f.off v h, State.getF]

/-- A word from which no bit is taken. -/
theorem and_not_zero (w : U64) : w &&& ~~~ 0#64 = w := BitVec.and_allOnes

theorem regAt_noticeStatus : regAt ARC_NOTICE_STATUS = some ⟨"ARC_NOTICE_STATUS", 0x10, [], [⟨17, 0, .w1c, 0⟩]⟩ := by decide +kernel

theorem regAt_noticeMask : regAt ARC_NOTICE_MASK = some ⟨"ARC_NOTICE_MASK", 0x18, [], [⟨17, 0, .rw, 0x3ffff⟩]⟩ := by decide +kernel

/-- The status is W1C throughout. -/
theorem State.reg_plainWrite_noticeStatus (s : State) (v : U64) :
    (s.plainWrite ARC_NOTICE_STATUS v).reg ARC_NOTICE_STATUS = s.reg ARC_NOTICE_STATUS &&& ~~~ (v &&& 0x3FFFF#64) := by
  have hstore (w : U64) : storedWord ARC_NOTICE_STATUS w = w := rfl
  have htaken : s.takenMask [⟨17, 0, .w1c, 0⟩] = 0#64 := rfl
  have hw1c : kindMask (fun k => decide (k = .w1c)) [⟨17, 0, .w1c, 0⟩] = 0x3FFFF#64 := rfl
  rw [State.plainWrite_eq s _ v _ regAt_noticeStatus, State.reg_setReg_same, hstore, htaken, hw1c, and_not_zero, BitVec.and_zero, BitVec.or_zero]

/-- The mask is RW throughout. -/
theorem State.getF_plainWrite_noticeMask (s : State) (v : U64) :
    (s.plainWrite ARC_NOTICE_MASK v).getF ARC_NOTICE_MASK.MASK = v.toNat % 2 ^ 18 := by
  have hstore (w : U64) : storedWord ARC_NOTICE_MASK w = w := rfl
  have htaken : s.takenMask [⟨17, 0, .rw, 0x3ffff⟩] = 0x3FFFF#64 := rfl
  have hw1c : kindMask (fun k => decide (k = .w1c)) [⟨17, 0, .rw, 0x3ffff⟩] = 0#64 := rfl
  have hword : (s.plainWrite ARC_NOTICE_MASK v).reg ARC_NOTICE_MASK = (s.reg ARC_NOTICE_MASK &&& ~~~ 0x3FFFF#64) ||| (v &&& 0x3FFFF#64) := by
    rw [State.plainWrite_eq s _ v _ regAt_noticeMask, State.reg_setReg_same, hstore, htaken, hw1c, BitVec.and_zero, and_not_zero]
  calc ARC_NOTICE_MASK.MASK.get ((s.plainWrite ARC_NOTICE_MASK v).reg ARC_NOTICE_MASK)
      = ARC_NOTICE_MASK.MASK.get v := by rw [hword, Fld.get_maskedWrite _ _ v _ (by decide)]
    _ = v.toNat % 2 ^ 18 := by simp [Fld.get, ARC_NOTICE_MASK.MASK]

@[simp] theorem State.noticeResend_regs (s : State) : s.noticeResend.regs = s.regs := by
  unfold State.noticeResend
  split
  · rfl
  · exact State.msixSend_regs s _

/-- The message of a write goes out over PCIe when the write leaves an unmasked bit set, and only then. -/
theorem State.msix_noticeResend (s : State) (hroot : s.bitF CHN_CFG.MASTER = false) (hon : s.bus.msixOn = true)
    (hheld : (s.bus.fnMask || s.bus.vecMask.getLsbD (s.getF ARC_NOTICE_VECTOR.VECTOR)) = false) :
    s.noticeResend.bus.msix = if s.getF ARC_NOTICE_STATUS.NOTICE &&& (0x3FFFF - s.getF ARC_NOTICE_MASK.MASK) = 0 then s.bus.msix
      else s.getF ARC_NOTICE_VECTOR.VECTOR :: s.bus.msix := by
  unfold State.noticeResend
  split
  · rfl
  · rw [State.msixSend_local s _ hroot, State.msixLocal_sent s _ hon hheld, State.setBus_bus]

/-- A write of either notice register, to a ready engine: the register is written and the message of R34 follows. -/
theorem does_noticeWrite {c : Instr} {s : State} {off : Nat} {v : U64} {P : State → Prop}
    (hc : exec c s = s.host (s.writeArc off v)) (hoff : off = ARC_NOTICE_STATUS ∨ off = ARC_NOTICE_MASK) (hs : s.serves)
    (hP : P ((s.plainWrite off v).noticeResend.setPending s.pending)) : Does c s P := by
  have harc : s.writeArc off v = (s.plainWrite off v).noticeResend := if_pos hoff
  obtain ⟨hrun, hready⟩ := hs
  exact ⟨_, by rw [hc, harc, State.host_ready s _ hrun hready], hP⟩

section NoticeWrite

variable (s : State) (off : Nat) (v : U64)

theorem State.reg_noticeWrite (o : Nat) :
    ((s.plainWrite off v).noticeResend.setPending s.pending).reg o = (s.plainWrite off v).reg o :=
  State.reg_congr _ _ (State.noticeResend_regs _) o

theorem State.getF_noticeWrite (f : Fld) :
    ((s.plainWrite off v).noticeResend.setPending s.pending).getF f = (s.plainWrite off v).getF f :=
  State.getF_congr _ _ (State.noticeResend_regs _) f

/-- The message of a write of the status or the mask, by what the write leaves in both. -/
theorem State.msix_noticeWrite (hoff : off = ARC_NOTICE_STATUS ∨ off = ARC_NOTICE_MASK) (hroot : s.bitF CHN_CFG.MASTER = false)
    (hon : s.bus.msixOn = true) (hheld : (s.bus.fnMask || s.bus.vecMask.getLsbD (s.getF ARC_NOTICE_VECTOR.VECTOR)) = false) :
    ((s.plainWrite off v).noticeResend.setPending s.pending).bus.msix =
      if (s.plainWrite off v).getF ARC_NOTICE_STATUS.NOTICE &&& (0x3FFFF - (s.plainWrite off v).getF ARC_NOTICE_MASK.MASK) = 0 then s.bus.msix
      else s.getF ARC_NOTICE_VECTOR.VECTOR :: s.bus.msix := by
  have hmaster : (s.plainWrite off v).getF CHN_CFG.MASTER = s.getF CHN_CFG.MASTER :=
    State.getF_plainWrite_other s off v _ (by rcases hoff with rfl | rfl <;> decide)
  have hvec : (s.plainWrite off v).getF ARC_NOTICE_VECTOR.VECTOR = s.getF ARC_NOTICE_VECTOR.VECTOR :=
    State.getF_plainWrite_other s off v _ (by rcases hoff with rfl | rfl <;> decide)
  have hsent := State.msix_noticeResend (s.plainWrite off v) (by rw [State.bitF, hmaster]; exact hroot) (by simpa using hon)
    (by simpa [hvec] using hheld)
  simpa only [State.setPending_bus, State.bus_plainWrite, hvec] using hsent

end NoticeWrite

/-! ### The clauses of NoticesAndTheirMessages -/

/-- Where the message of a notice that rises goes, on a unit that is its own master: out, into the pending-bit array, or nowhere. -/
theorem State.bus_raise_local (s : State) (n : Notice) (hb : (s.getF ARC_NOTICE_STATUS.NOTICE).testBit n.bit = false)
    (hm : (s.getF ARC_NOTICE_MASK.MASK).testBit n.bit = false) (hroot : s.bitF CHN_CFG.MASTER = false) :
    let vec := s.getF ARC_NOTICE_VECTOR.VECTOR
    let held := s.bus.fnMask || s.bus.vecMask.getLsbD vec
    (s.bus.msixOn = true → held = false → (s.raise n).bus = { s.bus with msix := vec :: s.bus.msix }) ∧
    (s.bus.msixOn = true → held = true → (s.raise n).bus = { s.bus with pba := s.bus.pba ||| (1#64 <<< vec) }) ∧
    (s.bus.msixOn = false → (s.raise n).bus = s.bus) := by
  rw [State.raise_sends s n hb hm, State.msixSend_local _ _ (by rw [State.master_withNotice, hroot])]
  refine ⟨fun hon hheld => ?_, fun hon hheld => ?_, fun hon => ?_⟩
  · rw [State.msixLocal_sent (s.withNotice n) _ hon hheld]; rfl
  · rw [State.msixLocal_held (s.withNotice n) _ hon hheld]; rfl
  · rw [State.msixLocal_off (s.withNotice n) _ hon]; rfl

/-- On a unit whose master is the root, the message is forwarded (R654). -/
theorem State.raise_forwards (s : State) (n : Notice) (hb : (s.getF ARC_NOTICE_STATUS.NOTICE).testBit n.bit = false)
    (hm : (s.getF ARC_NOTICE_MASK.MASK).testBit n.bit = false) (hroot : s.bitF CHN_CFG.MASTER = true) :
    (s.raise n).bus = s.bus ∧ ∃ m, (s.raise n).chn.inject = s.chn.inject ++ [m] ∧ m.op = opIrqFwd ∧
      m.inline = leBytes 32 (s.getF ARC_NOTICE_VECTOR.VECTOR) := by
  rw [State.raise_sends s n hb hm, State.msixSend_root _ _ (by rw [State.master_withNotice, hroot])]
  exact ⟨rfl, _, rfl, rfl, rfl⟩

theorem does_noticeStatusWrite (s : State) (v : U64) (hs : s.serves) (hroot : s.bitF CHN_CFG.MASTER = false) (hon : s.bus.msixOn = true)
    (hheld : (s.bus.fnMask || s.bus.vecMask.getLsbD (s.getF ARC_NOTICE_VECTOR.VECTOR)) = false) :
    Does (.arcNoticeStatusWrite v) s (fun u => u.reg ARC_NOTICE_STATUS = s.reg ARC_NOTICE_STATUS &&& ~~~ (v &&& 0x3FFFF#64) ∧
      (∀ o, o ≠ ARC_NOTICE_STATUS → u.reg o = s.reg o) ∧
      u.bus.msix = if u.getF ARC_NOTICE_STATUS.NOTICE &&& (0x3FFFF - s.getF ARC_NOTICE_MASK.MASK) = 0 then s.bus.msix
        else s.getF ARC_NOTICE_VECTOR.VECTOR :: s.bus.msix) := by
  refine does_noticeWrite rfl (.inl rfl) hs ⟨?_, fun o ho => ?_, ?_⟩
  · rw [State.reg_noticeWrite, State.reg_plainWrite_noticeStatus]
  · rw [State.reg_noticeWrite, State.reg_plainWrite_other s _ o v ho]
  · rw [State.msix_noticeWrite s _ v (.inl rfl) hroot hon hheld, State.getF_noticeWrite,
      State.getF_plainWrite_other s _ v ARC_NOTICE_MASK.MASK (by decide)]

theorem does_noticeMaskWrite (s : State) (v : U64) (hs : s.serves) (hroot : s.bitF CHN_CFG.MASTER = false) (hon : s.bus.msixOn = true)
    (hheld : (s.bus.fnMask || s.bus.vecMask.getLsbD (s.getF ARC_NOTICE_VECTOR.VECTOR)) = false) :
    Does (.arcNoticeMaskWrite v) s (fun u => u.getF ARC_NOTICE_MASK.MASK = v.toNat % 2 ^ 18 ∧
      (∀ o, o ≠ ARC_NOTICE_MASK → u.reg o = s.reg o) ∧
      u.bus.msix = if s.getF ARC_NOTICE_STATUS.NOTICE &&& (0x3FFFF - v.toNat % 2 ^ 18) = 0 then s.bus.msix
        else s.getF ARC_NOTICE_VECTOR.VECTOR :: s.bus.msix) := by
  refine does_noticeWrite rfl (.inr rfl) hs ⟨?_, fun o ho => ?_, ?_⟩
  · rw [State.getF_noticeWrite, State.getF_plainWrite_noticeMask]
  · rw [State.reg_noticeWrite, State.reg_plainWrite_other s _ o v ho]
  · rw [State.msix_noticeWrite s _ v (.inr rfl) hroot hon hheld, State.getF_plainWrite_noticeMask,
      State.getF_plainWrite_other s _ v ARC_NOTICE_STATUS.NOTICE (by decide)]

end Sys2Proof.Machine

open Sys2Proof Sys2Proof.Machine

/-- Settles O10: `State.raise_changes_iff` says when a raised notice is a rising unmasked bit, and the clauses follow from where one message
goes. -/
theorem noticesAndTheirMessages : Obligations.NoticesAndTheirMessages := by
  refine fun s v => ⟨fun n => ⟨?_, fun i hi => ?_, fun hb hm => ⟨?_, ?_⟩, fun h => ?_⟩, fun hs hroot hon hheld => ⟨?_, ?_⟩⟩
  · simp [State.testBit_raise]
  · simp [State.testBit_raise, hi.symm]
  · exact State.bus_raise_local s n hb hm
  · exact State.raise_forwards s n hb hm
  · rw [State.raise_quiet s n h]
    exact ⟨rfl, rfl⟩
  · exact does_noticeStatusWrite s v hs hroot hon hheld
  · exact does_noticeMaskWrite s v hs hroot hon hheld

end

section
/-!
SUPPORT. The host before READY (R114): a BAR2 read returns all ones, and the commands that stand for one host write outside the MKR block
have no effect.
-/

namespace Sys2Proof.Machine

/-! ### BAR2 reads -/

theorem State.bar2Read_notReady (s : State) (x n : Nat) (h : s.ready = false) : s.bar2Read x n = s.readBack (allOnes n) := by
  simp only [State.bar2Read, h, Bool.not_false, if_true]

/-- Before READY a BAR2 read returns all ones and changes nothing (R114). -/
theorem does_bar2Read_notReady (s : State) (x n : Nat) (hs : s.awake) (h : s.ready = false) :
    Does (.bar2Read x n) s (fun u => u = s.readBack (allOnes n)) := by
  refine ⟨_, State.live_running s _ hs, ?_⟩
  rw [State.bar2Read_notReady s x n h]
  rfl

/-! ### Commands that are host writes -/

/-- The command is one host write outside the MKR block: whatever it does goes through the gate of `State.host`. -/
def HostGated (c : Instr) : Prop := ∀ s : State, ∃ s' : State, exec c s = s.host s'

/-- Before READY such a command is ignored (R114). -/
theorem HostGated.ignored {c : Instr} (hc : HostGated c) (s : State) (h : s.ready = false) : exec c s = .next s := by
  obtain ⟨s', hexec⟩ := hc s
  rw [hexec, State.host_ignored s s' (.inr h)]

end Sys2Proof.Machine

open Sys2Proof Sys2Proof.Machine

/-- Settles O5: the gate of `State.hostWrite` drops a register write by its offset, and the meaning of each command of the list goes through
`State.host`, which lets nothing pass before READY. That a command that stands for a host write waits as the write does is log entry 37. -/
theorem hostWritesWaitForReady : Obligations.HostWritesWaitForReady := by
  intro s t v r n k u p i g q x data mask hready
  refine ⟨fun hs => ⟨fun off h hmkr hpcie => ?_, fun k => ?_⟩, fun c hc => HostGated.ignored ?_ s hready⟩
  · exact does_registerWrite_dropped s t off h v hs (.inr (.inl ⟨hready, hmkr⟩)) hpcie
  · exact does_bar2Read_notReady s x k hs hready
  · revert c
    simp only [List.forall_mem_cons, List.not_mem_nil, false_imp_iff, implies_true, and_true]
    and_intros
    all_goals exact fun _ => ⟨_, rfl⟩

end

section
/-!
SUPPORT. Galleys as the host reads them (R174, R176, R179, R202 to R204): what the check of an unharmed word finds, what a consumer takes
of a galley, the flags of the word taken, and what a host read gives.
-/

namespace Sys2Proof.Machine

/-! ### The state of a galley -/

@[simp] theorem State.gal_setGal_same (s : State) (g : GalleyId) (x : Galley) : (s.setGal g x).gal g = x := Vector.getElem_set_self g.isLt

/-- Counting what a check finds touches registers only. -/
theorem State.galCheck_regs_only (s : State) (ecc : Ecc) : ∃ r, s.galCheck ecc = { s with regs := r } := by
  cases ecc <;> exact ⟨_, rfl⟩

/-! ### The check of a word as it was stored (R174, R176) -/

theorem CWord.flip_nothing (w : CWord) : w.flip {} = w := by
  have hzero {n : Nat} (b : BitVec n) : b ^^^ 0 = b := BitVec.xor_zero
  simp only [CWord.flip, hzero]

/-- Each check bit agrees with the data. -/
theorem CWord.place_make (d : U64) (e : Bool) : (CWord.make d e).place = 0 := by
  simp [CWord.place, CWord.make, checkBits, List.range_succ]

/-- The last check bit makes the parity even. -/
theorem CWord.odd_make (d : U64) (e : Bool) : (CWord.make d e).odd = false := by
  simp [CWord.odd, CWord.make, checkBits, evenBit, List.range_succ, Bool.xor_left_comm]

theorem CWord.found_make (d : U64) (e : Bool) : (CWord.make d e).found = .clean := by
  simp [CWord.found, CWord.odd_make, CWord.place_make]

/-- A word that nothing struck is delivered as it was written. -/
theorem CWord.value_make (d : U64) (e : Bool) : (CWord.make d e).value = d := by
  rw [CWord.value, CWord.found_make]
  rfl

/-! ### Taking a word (R176, R179) -/

/-- A word w is the next that the consumer takes, before the words ws: no synthetic end word comes first, and w is visible. -/
def Galley.Next (x : Galley) (w : CWord) (ws : List CWord) : Prop := x.synth = false ∧ x.words = w :: ws ∧ 0 < x.visible

namespace Galley.Next

variable {x : Galley} {w : CWord} {ws : List CWord}

theorem available (h : x.Next w ws) : x.available = true := by
  obtain ⟨-, -, hvis⟩ := h
  simp [Galley.available, hvis]

theorem pop (h : x.Next w ws) (depth : Nat) : ∃ y, x.pop depth = (some w.read, y) ∧ y.words = ws := by
  obtain ⟨hsynth, hwords, hvis⟩ := h
  simp [Galley.pop, hsynth, hwords, Nat.ne_of_gt hvis]

theorem head (h : x.Next w ws) : x.head = some w.value := by
  obtain ⟨hsynth, hwords, hvis⟩ := h
  simp [Galley.head, hsynth, hwords, Nat.ne_of_gt hvis]

end Galley.Next

/-- An empty galley has neither a synthetic end word nor a visible one. -/
theorem Galley.available_eq_false_iff (x : Galley) : x.available = false ↔ x.synth = false ∧ x.visible = 0 := by
  simp [Galley.available]

theorem Galley.pop_empty (x : Galley) (depth : Nat) (h : x.available = false) : x.pop depth = (none, x) := by
  obtain ⟨hsynth, hvis⟩ := x.available_eq_false_iff.1 h
  simp [Galley.pop, hsynth, hvis]

theorem Galley.head_empty (x : Galley) (h : x.available = false) : x.head = none := by
  obtain ⟨hsynth, hvis⟩ := x.available_eq_false_iff.1 h
  simp [Galley.head, hsynth, hvis]

theorem State.galPop_empty (s : State) (g : GalleyId) (h : (s.gal g).available = false) : s.galPop g = (none, s) := by
  simp only [State.galPop, Galley.pop_empty _ _ h]

/-- The consumer takes the next word and leaves the others; a galley touches nothing of the PCIe side. -/
theorem State.galPop_next {s : State} {g : GalleyId} {w : CWord} {ws : List CWord} (h : (s.gal g).Next w ws) :
    ∃ u, s.galPop g = (some w.read, u) ∧ (u.gal g).words = ws ∧ u.bus = s.bus := by
  obtain ⟨y, hpop, hrest⟩ := h.pop (galDepth g)
  obtain ⟨r, hr⟩ := State.galCheck_regs_only (s.setGal g y.wrap) (s.gal g).headFound
  refine ⟨(s.setGal g y.wrap).galCheck (s.gal g).headFound, ?_, ?_, ?_⟩
  · simp only [State.galPop, hpop]
  · rw [hr]
    exact (congrArg Galley.words (State.gal_setGal_same s g y.wrap)).trans hrest
  · rw [hr]
    rfl

/-! ### The flags of the word taken (R202) -/

theorem State.getF_galLatch (s : State) (w : GWord) :
    (s.galLatch w).getF GAL_HOST_RX_FLAGS.VALID = 1 ∧ (s.galLatch w).getF GAL_HOST_RX_FLAGS.END = w.isEnd.toNat ∧
    (s.galLatch w).getF GAL_HOST_RX_FLAGS.ABORT = w.isAbort.toNat ∧ (s.galLatch w).getF GAL_HOST_RX_FLAGS.POISON = w.isPoison.toNat := by
  have hbit (b : Bool) : b.toNat % 2 ^ 1 = b.toNat := Nat.mod_eq_of_lt b.toNat_lt
  simp (disch := decide) only [State.galLatch, State.getF_setF_other, State.getF_setF_same]
  exact ⟨rfl, hbit w.isEnd, hbit w.isAbort, hbit w.isPoison⟩

/-! ### Host reads of galley 49 (R202 to R204) -/

/-- A read that finds the galley empty waits, whatever its form. -/
theorem State.galHostRead_empty (s : State) (form : RxForm) (h : (s.gal 49).available = false) :
    s.galHostRead form = s.setRxWait (some form) := by
  cases form <;> simp only [State.galHostRead, Galley.head_empty _ h, State.galPop_empty s 49 h]

/-- A read of the lower half tells the head word and takes nothing. -/
theorem State.galHostRead_lower {s : State} {w : CWord} {ws : List CWord} (h : (s.gal 49).Next w ws) :
    s.galHostRead .lower = s.readBack (leBytes 4 w.value.toNat) := by
  simp only [State.galHostRead, h.head]

/-- A read that takes the head word w, before the words ws, tells the bytes bs and latches the flags of w. -/
def State.TookHead (s : State) (w : CWord) (ws : List CWord) (bs : List Byte) (u : State) : Prop :=
  u.bus = { s.bus with lastRead := bs } ∧ (u.gal 49).words = ws ∧ u.getF GAL_HOST_RX_FLAGS.VALID = 1 ∧
  u.getF GAL_HOST_RX_FLAGS.END = w.isEnd.toNat ∧ u.getF GAL_HOST_RX_FLAGS.ABORT = 0 ∧
  u.getF GAL_HOST_RX_FLAGS.POISON = (decide (w.found = .double)).toNat

/-- A pop, the latching of its flags and the giving of its bytes are such a read. -/
theorem State.tookHead_latched {s u : State} {w : CWord} {ws : List CWord} (bs : List Byte) (hwords : (u.gal 49).words = ws)
    (hbus : u.bus = s.bus) : s.TookHead w ws bs ((u.galLatch w.read).readBack bs) := by
  refine ⟨?_, hwords, State.getF_galLatch u w.read⟩
  rw [← hbus]
  rfl

theorem State.galHostRead_full {s : State} {w : CWord} {ws : List CWord} (h : (s.gal 49).Next w ws) :
    s.TookHead w ws (leBytes 8 w.value.toNat) (s.galHostRead .full) := by
  obtain ⟨u, hpop, hwords, hbus⟩ := State.galPop_next h
  simp only [State.galHostRead, hpop]
  exact State.tookHead_latched _ hwords hbus

theorem State.galHostRead_upper {s : State} {w : CWord} {ws : List CWord} (h : (s.gal 49).Next w ws) :
    s.TookHead w ws (leBytes 4 (w.value.toNat / 2 ^ 32)) (s.galHostRead .upper) := by
  obtain ⟨u, hpop, hwords, hbus⟩ := State.galPop_next h
  simp only [State.galHostRead, hpop]
  exact State.tookHead_latched _ hwords hbus

/-! ### A word that comes to a read that waits (R204) -/

/-- A stream-mode galley with room stores a word (R175). -/
theorem Galley.push_stream (depth maxItem : Nat) (x : Galley) (w : CWord) (e : Bool) (hstate : x.state = .normal)
    (hdrop : x.dropping = false) (hroom : x.words.length < depth) :
    ∃ lim, Galley.push depth false maxItem x w e = Galley.store depth false { x with itemMax := lim } w e :=
  ⟨if !x.partialIn then maxItem else x.itemMax, by simp [Galley.push, hstate, hdrop, Nat.not_le.2 hroom]⟩

/-- A word written to galley 49 while it is empty is the next that its consumer takes. -/
theorem State.gal49_galWrite_empty (s : State) (d : U64) (e : Bool) (hstate : (s.gal 49).state = .normal)
    (hdrop : (s.gal 49).dropping = false) (hsynth : (s.gal 49).synth = false) (hwords : (s.gal 49).words = []) :
    ((s.galWrite 49 { data := d } e).gal 49).Next (CWord.make d e) [] := by
  have hroom : (s.gal 49).words.length < 512 := by simp [hwords]
  obtain ⟨lim, hpush⟩ := Galley.push_stream 512 (s.getF (GAL_CFG.MAX_ITEM 49)) (s.gal 49) (CWord.make d e) e hstate hdrop hroom
  have hgal : (s.galWrite 49 { data := d } e).gal 49 =
      (Galley.store 512 false { s.gal 49 with itemMax := lim } (CWord.make d e) e).wrap := by
    rw [← hpush, ← CWord.flip_nothing (CWord.make d e)]
    exact State.gal_setGal_same s 49 _
  rw [hgal]
  simp [Galley.Next, Galley.store, Galley.wrap, Galley.visible, hsynth, hwords]

/-- A read that waits is answered as a read made when the word is there. -/
theorem State.rxServe_answer (s : State) (form : RxForm) (hwait : s.bus.rxWait = some form) (h : (s.gal 49).available = true) :
    s.rxServe = (s.setRxWait none).galHostRead form := by
  simp only [State.rxServe, hwait, h, if_true]

/-! ### The clauses of HostReadsTakeGalley49 -/

/-- What a read from READY on leads to, of the state that the read itself gives. -/
theorem does_galHostRxData {s : State} {form : RxForm} {P : State → Prop} (hs : s.serves)
    (hP : P ((s.galHostRead form).setPending s.pending)) : Does (.galHostRxData form) s P :=
  ⟨_, State.hostRd_ready s _ form hs.1 hs.2, hP⟩

/-- A word that comes answers the full read that waits for it. -/
theorem does_galleyPush49_answers (s : State) (d : U64) (e : Bool) (hs : s.awake) (hwait : s.bus.rxWait = some .full)
    (hstate : (s.gal 49).state = .normal) (hdrop : (s.gal 49).dropping = false) (hsynth : (s.gal 49).synth = false)
    (hwords : (s.gal 49).words = []) :
    Does (.galleyPush 49 { data := d } e) s (fun u => u.bus.lastRead = leBytes 8 d.toNat ∧ u.bus.rxWait = none ∧
      u.getF GAL_HOST_RX_FLAGS.VALID = 1 ∧ (u.gal 49).words = []) := by
  have hnext := State.gal49_galWrite_empty s d e hstate hdrop hsynth hwords
  have hexec : exec (.galleyPush 49 { data := d } e) s =
      .next (((s.galWrite 49 { data := d } e).setRxWait none).galHostRead .full |>.setPending s.pending) := by
    rw [← State.rxServe_answer (s.galWrite 49 { data := d } e) .full hwait hnext.available]
    exact State.live_running s _ hs
  obtain ⟨hbus, hleft, hvalid, -⟩ := State.galHostRead_full (s := (s.galWrite 49 { data := d } e).setRxWait none) hnext
  rw [CWord.value_make] at hbus
  exact ⟨_, hexec, congrArg Bus.lastRead hbus, congrArg Bus.rxWait hbus, hvalid, hleft⟩

/-- The wait of a read ends: it tells 0 and latches VALID 0. -/
theorem does_hostRxEmptyTimeout_waiting (s : State) (form : RxForm) (hs : s.awake) (hwait : s.bus.rxWait = some form) :
    Does .hostRxEmptyTimeout s (fun u => u.bus.lastRead = leBytes (rxBytes form) 0 ∧ u.bus.rxWait = none ∧
      u.getF GAL_HOST_RX_FLAGS.VALID = 0 ∧ u.gals = s.gals) := by
  refine ⟨_, State.live_running s _ hs, ?_⟩
  rw [hwait]
  exact ⟨rfl, rfl, State.getF_setF_same (s.setRxWait none) GAL_HOST_RX_FLAGS.VALID 0 (by decide), rfl⟩

/-- Where no read waits, no wait ends. -/
theorem does_hostRxEmptyTimeout_idle (s : State) (hs : s.awake) (hwait : s.bus.rxWait = none) :
    Does .hostRxEmptyTimeout s (fun u => u = s) := by
  refine ⟨_, State.live_running s _ hs, ?_⟩
  rw [hwait]
  rfl

end Sys2Proof.Machine

open Sys2Proof Sys2Proof.Machine

/-- Settles O28: `State.TookHead` says what a read that takes the head word does, and a read that waits is one made again when a word comes.
The word that comes is told as it was written, since its check finds nothing (`CWord.found_make`, log entry 31). -/
theorem hostReadsTakeGalley49 : Obligations.HostReadsTakeGalley49 := by
  intro s hs
  refine ⟨fun w ws hsynth hwords hvis => ?_, fun hempty form => ?_, fun d e hwait hstate hdrop hsynth hwords => ?_, fun form hwait => ?_,
    fun hwait => ?_⟩
  · have hnext : (s.gal 49).Next w ws := ⟨hsynth, hwords, hvis⟩
    obtain ⟨hbus, hleft, hflags⟩ := State.galHostRead_full hnext
    obtain ⟨hbus', hleft', -⟩ := State.galHostRead_upper hnext
    refine ⟨does_galHostRxData hs ⟨congrArg Bus.lastRead hbus, hleft, hflags⟩,
      does_galHostRxData hs ⟨congrArg Bus.lastRead hbus', hleft'⟩, does_galHostRxData hs ?_⟩
    rw [State.galHostRead_lower hnext]
    exact ⟨rfl, rfl, rfl⟩
  · apply does_galHostRxData hs
    rw [State.galHostRead_empty s form hempty]
    exact ⟨rfl, rfl, rfl⟩
  · exact does_galleyPush49_answers s d e hs.1 hwait hstate hdrop hsynth hwords
  · exact does_hostRxEmptyTimeout_waiting s form hs.1 hwait
  · exact does_hostRxEmptyTimeout_idle s hs.1 hwait

end

section
/-!
SUPPORT. Toggle crossings (R215, R216): what a pulse does to its lane, and what one clock of the crossings does.
-/

namespace Sys2Proof.Machine

/-! ### The state of a lane -/

@[simp] theorem State.gutter_setGutter_same (s : State) (x : XLane) (g : Gutter) : (s.setGutter x g).gutter x = g :=
  tabGet_tabSet_same _ s.gutters (laneKey x) g

/-- A function of key and record that keeps the record of an unlisted key is applied to what is read. -/
theorem tabGet_map {α : Type} (d : α) (m : FMap α) (f : Nat → α → α) (k : Nat) (h : f k d = d) :
    tabGet d (m.map (fun e => (e.1, f e.1 e.2))) k = f k (tabGet d m k) := by
  induction m with
  | nil => exact h.symm
  | cons e m ih =>
    obtain ⟨k', v⟩ := e
    simp only [tabGet] at ih
    by_cases hk : k' = k
    · simp [tabGet, FMap.get, hk]
    · simp [tabGet, FMap.get, hk, ih]

theorem laneCount_le (x : XingId) : laneCount x ≤ 32 := by
  revert x
  decide

/-- A lane of a crossing is found at its place in the table of lanes. -/
theorem laneAt_laneKey (x : XLane) (h : laneOk x = true) : laneAt (laneKey x) = x := by
  have hlane : x.lane < laneCount x.x := by simpa [laneOk] using h
  have hcount := laneCount_le x.x
  obtain ⟨⟨n, hn⟩, lane⟩ := x
  simp only at hlane hcount
  simp only [laneAt, laneKey, XLane.mk.injEq, Fin.mk.injEq]
  omega

/-! ### Pulses -/

/-- The acknowledgement sends the pulse that is held, if one is. -/
theorem Gutter.pulses_acknowledged (g : Gutter) : g.acknowledged.pulses = g.pulses + g.held.toNat := by
  cases h : g.held <;> simp [Gutter.acknowledged, h]

theorem Gutter.acknowledged_free (g : Gutter) (h : g.held = false) : g.acknowledged = { g with busy := false } := by
  simp [Gutter.acknowledged, h]

theorem Gutter.acknowledged_held (g : Gutter) (h : g.held = true) :
    g.acknowledged = { g with busy := true, held := false, pulses := g.pulses + 1 } := by
  simp [Gutter.acknowledged, h]

section Pulse

-- g is the lane as a pulse finds it, the acknowledgement counted in.
variable {s : State} {x : XLane} {acked : Bool} {g : Gutter} (hx : laneToggle x = true)
  (hg : (if acked then (s.gutter x).acknowledged else s.gutter x) = g)

include hx hg

/-- A pulse that finds no other on its way goes out (R215). -/
theorem State.togglePulse_sent (hbusy : g.busy = false) :
    s.togglePulse x acked = s.setGutter x { g with busy := true, pulses := g.pulses + 1 } := by
  simp [State.togglePulse, hg, hx, hbusy]

/-- The first that finds one on its way is held (R216). -/
theorem State.togglePulse_kept (hbusy : g.busy = true) (hheld : g.held = false) :
    s.togglePulse x acked = s.setGutter x { g with held := true } := by
  simp [State.togglePulse, hg, hx, hbusy, hheld]

/-- A further one merges with the one held (R216). -/
theorem State.togglePulse_merged (hbusy : g.busy = true) (hheld : g.held = true) :
    s.togglePulse x acked = s.incSat (GAL_XING.MERGED x.x) := by
  simp [State.togglePulse, hg, hx, hbusy, hheld]

end Pulse

/-! ### One clock of the crossings (log entry 5) -/

/-- A lane never used has nothing to give and nothing on its way. -/
theorem Gutter.clock_new (x : XLane) : Gutter.clock x {} = {} := by
  simp [Gutter.clock, Gutter.acknowledged, Gutter.take]

/-- The acknowledgement of a toggle returns. -/
theorem State.gutter_gutterDrain_toggle (s : State) (x : XLane) (hx : laneToggle x = true) :
    s.gutterDrain.gutter x = (s.gutter x).acknowledged := by
  have hok : laneOk x = true := (Bool.and_eq_true_iff.1 hx).1
  calc s.gutterDrain.gutter x
      = (s.gutter x).clock (laneAt (laneKey x)) :=
        tabGet_map ({} : Gutter) s.gutters (fun k g => g.clock (laneAt k)) (laneKey x) (Gutter.clock_new _)
    _ = (s.gutter x).acknowledged := by rw [laneAt_laneKey x hok, Gutter.clock, if_pos hx]

/-! ### The clauses of PulsesAreHeldAndMerged -/

/-- What a command does, it does in weaker words too. -/
theorem Does.mono {c : Instr} {s : State} {P Q : State → Prop} (h : Does c s P) (hPQ : ∀ u, P u → Q u) : Does c s Q := by
  obtain ⟨u, hexec, hP⟩ := h
  exact ⟨u, hexec, hPQ u hP⟩

/-- What a pulse leads to while the engine runs, of the state that the pulse itself gives. -/
theorem does_togglePulse {s : State} {x : XLane} {acked : Bool} {P : State → Prop} (hs : s.awake)
    (hP : P ((s.togglePulse x acked).setPending s.pending)) : Does (.togglePulse x acked) s P :=
  ⟨_, State.live_running s _ hs, hP⟩

/-- A pulse that replaces its lane leaves it as it was put. -/
theorem does_togglePulse_lane {s : State} {x : XLane} {acked : Bool} {g : Gutter} (hs : s.awake)
    (hpulse : s.togglePulse x acked = s.setGutter x g) : Does (.togglePulse x acked) s (fun u => u.gutter x = g) := by
  apply does_togglePulse hs
  rw [hpulse]
  exact State.gutter_setGutter_same s x g

end Sys2Proof.Machine

open Sys2Proof Sys2Proof.Machine

/-- Settles O29: a pulse goes out, is held or merges by what its lane has on its way, once the acknowledgement is counted in; that the
acknowledgement returns with the clock of `State.gutterDrain` is log entry 5. -/
theorem pulsesAreHeldAndMerged : Obligations.PulsesAreHeldAndMerged := by
  intro s x hs hx
  refine ⟨fun hheld => ?_, fun hheld => ?_, fun hbusy => ?_, fun hbusy hheld => ?_, fun hbusy hheld => ?_, ?_⟩
  · have hpulse := State.togglePulse_sent (acked := true) hx (Gutter.acknowledged_free (s.gutter x) hheld) rfl
    refine (does_togglePulse_lane hs hpulse).mono fun u hu => ?_
    rw [hu]
    exact ⟨rfl, rfl, hheld⟩
  · have hpulse := State.togglePulse_kept (acked := true) hx (Gutter.acknowledged_held (s.gutter x) hheld) rfl rfl
    refine (does_togglePulse_lane hs hpulse).mono fun u hu => ?_
    rw [hu]
    exact ⟨rfl, rfl, rfl⟩
  · have hpulse := State.togglePulse_sent (acked := false) hx rfl hbusy
    refine (does_togglePulse_lane hs hpulse).mono fun u hu => ?_
    rw [hu]
    exact ⟨rfl, rfl⟩
  · have hpulse := State.togglePulse_kept (acked := false) hx rfl hbusy hheld
    refine (does_togglePulse_lane hs hpulse).mono fun u hu => ?_
    rw [hu]
    exact ⟨rfl, rfl⟩
  · apply does_togglePulse hs
    rw [State.togglePulse_merged (acked := false) hx rfl hbusy hheld]
    refine ⟨rfl, State.getF_incSat s (GAL_XING.MERGED x.x) 1 ?_⟩
    exact Nat.le_refl 64
  · rw [State.gutter_gutterDrain_toggle s x hx, Gutter.pulses_acknowledged]

end

section
/-!
SUPPORT. Streams and stipple products (R407, R408), and what a draw does to a screen (R411).
-/

namespace Sys2Proof.Machine

/-! ### Counting over lists -/

theorem sum_map_add {α : Type} (f g : α → Nat) (l : List α) :
    (l.map fun a => f a + g a).sum = (l.map f).sum + (l.map g).sum := by
  induction l with
  | nil => rfl
  | cons a l ih =>
    simp only [List.map_cons, List.sum_cons, ih]
    omega

theorem sum_map_ite {α : Type} (p : α → Bool) (l : List α) : (l.map fun a => if p a = true then 1 else 0).sum = l.countP p := by
  induction l with
  | nil => rfl
  | cons a l ih => rw [List.map_cons, List.sum_cons, ih, List.countP_cons, Nat.add_comm]

/-- The pairs of a relation, counted by rows and by columns. -/
theorem sum_countP_comm {α β : Type} (p : α → β → Bool) (l : List α) (m : List β) :
    (l.map fun a => m.countP (p a)).sum = (m.map fun b => l.countP fun a => p a b).sum := by
  induction m with
  | nil => simp only [List.countP_nil, List.map_const', List.sum_replicate_nat, Nat.mul_zero, List.map_nil, List.sum_nil]
  | cons b m ih => simp only [List.countP_cons, List.map_cons, List.sum_cons, sum_map_add, sum_map_ite, ih, Nat.add_comm]

theorem sum_map_const {α : Type} (c : Nat) (l : List α) : (l.map fun _ => c).sum = l.length * c := by
  rw [List.map_const', List.sum_replicate_nat]

theorem reverse_range (n : Nat) : (List.range n).reverse = (List.range n).map fun i => n - 1 - i := by
  calc (List.range n).reverse = (List.range' 0 n).reverse := congrArg List.reverse List.range_eq_range'
    _ = (List.range n).map fun i => n - 1 - i := by rw [List.reverse_range', Nat.zero_add]

theorem countP_range_lt (x n : Nat) : ((List.range n).countP fun i => decide (i < x)) = min x n := by
  induction n with
  | zero => exact (Nat.min_zero x).symm
  | succ n ih =>
    rw [List.range_succ, List.countP_append, List.countP_singleton, ih]
    simp only [decide_eq_true_eq]
    split <;> omega

/-- A count over one period does not depend on where it starts. -/
theorem countP_range_add_of_periodic {p : Nat → Bool} {n : Nat} (hp : ∀ j, p (j + n) = p j) (c : Nat) :
    ((List.range n).countP fun i => p (i + c)) = (List.range n).countP p := by
  induction c with
  | zero => rfl
  | succ c ih =>
    have hsucc : (fun i => p (i + c)) ∘ Nat.succ = fun i => p (i + (c + 1)) :=
      funext fun i => congrArg p (Nat.succ_add_eq_add_succ i c)
    have hends : ((List.range n).countP fun i => p (i + (c + 1))) + (if p c = true then 1 else 0) =
        ((List.range n).countP fun i => p (i + c)) + (if p c = true then 1 else 0) := by
      calc ((List.range n).countP fun i => p (i + (c + 1))) + (if p c = true then 1 else 0)
          = (List.range (n + 1)).countP fun i => p (i + c) := by
            rw [List.range_succ_eq_map, List.countP_cons, List.countP_map, hsucc, Nat.zero_add]
        _ = ((List.range n).countP fun i => p (i + c)) + (if p c = true then 1 else 0) := by
            rw [List.range_succ, List.countP_append, List.countP_singleton, Nat.add_comm n c, hp c]
    exact (Nat.add_right_cancel hends).trans ih

/-! ### Streams (R407) -/

/-- Wherever a count modulo 256 starts, x of 256 values lie below x. -/
theorem countP_add_mod_lt {x : Nat} (hx : x < 256) (c : Nat) :
    ((List.range 256).countP fun i => decide ((i + c) % 256 < x)) = x := by
  have hperiodic (j : Nat) : decide ((j + 256) % 256 < x) = decide (j % 256 < x) := by rw [Nat.add_mod_right]
  calc ((List.range 256).countP fun i => decide ((i + c) % 256 < x))
      = (List.range 256).countP fun i => decide (i % 256 < x) :=
        countP_range_add_of_periodic (p := fun j => decide (j % 256 < x)) hperiodic c
    _ = (List.range 256).countP fun i => decide (i < x) :=
        List.countP_congr fun i hi => by rw [Nat.mod_eq_of_lt (List.mem_range.1 hi)]
    _ = x := by rw [countP_range_lt, Nat.min_eq_left (Nat.le_of_lt hx)]

/-- The stream of an operand is a block of ones, turned to where the byte says. -/
theorem streamBit_eq (x r i : Nat) : streamBit x r i = decide ((i + (256 - r % 256)) % 256 < x) := by
  rw [streamBit, Nat.add_sub_assoc (Nat.le_of_lt (Nat.mod_lt r (by decide)))]

/-- A byte counted down from 255 turns the stream the other way. -/
theorem streamBit_reflect (x i : Nat) {r : Nat} (hr : r < 256) :
    streamBit x (256 - 1 - r) i = decide ((r + (i + 1)) % 256 < x) := by
  have hreflect : i + 256 - (256 - 1 - r) % 256 = r + (i + 1) := by omega
  rw [streamBit, hreflect]

/-- Over the bits of one stream: it holds as many ones as the operand says. -/
theorem countP_streamBit {x : Nat} (hx : x < 256) (r : Nat) : (List.range 256).countP (streamBit x r) = x := by
  rw [funext (streamBit_eq x r)]
  exact countP_add_mod_lt hx (256 - r % 256)

/-- Over the screen bytes: each bit of the stream is one for as many of them as the operand says. -/
theorem countP_streamBit_bytes {x : Nat} (hx : x < 256) (i : Nat) : ((List.range 256).countP fun r => streamBit x r i) = x := by
  calc ((List.range 256).countP fun r => streamBit x r i)
      = (List.range 256).countP fun r => streamBit x (256 - 1 - r) i := by
        rw [← List.countP_reverse, reverse_range, List.countP_map]
        rfl
    _ = (List.range 256).countP fun r => decide ((r + (i + 1)) % 256 < x) :=
        List.countP_congr fun r hr => by rw [streamBit_reflect x i (List.mem_range.1 hr)]
    _ = x := countP_add_mod_lt hx (i + 1)

/-! ### Stipple products (R408) -/

/-- Of two streams of one byte, the ones of the lesser operand are ones of the other. -/
theorem streamBit_and_same (x y r i : Nat) : (streamBit x r i && streamBit y r i) = streamBit (min x y) r i := by
  simp only [streamBit, Nat.lt_min, Bool.decide_and]

theorem stipple_same {x : Nat} (hx : x < 256) (y r : Nat) : stipple x r y r = min x y := by
  simp only [stipple, streamBit_and_same]
  exact countP_streamBit (by omega) r

/-- A product counts the ones of the second stream where the first has ones. -/
theorem stipple_eq_countP_filter (x rx y ry : Nat) :
    stipple x rx y ry = ((List.range 256).filter (streamBit x rx)).countP (streamBit y ry) := by
  simp only [stipple, List.countP_filter, Bool.and_comm]

/-- Over the bytes of one side, the product averages x × y / 256 whatever the other byte is. -/
theorem sum_stipple {x y : Nat} (hx : x < 256) (hy : y < 256) (rx : Nat) :
    ((List.range 256).map fun ry => stipple x rx y ry).sum = x * y := by
  simp only [stipple_eq_countP_filter, sum_countP_comm (streamBit y), countP_streamBit_bytes hy, sum_map_const]
  rw [← List.countP_eq_length_filter, countP_streamBit hx]

/-! ### Screens (R411) -/

/-- A screen after its next draw. -/
def Screen.drawn (x : Screen) : Screen := { x with draws := if x.draws = 2 ^ 52 then 1 else x.draws + 1, left := 8 }

theorem Screen.draws_drawn_within {x : Screen} (h : x.draws < 2 ^ 52) : x.drawn.draws = x.draws + 1 := if_neg (Nat.ne_of_lt h)

theorem Screen.draws_drawn_wrap {x : Screen} (h : x.draws = 2 ^ 52) : x.drawn.draws = 1 := if_pos h

/-- A screen has made between 1 and 2^52 draws after each draw. -/
theorem Screen.draws_drawn_bounds {x : Screen} (h : x.draws ≤ 2 ^ 52) : 1 ≤ x.drawn.draws ∧ x.drawn.draws ≤ 2 ^ 52 := by
  rcases Nat.lt_or_eq_of_le h with hlt | heq
  · rw [draws_drawn_within hlt]
    omega
  · rw [draws_drawn_wrap heq]
    omega

/-- The first step of a draw lies in the segment, which is as long as 2^52 draws. -/
theorem Screen.draw_in_segment {x : Screen} (hpos : 1 ≤ x.draws) (h : x.draws ≤ 2 ^ 52) :
    x.seg * 2 ^ 58 + 64 * (x.draws - 1) < (x.seg + 1) * 2 ^ 58 := by
  omega

section Draw

variable (s : State) (i : Fin 64)

/-- Within its segment a screen moves on, and nothing else changes. -/
theorem State.screenDraw_within (h : s.rgs.screens[i].draws ≠ 2 ^ 52) :
    s.screenDraw i = (s.rgs.screens[i].drawn.word,
      s.setRgs { s.rgs with screens := s.rgs.screens.set i s.rgs.screens[i].drawn }) := by
  simp only [State.screenDraw, Screen.drawn, h, decide_false, Bool.false_eq_true, if_false]

/-- At the end of its segment it is counted as well. -/
theorem State.screenDraw_wrap (h : s.rgs.screens[i].draws = 2 ^ 52) :
    s.screenDraw i = (s.rgs.screens[i].drawn.word,
      (s.incSat RGS_SCREEN_CTRL.WRAPS).setRgs { s.rgs with screens := s.rgs.screens.set i s.rgs.screens[i].drawn }) := by
  simp only [State.screenDraw, Screen.drawn, h, decide_true, if_true]
  rfl

/-- A draw replaces its screen, whether it wraps or not. -/
theorem State.screenDraw_screens : (s.screenDraw i).2.rgs.screens = s.rgs.screens.set i s.rgs.screens[i].drawn := by
  by_cases h : s.rgs.screens[i].draws = 2 ^ 52
  · rw [State.screenDraw_wrap s i h]
    rfl
  · rw [State.screenDraw_within s i h]
    rfl

/-- A draw yields the state of the screen as it leaves it. -/
theorem State.screenDraw_word : (s.screenDraw i).1 = s.rgs.screens[i].drawn.word := by
  by_cases h : s.rgs.screens[i].draws = 2 ^ 52
  · rw [State.screenDraw_wrap s i h]
  · rw [State.screenDraw_within s i h]

theorem State.screenDraw_same : (s.screenDraw i).2.rgs.screens[i] = s.rgs.screens[i].drawn := by
  rw [State.screenDraw_screens]
  exact Vector.getElem_set_self i.isLt

theorem State.screenDraw_other {j : Fin 64} (h : j ≠ i) : (s.screenDraw i).2.rgs.screens[j] = s.rgs.screens[j] := by
  rw [State.screenDraw_screens]
  exact Vector.getElem_set_ne i.isLt j.isLt (Fin.val_ne_of_ne h.symm)

variable {s i}

theorem State.screenDraw_regs_within (h : s.rgs.screens[i].draws < 2 ^ 52) : (s.screenDraw i).2.regs = s.regs := by
  rw [State.screenDraw_within s i (Nat.ne_of_lt h), State.setRgs_regs]

theorem State.screenDraw_counted (h : s.rgs.screens[i].draws = 2 ^ 52) :
    s.counted (s.screenDraw i).2 RGS_SCREEN_CTRL.WRAPS := by
  rw [State.counted, State.screenDraw_wrap s i h, State.getF_setRgs]
  exact State.getF_incSat s RGS_SCREEN_CTRL.WRAPS 1 (by decide)

end Draw

end Sys2Proof.Machine

open Sys2Proof Sys2Proof.Machine

/-- Settles O42: a stream is a block of ones that the byte turns, so that over all bytes each of its bits is one equally often; a segment
has room for 2^52 draws of 64 steps. -/
theorem stippleProductsAndScreens : Obligations.StippleProductsAndScreens := by
  refine ⟨fun x y hx hy => ⟨fun r => ⟨countP_streamBit hx r, stipple_same hx y r⟩, ?_⟩, fun s i hdraws => ?_⟩
  · simp only [sum_stipple hx hy, sum_map_const, List.length_range]
  · obtain ⟨hpos, hle⟩ := Screen.draws_drawn_bounds hdraws
    simp only [State.screenDraw_same]
    exact ⟨rfl, rfl, hpos, hle, fun h => ⟨Screen.draws_drawn_within h, State.screenDraw_regs_within h⟩,
      fun h => ⟨Screen.draws_drawn_wrap h, State.screenDraw_counted h⟩, Screen.draw_in_segment hpos hle,
      State.screenDraw_word s i, fun j hj => State.screenDraw_other s i hj⟩

end
